-- ==== Sys2Proof/Word.lean ====
section
/-!
DEFINITION. The word types of the Controller's links and image: the octet of the frames (spec/02, R14, R29) and the
16-bit word of the Configuration Image (spec/02, R32).
-/
namespace Sys2Proof

/-- One octet of a frame (R14: each character is one octet). -/
abbrev Octet := BitVec 8

/-- One 16-bit word of the Configuration Image (R32). -/
abbrev Word := BitVec 16

end Sys2Proof
end

