-- ==== Sys2Proof/Syntax.lean ====
section
/-!
DEFINITION. The commands the Controller takes: one constructor of `Instr` for each row of spec/opcode_table.json, with
the row's operands. A request's operands are its frame (port, tag, body octets); the event of a block that another
block's handling raises has no operand beyond the train, tank or item it names, since what it carries stands in the
state until it is taken (log 2).
-/
namespace Sys2Proof

/-- The two request ports (spec/00 IV). -/
inductive Port where
  | mp
  | sp
  deriving DecidableEq, Repr

/-- The six trains, in the enumeration of the Train Report (R30). -/
inductive Train where
  | k1 | k2 | k3 | x1 | x2 | x3
  deriving DecidableEq, Repr

/-- The two kinds of train (R171): compressors K1 to K3, expanders X1 to X3. -/
inductive TrainKind where
  | compressor
  | expander
  deriving DecidableEq, Repr

/-- The three Tanks (R124). -/
inductive Tank where
  | t1 | t2 | t3
  deriving DecidableEq, Repr

/-- The twelve configuration items, in identifier order 0x01 to 0x0C (R204). -/
inductive ItemId where
  | characteristic | thresholds | rateLimit | plantRates | heatConstants | tankCapacities
  | creditWindow | gateLead | silenceTimeout | dutyRotations | envelopeTable | bindings
  deriving DecidableEq, Repr

/-- How a request frame came in: on the Market Port, or in a Supervisory Port transaction that clocked `extra`
further octets after the frame's check octet (R15: those octets are ignored, but each shifts an octet out). -/
inductive Via where
  | mp
  | sp (extra : Nat)
  deriving DecidableEq, Repr

/-- A complete request frame whose check is good, taken apart (R16, R29): its port, tag and body. -/
structure Frame where
  via : Via
  tag : Octet
  body : List Octet
  deriving DecidableEq, Repr

/-- The fields of a Train Report frame that passed its check (R30), as the line carries them. -/
structure ReportFrame where
  number : Octet
  status : Octet
  power : Word
  massFlow : Word
  heat : Word
  temperature : Word
  elapsed : Word
  deriving DecidableEq, Repr

/-- The commands, one constructor for each row of spec/opcode_table.json, in the table's order. -/
inductive Instr where
  /-- POWER_ON (R9) -/
  | powerOn
  /-- LOAD_END (R32, R201 to R203): the octets of the configuration memory from address 0; one not given reads 0xFF. -/
  | loadEnd (memory : List Octet)
  /-- CONFIG_ITEM_TAKEN (R203) -/
  | configItemTaken (item : ItemId)
  /-- CLOCK_ADVANCE (R2) -/
  | clockAdvance
  /-- COMMITMENT_BOUNDARY (R55) -/
  | commitmentBoundary
  /-- HORIZON_SHIFT (R80) -/
  | horizonShift
  /-- STANDING_LOSS (R137) -/
  | standingLoss
  /-- INTERVAL_CLOSE (R198) -/
  | intervalClose
  /-- IMBALANCE_DELIVERY (R59) -/
  | imbalanceDelivery
  /-- ENTER (R39) -/
  | enter (frame : Frame)
  /-- AMEND (R41) -/
  | amend (frame : Frame)
  /-- AMEND_PREVIEW (R49) -/
  | amendPreview (frame : Frame)
  /-- CONFIRM (R50) -/
  | confirm (frame : Frame)
  /-- RETIRE (R51) -/
  | retire (frame : Frame)
  /-- DEPLOY (R52) -/
  | deploy (frame : Frame)
  /-- LOOKUP_COMMITMENT (R54) -/
  | lookupCommitment (frame : Frame)
  /-- WALK_FIRST (R57) -/
  | walkFirst (frame : Frame)
  /-- WALK_NEXT (R58) -/
  | walkNext (frame : Frame)
  /-- CLAIM (R62) -/
  | claim (frame : Frame)
  /-- RELEASE (R63) -/
  | release (frame : Frame)
  /-- FORCE (R64) -/
  | force (frame : Frame)
  /-- LOOKUP_ROW (R81) -/
  | lookupRow (frame : Frame)
  /-- LOOKUP_HORIZON (R82) -/
  | lookupHorizon (frame : Frame)
  /-- ENTER_OUTAGE (R179) -/
  | enterOutage (frame : Frame)
  /-- RETIRE_OUTAGE (R180) -/
  | retireOutage (frame : Frame)
  /-- LOOKUP_OUTAGE (R180) -/
  | lookupOutage (frame : Frame)
  /-- LOOKUP_TRAIN (R170) -/
  | lookupTrain (frame : Frame)
  /-- LOOKUP_ENVELOPE (R171) -/
  | lookupEnvelope (frame : Frame)
  /-- SELECT_ENVELOPE (R172) -/
  | selectEnvelope (frame : Frame)
  /-- RELOAD_ENVELOPES (R174) -/
  | reloadEnvelopes (frame : Frame)
  /-- AMEND_ENVELOPE (R173) -/
  | amendEnvelope (frame : Frame)
  /-- BIND_TANK (R176) -/
  | bindTank (frame : Frame)
  /-- RESTORE_TRAIN (R168) -/
  | restoreTrain (frame : Frame)
  /-- LOOKUP_CAVERN (R121) -/
  | lookupCavern (frame : Frame)
  /-- CALIBRATE (R118) -/
  | calibrate (frame : Frame)
  /-- LOOKUP_TANK (R141) -/
  | lookupTank (frame : Frame)
  /-- SURVEY_TANK (R139) -/
  | surveyTank (frame : Frame)
  /-- SET_TIME (R5) -/
  | setTime (frame : Frame)
  /-- START_DISPATCH (R10) -/
  | startDispatch (frame : Frame)
  /-- STOP_DISPATCH (R11) -/
  | stopDispatch (frame : Frame)
  /-- RESET_DISPATCH (R12) -/
  | resetDispatch (frame : Frame)
  /-- COMMITMENT_STORE_RESET (R75) -/
  | commitmentStoreReset
  /-- PROJECTOR_RESET (R105) -/
  | projectorReset
  /-- HEAT_STORE_RESET (R147) -/
  | heatStoreReset
  /-- TRAIN_UNIT_RESET (R169) -/
  | trainUnitReset
  /-- CONFIGURE (R205) -/
  | configure (frame : Frame)
  /-- LOOKUP_PLANT (R20) -/
  | lookupPlant (frame : Frame)
  /-- LOOKUP_CONDITIONS (R23) -/
  | lookupConditions (frame : Frame)
  /-- CLEAR_CONDITIONS (R24) -/
  | clearConditions (frame : Frame)
  /-- SET_ALERT_MASK (R25) -/
  | setAlertMask (frame : Frame)
  /-- UNKNOWN_CODE (R16): a request frame with a code that names no request. -/
  | unknownCode (code : Octet) (frame : Frame)
  /-- BAD_CHECK_FRAME (R16): the octets of a complete request frame, from its start octet, whose check fails. -/
  | badCheckFrame (via : Via) (octets : List Octet)
  /-- TAINTED_FRAME (R14): the octets of a Market Port frame that held a framing error. -/
  | taintedFrame (octets : List Octet)
  /-- LINK_RESET (R19) -/
  | linkReset (port : Port)
  /-- SP_IDLE_TRANSACTION (R15): the octets shifted in, none of them a request. -/
  | spIdleTransaction (octets : List Octet)
  /-- RESPONSE_SENT (R14) -/
  | responseSent
  /-- PASS_COMPLETION (R88) -/
  | passCompletion
  /-- TRAIN_REPORT (R162): the line the report came in on, and its fields. -/
  | trainReport (line : Train) (report : ReportFrame)
  /-- TRAIN_FRAME_DISCARDED (R27): the 13 octets after the start octet of a report that fails its check, or that
  holds a framing error. -/
  | trainFrameDiscarded (line : Train) (octets : List Octet) (framingError : Bool)
  /-- MASS_INTEGRATION (R112) -/
  | massIntegration (train : Train)
  /-- HEAT_DEPOSIT (R128) -/
  | heatDeposit (train : Train)
  /-- HEAT_DRAW (R135) -/
  | heatDraw (train : Train)
  /-- HEAT_CREDIT_GRANT (R150): the compressor and the Request in MJ. -/
  | heatCreditGrant (train : Train) (request : Nat)
  /-- SETPOINT_FORMATION (R192) -/
  | setpointFormation (train : Train)
  /-- ACTIVE_FIRM_NOTICE (R53) -/
  | activeFirmNotice
  /-- BAND_NOTICE (R115) -/
  | bandNotice
  /-- TOP_NOTICE (R127) -/
  | topNotice (tank : Tank)
  /-- TRAIN_NOTICE (R160) -/
  | trainNotice (train : Train)
  /-- START_LIMIT_EXPIRY (R166) -/
  | startLimitExpiry (train : Train)
  /-- SILENCE_TIMEOUT (R167) -/
  | silenceTimeout (train : Train)
  /-- ORDER_SENT (R28) -/
  | orderSent (line : Train)
  /-- SHORT_LENGTH_FRAME (R14): a start octet followed by this length octet, below 3. -/
  | shortLengthFrame (length : Octet)
  /-- TRAIN_LINK_BREAK (R27) -/
  | trainLinkBreak (line : Train)
  deriving DecidableEq, Repr

end Sys2Proof
end

