-- ==== Sys2Proof/WellFormed.lean ====
section
/-!
DEFINITION. Which terms of `Instr` stand for commands the lines can carry: the lengths a frame's length octet can say
(R29), the codes of the catalogue (R22), and what makes a frame a bad, tainted, short or idle one (R14 to R16, R27).
-/
namespace Sys2Proof

/-- The request codes of the catalogue (R22). -/
def catalogueCodes : List Octet :=
  [0x01, 0x02, 0x03, 0x04, 0x05, 0x06, 0x07, 0x08, 0x10, 0x11, 0x12, 0x18, 0x19, 0x20, 0x21, 0x22,
   0x28, 0x29, 0x2A, 0x2B, 0x2C, 0x2D, 0x2E, 0x30, 0x31, 0x38, 0x39, 0x40, 0x41, 0x42, 0x43, 0x44,
   0x48, 0x49, 0x4A, 0x4B]

/-- The sum of octets modulo 256 (R16). -/
def octetSum (octets : List Octet) : Octet := octets.foldl (· + ·) 0

/-- A length octet says at most 255, and tag, code and check take three of it (R29). -/
def Frame.wellFormed (f : Frame) : Bool := f.body.length ≤ 252

/-- The Preview flag of an AMEND body: the octet after the Handle, the Field and the Operation (R41). -/
def previewOctet (body : List Octet) : Option Octet := body[4]?

/-- A complete frame: start octet 0xA5, a length octet of 3 or more, and that many octets after it (R14). -/
def completeFrame (octets : List Octet) : Bool :=
  match octets with
  | start :: len :: rest => start == 0xA5 && 3 ≤ len.toNat && rest.length == len.toNat
  | _ => false

/-- What a Supervisory Port transaction that carries no request shifts in (R15). -/
def idleTransaction (octets : List Octet) : Bool :=
  match octets with
  | [] => true
  | [start] => start != 0xA5
  | start :: len :: _ => start != 0xA5 || len.toNat < 3

/-- Whether a term of `Instr` stands for a command the lines can carry. -/
def Instr.wellFormed : Instr → Bool
  | .powerOn => true
  | .loadEnd memory => memory.length ≤ 131072
  | .configItemTaken _ => true
  | .clockAdvance => true
  | .commitmentBoundary => true
  | .horizonShift => true
  | .standingLoss => true
  | .intervalClose => true
  | .imbalanceDelivery => true
  | .enter f => f.wellFormed
  | .amend f => f.wellFormed && previewOctet f.body != some 1
  | .amendPreview f => f.wellFormed && previewOctet f.body == some 1
  | .confirm f => f.wellFormed
  | .retire f => f.wellFormed
  | .deploy f => f.wellFormed
  | .lookupCommitment f => f.wellFormed
  | .walkFirst f => f.wellFormed
  | .walkNext f => f.wellFormed
  | .claim f => f.wellFormed
  | .release f => f.wellFormed
  | .force f => f.wellFormed
  | .lookupRow f => f.wellFormed
  | .lookupHorizon f => f.wellFormed
  | .enterOutage f => f.wellFormed
  | .retireOutage f => f.wellFormed
  | .lookupOutage f => f.wellFormed
  | .lookupTrain f => f.wellFormed
  | .lookupEnvelope f => f.wellFormed
  | .selectEnvelope f => f.wellFormed
  | .reloadEnvelopes f => f.wellFormed
  | .amendEnvelope f => f.wellFormed
  | .bindTank f => f.wellFormed
  | .restoreTrain f => f.wellFormed
  | .lookupCavern f => f.wellFormed
  | .calibrate f => f.wellFormed
  | .lookupTank f => f.wellFormed
  | .surveyTank f => f.wellFormed
  | .setTime f => f.wellFormed
  | .startDispatch f => f.wellFormed
  | .stopDispatch f => f.wellFormed
  | .resetDispatch f => f.wellFormed
  | .commitmentStoreReset => true
  | .projectorReset => true
  | .heatStoreReset => true
  | .trainUnitReset => true
  | .configure f => f.wellFormed
  | .lookupPlant f => f.wellFormed
  | .lookupConditions f => f.wellFormed
  | .clearConditions f => f.wellFormed
  | .setAlertMask f => f.wellFormed
  | .unknownCode code f => f.wellFormed && !catalogueCodes.contains code
  | .badCheckFrame _ octets => completeFrame octets && octetSum (octets.drop 1) != 0
  | .taintedFrame octets => completeFrame octets
  | .linkReset _ => true
  | .spIdleTransaction octets => idleTransaction octets
  | .responseSent => true
  | .passCompletion => true
  | .trainReport _ _ => true
  | .trainFrameDiscarded _ octets framingError => octets.length == 13 && (framingError || octetSum octets != 0)
  | .massIntegration _ => true
  | .heatDeposit t => t = .k1 || t = .k2 || t = .k3
  | .heatDraw t => t = .x1 || t = .x2 || t = .x3
  | .heatCreditGrant t request => (t = .k1 || t = .k2 || t = .k3) && request < 2 ^ 32
  | .setpointFormation _ => true
  | .activeFirmNotice => true
  | .bandNotice => true
  | .topNotice _ => true
  | .trainNotice _ => true
  | .startLimitExpiry _ => true
  | .silenceTimeout _ => true
  | .orderSent _ => true
  | .shortLengthFrame len => len.toNat < 3
  | .trainLinkBreak _ => true

end Sys2Proof
end

