-- ==== Sys2Proof/Decode.lean ====
section
/-!
DEFINITION. From octets to commands and back. The codes of the catalogue (R22), the request frame (R16, R29) and the Train
Report (R27, R30), each read from the octets that the links deliver and each written as octets; and the command a word
spells by the bits of spec/opcode_table.json: none, since no row of the table gives any bits (log 24).
-/
namespace Sys2Proof

/-! ### The catalogue of requests (R22) -/

/-- The request of code 0x02: with the Preview flag set in its body it is AMEND_PREVIEW (R41, R49). -/
def amendRequest (f : Frame) : Instr := if previewOctet f.body = some 1 then .amendPreview f else .amend f

/-- The catalogue: each code with the request it selects (R22). -/
def requestTable : List (Octet × (Frame → Instr)) :=
  [(0x01, .enter), (0x02, amendRequest), (0x03, .confirm), (0x04, .retire), (0x05, .deploy),
   (0x06, .lookupCommitment), (0x07, .walkFirst), (0x08, .walkNext),
   (0x10, .claim), (0x11, .release), (0x12, .force),
   (0x18, .lookupRow), (0x19, .lookupHorizon),
   (0x20, .enterOutage), (0x21, .retireOutage), (0x22, .lookupOutage)] ++
  [(0x28, .lookupTrain), (0x29, .lookupEnvelope), (0x2A, .selectEnvelope), (0x2B, .reloadEnvelopes),
   (0x2C, .amendEnvelope), (0x2D, .bindTank), (0x2E, .restoreTrain),
   (0x30, .lookupCavern), (0x31, .calibrate),
   (0x38, .lookupTank), (0x39, .surveyTank),
   (0x40, .setTime), (0x41, .startDispatch), (0x42, .stopDispatch), (0x43, .resetDispatch), (0x44, .configure),
   (0x48, .lookupPlant), (0x49, .lookupConditions), (0x4A, .clearConditions), (0x4B, .setAlertMask)]

/-- The command of a frame with a code: the request the catalogue gives, or UNKNOWN_CODE (R16, R22). -/
def requestFor (code : Octet) (f : Frame) : Instr :=
  match requestTable.lookup code with
  | some request => request f
  | none => .unknownCode code f

/-! ### Request frames (R14 to R16, R29) -/

/-- The check octet that brings the sum of octets to zero modulo 256 (R29). -/
def checkOctet (octets : List Octet) : Octet := 0 - octetSum octets

/-- A request frame taken apart after its length octet: tag, code, body and check (R16, R29). -/
def takeApart (via : Via) : List Octet → Option (Octet × Frame)
  | tag :: code :: rest => some (code, { via := via, tag := tag, body := rest.dropLast })
  | _ => none

/-- The command of a complete request frame, given from its start octet: the sum from the length octet through the check
octet must be zero modulo 256 (R16). -/
def frameCommand (via : Via) (octets : List Octet) : Instr :=
  if octetSum (octets.drop 1) = 0 then
    match takeApart via (octets.drop 2) with
    | some (code, f) => requestFor code f
    | none => .badCheckFrame via octets
  else .badCheckFrame via octets

/-- The octets of a request frame with a code, from its start octet through its check octet (R29). -/
def frameOctets (code : Octet) (f : Frame) : List Octet :=
  let checked := BitVec.ofNat 8 (f.body.length + 3) :: f.tag :: code :: f.body
  0xA5 :: (checked ++ [checkOctet checked])

/-- What a Supervisory Port transaction comes to at the release of chip-select, from the octets shifted in (R15): no request
unless the first octet is 0xA5 with a length octet of 3 or more, a Link Reset if the frame is not complete, else the
frame with the octets clocked after it. R15 judges a transaction by its first octet and is silent on one without any; that
it is an idle transaction is the model's choice (log 36). -/
def transactionCommand (octets : List Octet) : Instr :=
  match octets with
  | [] => .spIdleTransaction octets
  | start :: rest =>
    if start = 0xA5 then
      match rest with
      | [] => .linkReset .sp
      | len :: more =>
        if len.toNat < 3 then .spIdleTransaction octets
        else if more.length < len.toNat then .linkReset .sp
        else frameCommand (.sp (more.length - len.toNat)) (octets.take (len.toNat + 2))
    else .spIdleTransaction octets

/-! ### Train Reports (R27, R30) -/

/-- A quantity of two octets, most significant first (R31). -/
def wordOf (hi lo : Octet) : Word := BitVec.ofNat 16 (hi.toNat * 256 + lo.toNat)

/-- The octets of a quantity of two octets (R31). -/
def octetsOf (w : Word) : List Octet := [BitVec.ofNat 8 (w.toNat / 256), BitVec.ofNat 8 w.toNat]

/-- The fields of the 13 octets after the start octet of a Train Report (R30). -/
def reportFields : List Octet → Option ReportFrame
  | [number, status, p1, p0, m1, m0, h1, h0, t1, t0, e1, e0, _check] =>
    some
      { number := number, status := status, power := wordOf p1 p0, massFlow := wordOf m1 m0, heat := wordOf h1 h0,
        temperature := wordOf t1 t0, elapsed := wordOf e1 e0 }
  | _ => none

/-- The command of the 13 octets of a Train Report: handed on if their sum is zero modulo 256 and no character had a
framing error, else discarded (R27). -/
def reportCommand (line : Train) (octets : List Octet) (framingError : Bool) : Instr :=
  if framingError = false ∧ octetSum octets = 0 then
    match reportFields octets with
    | some r => .trainReport line r
    | none => .trainFrameDiscarded line octets framingError
  else .trainFrameDiscarded line octets framingError

/-- The 13 octets of a Train Report after its start octet (R30). -/
def reportOctets (r : ReportFrame) : List Octet :=
  let checked := r.number :: r.status ::
    (octetsOf r.power ++ octetsOf r.massFlow ++ octetsOf r.heat ++ octetsOf r.temperature ++ octetsOf r.elapsed)
  checked ++ [checkOctet checked]

/-! ### Words of the opcode table -/

/-- The command spelled by a word of `nbits` bits: none, since no row of the table gives bits. -/
def decodeTableWord (_nbits _w : Nat) : Option Instr := none

end Sys2Proof
end

