-- ==== Sys2Proof/Config.lean ====
section
/-!
DEFINITION. What is fixed for the machine: the default values the Controller holds from power-on (R107, R124, R142,
R148, R167, R171, R187, R204) and the alert masks of power-on (R13). The spec leaves no value of an executed command
undefined, so there is no free value here.
-/
namespace Sys2Proof.Config

/-- The default Cavern Characteristic (R107): nine points, each a mass in kg and a pressure in kPa. -/
def defaultCharacteristic : List (Nat × Nat) :=
  [(14000000, 4300), (15250000, 4660), (16500000, 5030), (17750000, 5410), (19000000, 5800),
   (20250000, 6200), (21500000, 6610), (22750000, 7030), (24000000, 7460)]

/-- The default pressure of an empty account: the forward interpolation of mass 0 (R111). -/
def powerOnPressure : Nat := 4300

/-- The default Tank capacity in MJ (R124). -/
def defaultCapacity : Nat := 1200000

/-- The Market Port's Alert Mask at power-on (R13): SCHEDULE_AT_RISK, AUTHORITY_FORCED, COMMITMENT_LAPSED and
CAVERN_LIMIT_ENTERED, at positions 0, 1, 2 and 4 of R23. -/
def powerOnMaskMP : BitVec 26 := 0b10111

/-- The Supervisory Port's Alert Mask at power-on (R13): every position. -/
def powerOnMaskSP : BitVec 26 := 0x3FFFFFF

/-- The Sticky Set after power-on: CHARACTERISTIC_RANGE, at position 5, set by the first interpolation (R111). -/
def powerOnSticky : BitVec 26 := 0b100000

/-- The default compressor phases (R187). -/
def defaultCompressorPhases : List Train :=
  [.k1, .k2, .k3, .k1, .k2, .k3, .k1, .k2, .k3, .k1, .k2, .k3]

/-- The default expander phases (R187). -/
def defaultExpanderPhases : List Train :=
  [.x1, .x2, .x3, .x1, .x2, .x3, .x1, .x2, .x3, .x1, .x2, .x3]

end Sys2Proof.Config
end

