-- ==== Sys2Proof/Machine/State.lean ====
section
/-!
DEFINITION. The state of the Zelgra 7120 as plain data, block by block, every piece of state the spec gives it; the
outcomes that are no next state; and the power-on state. Quantities that the spec defines from others (the Current
Interval Number, the Live Set, the alert lines, a Tank's Reserved Energy) are computed, not stored (log 13).
-/
namespace Sys2Proof.Machine

/-- One value for each train. -/
structure PerTrain (α : Type) where
  k1 : α
  k2 : α
  k3 : α
  x1 : α
  x2 : α
  x3 : α
  deriving DecidableEq, Repr

/-- One value for each Tank. -/
structure PerTank (α : Type) where
  t1 : α
  t2 : α
  t3 : α
  deriving DecidableEq, Repr

/-! ### Link Unit (chapter 2) -/

/-- The statuses of R21. -/
inductive Status where
  | done | doneUnchanged | badRequest | notPermitted | noAuthority | authorityLost | notFound | tableFull
  | queueFull | portLimit | gateClosed | pastInterval | outOfRange | infeasible | duplicateReference | wrongKind
  | wrongState | tankInUse | aborted
  deriving DecidableEq, Repr

/-- What an answer says: its status, its result conditions ZERO and SATURATED, and its body octets (R21, R29). -/
structure Reply where
  status : Status
  zero : Bool
  saturated : Bool
  body : List Octet
  deriving DecidableEq, Repr

/-- A response waiting to be sent (R13): the reply with the tag and code it echoes (R18). -/
structure Response where
  tag : Octet
  code : Octet
  reply : Reply
  deriving DecidableEq, Repr

/-- A frame partly received: its octets so far, the start octet first, and whether one of its characters had a framing
error (R14, R27). -/
structure PartialFrame where
  octets : List Octet
  tainted : Bool
  deriving DecidableEq, Repr

/-- A character received on an asynchronous line, with its framing error if it has one (R14, R27). -/
structure Character where
  octet : Octet
  framingError : Bool
  deriving DecidableEq, Repr

/-- What arrives on a receive line or on the Supervisory Port, in the order of arrival (R14, R15, R27). A character that
is part of a break is not among them: the break is (R14). -/
inductive Arrival where
  /-- A character on the Market Port's receive line (R14). -/
  | marketCharacter (c : Character)
  /-- A break on the Market Port's receive line (R14). -/
  | marketBreak
  /-- An octet clocked in a Supervisory Port transaction (R15). -/
  | supervisoryOctet (octet : Octet)
  /-- The release of chip-select (R15). -/
  | supervisoryRelease
  /-- A character on the receive direction of a train link (R27). -/
  | trainCharacter (line : Train) (c : Character)
  /-- A break on the receive direction of a train link (R27). -/
  | trainBreak (line : Train)
  deriving DecidableEq, Repr

/-- The state of one request port (R13) and its Walk Cursor. -/
structure PortLink where
  /-- The partial request frame being received; on the Supervisory Port the octets of the transaction so far (log 4). -/
  intake : Option PartialFrame
  /-- The Response Queue, oldest first. -/
  responses : List Response
  /-- The Outstanding Count. -/
  outstanding : Nat
  /-- The Dropped Answer mark. -/
  dropped : Bool
  alertMask : BitVec 26
  /-- The Walk Cursor: a key (Start, Handle), or unset (R57). -/
  cursor : Option (Nat × Nat)
  deriving DecidableEq, Repr

/-- A Supervisory Port transaction in progress (R15). What it shifts out is settled at its first octet (log 36). -/
structure Transaction where
  /-- The response being shifted out: the oldest one at the first octet, or none where the queue was empty then. -/
  response : Option Response
  /-- The octets shifted out so far. -/
  sent : List Octet
  deriving DecidableEq, Repr

/-- The commands of a Setpoint Order (R30). -/
inductive OrderCommand where
  | hold | start | run | stop
  deriving DecidableEq, Repr

/-- A Setpoint Order (R30); the train is that of its link. -/
structure Order where
  command : OrderCommand
  setpoint : Nat
  topTemperature : Nat
  deriving DecidableEq, Repr

/-- The state of one train link (R27, R28). -/
structure TrainLink where
  /-- The partial Train Report being received. -/
  intake : Option PartialFrame
  /-- The Setpoint Order in transmission. -/
  sending : Option Order
  /-- The Setpoint Order waiting behind it. -/
  waiting : Option Order
  deriving DecidableEq, Repr

/-! ### Interval Clock (chapter 1) -/

/-- The Interval Clock (R1). -/
structure Clock where
  day : Nat
  second : Nat
  timeSet : Bool
  gateLead : Nat
  /-- The milliseconds elapsed since the last advance, or since the SET_TIME that discarded the part of a second
  then elapsed (R2, log 3). -/
  sinceAdvance : Nat
  deriving DecidableEq, Repr

/-- The Step of an Interval Boundary (R3). -/
inductive BoundaryStep where
  | forward (intervals : Nat)
  | rebase
  deriving DecidableEq, Repr

/-- What an Interval Boundary carries (R3). -/
structure Boundary where
  newInterval : Nat
  step : BoundaryStep
  dayStart : Bool
  deriving DecidableEq, Repr

/-- The four blocks an Interval Boundary reaches (R3). -/
inductive BoundaryBlock where
  | commitmentStore | horizonProjector | heatStoreUnit | dispatcher
  deriving DecidableEq, Repr

/-! ### Commitment Store (chapters 3 and 4) -/

/-- The Kind of a Commitment (R33). -/
inductive CommitmentKind where
  | energy | reserveUp | reserveDown
  deriving DecidableEq, Repr

/-- The Standing of a Commitment (R33). -/
inductive Standing where
  | tentative | firm
  deriving DecidableEq, Repr

/-- The Phase of a Commitment, with the Remaining that only an ACTIVE record has (R33). -/
inductive Phase where
  | pending
  | active (remaining : Nat)
  deriving DecidableEq, Repr

/-- A Commitment (R33). A `reference` of 0 is an absent Market Reference; `deployed` is 0 on a record that has no
Deployed field; `atRisk` is the First Failing Interval while At Risk is set, and absent while it is clear. -/
structure Commitment where
  handle : Nat
  reference : Nat
  kind : CommitmentKind
  standing : Standing
  phase : Phase
  start : Nat
  length : Nat
  power : Int
  deployed : Nat
  atRisk : Option Nat
  source : Port
  deriving DecidableEq, Repr

/-- The Authority State (R61). `openState` is OPEN. -/
inductive Authority where
  | market | openState | supervisory
  deriving DecidableEq, Repr

/-- The fields of an ENTER (R39). -/
structure EnterRequest where
  kind : CommitmentKind
  standing : Standing
  start : Nat
  length : Nat
  power : Int
  reference : Nat
  deriving DecidableEq, Repr

/-- The field an AMEND names (R41). -/
inductive AmendField where
  | power | length | marketReference
  deriving DecidableEq, Repr

/-- The operation of an AMEND (R41). -/
inductive AmendOperation where
  | set | add | subtract
  deriving DecidableEq, Repr

/-- The fields of an AMEND (R41); the Operand is signed for POWER and unsigned for the other two fields. -/
structure AmendRequest where
  handle : Nat
  field : AmendField
  operation : AmendOperation
  preview : Bool
  operand : Int
  deriving DecidableEq, Repr

/-- The Kind of an Outage Record (R178). -/
inductive OutageKind where
  | full | derate
  deriving DecidableEq, Repr

/-- The fields of an ENTER_OUTAGE (R179). -/
structure OutageRequest where
  train : Train
  first : Nat
  last : Nat
  kind : OutageKind
  derateMax : Option Nat
  deriving DecidableEq, Repr

/-- The requests that are queued as amendments, with their fields as they arrived (R18, R67). -/
inductive Amendment where
  | enter (request : EnterRequest)
  | amend (request : AmendRequest)
  | confirm (handle : Nat)
  | retire (handle : Nat)
  | enterOutage (request : OutageRequest)
  | retireOutage (handle : Nat)
  deriving DecidableEq, Repr

/-- The Class of a queued entry (R67, R68). -/
inductive EntryClass where
  | availability | firm | tentative
  deriving DecidableEq, Repr

/-- An entry of the Amendment Queue (R67). -/
structure Entry where
  cls : EntryClass
  source : Port
  tag : Octet
  code : Octet
  amendment : Amendment
  arrival : Nat
  passing : Nat
  deriving DecidableEq, Repr

/-- The Commitment Store. -/
structure Store where
  commitments : List Commitment
  nextHandle : Nat
  authority : Authority
  /-- The Amendment Queue, oldest first. -/
  queue : List Entry
  /-- The Entry in Service. -/
  inService : Option Entry
  nextArrival : Nat
  lastImbalance : Int
  dayImbalance : Int
  deriving DecidableEq, Repr

/-! ### Train Unit (chapter 9) -/

/-- A train's State (R160). -/
inductive TrainState where
  | offline | ready | starting | running | unloading | tripped | lost
  deriving DecidableEq, Repr

/-- The status a Train Report carries (R30). -/
inductive ReportedStatus where
  | off | ready | starting | running | stopping | tripped
  deriving DecidableEq, Repr

/-- The content of an Envelope Descriptor, without its Generation (R171). -/
structure Descriptor where
  kind : TrainKind
  valid : Bool
  minLoad : Nat
  maxLoad : Nat
  coldMax : Option Nat
  rampUp : Nat
  rampDown : Nat
  startLimit : Nat
  heatRate : Option Nat
  reserveCapable : Bool
  deriving DecidableEq, Repr

/-- A row of the Envelope Table (R171). -/
structure EnvelopeRow where
  descriptor : Descriptor
  generation : Nat
  deriving DecidableEq, Repr

/-- What a selected train holds (R160): Selector, Cached Descriptor and Cached Generation, present together. -/
structure Selection where
  selector : Nat
  descriptor : Descriptor
  generation : Nat
  deriving DecidableEq, Repr

/-- The Last Report of a train, each field as brought into range (R160, R161). -/
structure Report where
  status : ReportedStatus
  power : Nat
  massFlow : Nat
  heat : Nat
  temperature : Nat
  elapsed : Nat
  deriving DecidableEq, Repr

/-- A Train Context (R160), with the Dispatcher's Released flag of the train (R182) and its HEAT_CREDIT_LIMIT
condition (R154). -/
structure TrainContext where
  state : TrainState
  selection : Option Selection
  boundTank : Tank
  lastReport : Option Report
  setpoint : Nat
  share : Nat
  reservation : Nat
  /-- Interval Number and Second of Day at which the present run began. -/
  runStart : Option (Nat × Nat)
  silence : Option Nat
  startTimer : Option Nat
  released : Bool
  creditLimit : Bool
  deriving DecidableEq, Repr

/-- An Outage Record (R178). -/
structure Outage where
  handle : Nat
  train : Train
  first : Nat
  last : Nat
  kind : OutageKind
  derateMax : Option Nat
  deriving DecidableEq, Repr

/-- The Train Unit's tables and its millisecond time base (R160, R171, R178). -/
structure TrainTables where
  envelopes : List EnvelopeRow
  outages : List Outage
  nextOutage : Nat
  /-- Milliseconds since power-on. -/
  millis : Nat
  deriving DecidableEq, Repr

/-! ### Cavern Account (chapter 6) -/

/-- The pressure band (R106). -/
inductive Band where
  | normal | lowWarn | lowLimit | highWarn | highLimit
  deriving DecidableEq, Repr

/-- The four pressure thresholds (R107). -/
structure Thresholds where
  lowLimit : Nat
  lowWarn : Nat
  highWarn : Nat
  highLimit : Nat
  deriving DecidableEq, Repr

/-- The Last Calibration record (R106). -/
structure Calibration where
  day : Nat
  second : Nat
  applied : Nat
  correction : Int
  deriving DecidableEq, Repr

/-- The Cavern Account (R106). -/
structure Cavern where
  mass : Nat
  residue : Int
  pressure : Nat
  band : Band
  calibrated : Bool
  lastCalibration : Option Calibration
  /-- The points (mass, pressure) in order. -/
  characteristic : List (Nat × Nat)
  thresholds : Thresholds
  deriving DecidableEq, Repr

/-! ### Heat Store Unit (chapters 7 and 8) -/

/-- The Origin of a Heat Layer (R125). -/
inductive Origin where
  | k1 | k2 | k3 | survey
  deriving DecidableEq, Repr

/-- A Heat Layer (R125). -/
structure Layer where
  temperature : Nat
  energy : Nat
  origin : Origin
  entry : Nat
  deriving DecidableEq, Repr

/-- The Last Underdraw record (R124, R136). -/
structure Underdraw where
  amount : Nat
  train : Train
  interval : Nat
  deriving DecidableEq, Repr

/-- The state of one Tank (R124); its Reserved Energy is the sum of the Reservations bound to it (R149). -/
structure TankState where
  capacity : Nat
  /-- The Layer Stack, top first. -/
  layers : List Layer
  surveyed : Bool
  spillTotal : Nat
  lastUnderdraw : Option Underdraw
  deriving DecidableEq, Repr

/-! ### Horizon Projector (chapter 5) -/

/-- The failures of a row test (R78). -/
inductive Failure where
  | capacity | pressureLow | pressureHigh | rate | heatShort | heatFull
  deriving DecidableEq, Repr

/-- The point a test belongs to (R78). -/
inductive PointTag where
  | scheduled | upPoint | downPoint
  deriving DecidableEq, Repr

/-- A row's Verdict; a FAILING one carries its Failure Set, in the order of R78 (R78). -/
inductive Verdict where
  | unprojected
  | feasible
  | failing (failures : List (Failure × PointTag))
  deriving DecidableEq, Repr

/-- A Horizon Row (R77). -/
structure Row where
  interval : Nat
  net : Int
  up : Nat
  down : Nat
  genCapacity : Nat
  chgCapacity : Nat
  reserveGen : Nat
  reserveChg : Nat
  endMass : Nat
  endPressure : Nat
  endUsable : Nat
  endFree : Nat
  verdict : Verdict
  deriving DecidableEq, Repr

/-- The Pass State (R83). -/
inductive PassState where
  | idle | projecting | screening
  deriving DecidableEq, Repr

/-- A Trial (R38): for an ENTER the whole new record, for an AMEND the record's Handle, Start, old Length and new
value, with whether a clamp or hold made that value (R48). -/
inductive Trial where
  | enter (record : Commitment)
  | power (handle start oldLength : Nat) (newPower : Int) (saturated : Bool)
  | length (handle start oldLength newLength : Nat) (saturated : Bool)
  deriving DecidableEq, Repr

/-- What a Pass samples of a train (R85, R87): whether its State lets it count, and its Cached Descriptor. -/
structure TrainSample where
  available : Bool
  descriptor : Option Descriptor
  deriving DecidableEq, Repr

/-- The plant rates item (R204). -/
structure PlantRates where
  genMass : Nat
  chgMass : Nat
  genHeat : Nat
  chgHeat : Nat
  deriving DecidableEq, Repr

/-- The heat constants item (R204). -/
structure HeatConstants where
  tRef : Nat
  tUse : Nat
  tNom : Nat
  band : Nat
  loss : Nat
  deriving DecidableEq, Repr

/-- The Start State of a Pass (R85). -/
structure StartState where
  mass : Nat
  pressure : Nat
  usable : Nat
  free : Nat
  remaining : Nat
  base : Nat
  trains : PerTrain TrainSample
  outages : List Outage
  commitments : List Commitment
  rates : PlantRates
  heat : HeatConstants
  characteristic : List (Nat × Nat)
  thresholds : Thresholds
  rateLimit : Nat
  deriving DecidableEq, Repr

/-- The Horizon Projector (R83). -/
structure Projector where
  horizon : List Row
  /-- The Horizon Status: CURRENT when set, STALE when clear (R79). -/
  current : Bool
  passState : PassState
  trial : Option Trial
  start : Option StartState
  /-- The rows the Pass in flight has evaluated so far. -/
  workingCopy : List Row
  passPending : Bool
  deriving DecidableEq, Repr

/-! ### Dispatcher (chapters 1 and 10) -/

/-- The Operating Mode (R9). -/
inductive Mode where
  | unconfigured | standby | dispatching | stopping
  deriving DecidableEq, Repr

/-- The Direction (R186). -/
inductive Direction where
  | idle | charging | generating | reversing
  deriving DecidableEq, Repr

/-- A Duty Rotation (R187). -/
structure Rotation where
  phases : List Train
  pointer : Nat
  deriving DecidableEq, Repr

/-- The Dispatcher's state (R182); its Released flags stand in the Train Contexts. -/
structure Dispatcher where
  mode : Mode
  direction : Direction
  scheduleValue : Int
  target : Int
  generationCap : Nat
  chargeCap : Nat
  compressorRotation : Rotation
  expanderRotation : Rotation
  openInterval : Nat
  delivered : Int
  scheduled : Int
  scheduledMark : Nat
  deriving DecidableEq, Repr

/-! ### Configuration Loader (chapter 11) -/

/-- The Load State (R200). -/
inductive LoadState where
  | loading | ended
  deriving DecidableEq, Repr

/-- A sound configuration item with its values (R204). The Envelope Table comes in rows from a first Selector on; the
image gives all 24 and a CONFIGURE a part (R205). A binding is a Tank and an optional Selector. -/
inductive ConfigItem where
  | characteristic (points : List (Nat × Nat))
  | thresholds (value : Thresholds)
  | rateLimit (value : Nat)
  | plantRates (value : PlantRates)
  | heatConstants (value : HeatConstants)
  | tankCapacities (value : PerTank Nat)
  | creditWindow (value : Nat)
  | gateLead (value : Nat)
  | silenceTimeout (value : Nat)
  | dutyRotations (compressor expander : List Train)
  | envelopeTable (first : Nat) (rows : List Descriptor)
  | bindings (value : PerTrain (Tank × Option Nat))
  deriving DecidableEq, Repr

/-- The Configuration Loader (R200) and the items it holds (R204). -/
structure Loader where
  loadState : LoadState
  /-- The image has been judged and its sound items handed on, and some are not yet taken (R203). -/
  judged : Bool
  /-- The Item Validity, in identifier order. -/
  validity : BitVec 12
  rateLimit : Nat
  rates : PlantRates
  heat : HeatConstants
  creditWindow : Nat
  silenceTimeout : Nat
  deriving DecidableEq, Repr

/-! ### Events between blocks -/

/-- A report's part for the Dispatcher (R162): the reported status, the power and the elapsed time in range, and the State
the Train Unit has just left the train in. -/
structure ReportPart where
  status : ReportedStatus
  power : Nat
  elapsed : Nat
  left : TrainState
  deriving DecidableEq, Repr

/-- What one block has raised for another and the other has not yet taken (log 2). -/
inductive Raised where
  /-- An Interval Boundary on its way to one of its four blocks (R3). -/
  | boundary (block : BoundaryBlock) (event : Boundary)
  /-- A closed interval's imbalance on its way to the Commitment Store (R198). -/
  | imbalance (closed : Nat) (kwh : Int)
  /-- A report's part for the Cavern Account (R162): flow and elapsed time as the report carried them. -/
  | mass (train : Train) (flow elapsed : Nat)
  /-- A compressor report's part for the Heat Store Unit (R128). -/
  | deposit (train : Train) (heat temperature : Nat) (tank : Tank)
  /-- An expander report's part for the Heat Store Unit (R135). -/
  | draw (train : Train) (heat : Nat) (tank : Tank)
  /-- A report's part for the Dispatcher (R162). -/
  | formation (train : Train) (part : ReportPart)
  /-- The notices to the Dispatcher (R53, R115, R127, R160). -/
  | activeFirm
  | band
  | top (tank : Tank)
  | train (train : Train)
  /-- RESET_DISPATCH on its way to a block (R12). -/
  | storeReset
  | projectorReset
  | heatReset
  | trainReset
  /-- A sound item handed to its owner at the end of the load (R203). -/
  | configItem (item : ConfigItem)
  deriving DecidableEq, Repr

/-- The whole machine. -/
structure State where
  mp : PortLink
  sp : PortLink
  /-- The Supervisory Port transaction in progress, or none (R15). -/
  transaction : Option Transaction
  sticky : BitVec 26
  trainLinks : PerTrain TrainLink
  clock : Clock
  store : Store
  projector : Projector
  cavern : Cavern
  tanks : PerTank TankState
  trains : PerTrain TrainContext
  tables : TrainTables
  dispatcher : Dispatcher
  loader : Loader
  raised : List Raised
  /-- What has arrived on the lines and has not yet been taken by the intakes, oldest first (log 1). -/
  arrivals : List Arrival
  pending : List Instr
  deriving DecidableEq, Repr

/-- The reasons for which the machine stops. There is none: the spec answers every request with a status (R21) and
discards every frame it does not take (R14, R16, R27). Safe: no command is cut short. -/
inductive Fault where
  deriving DecidableEq, Repr

/-- Why a command has no meaning. -/
inductive Refusal where
  /-- Raised by an arm of `exec` for a command that is not modelled; safe, since nothing is claimed of it. No arm
  raises it: every command has its meaning. -/
  | notModelled (mnemonic : String)
  deriving DecidableEq, Repr

/-! ### The power-on state -/

/-- A request port at power-on (R13). -/
def PortLink.powerOn (mask : BitVec 26) : PortLink :=
  { intake := none, responses := [], outstanding := 0, dropped := false, alertMask := mask, cursor := none }

/-- A train link at power-on (R28). -/
def TrainLink.powerOn : TrainLink := { intake := none, sending := none, waiting := none }

/-- The new Horizon Row of an interval (R80): every other field 0, UNPROJECTED. -/
def Row.unprojected (interval : Nat) : Row :=
  { interval := interval, net := 0, up := 0, down := 0, genCapacity := 0, chgCapacity := 0, reserveGen := 0,
    reserveChg := 0, endMass := 0, endPressure := 0, endUsable := 0, endFree := 0, verdict := .unprojected }

/-- A Train Context at power-on (R160), bound to the given Tank. -/
def TrainContext.powerOn (tank : Tank) : TrainContext :=
  { state := .offline, selection := none, boundTank := tank, lastReport := none, setpoint := 0, share := 0,
    reservation := 0, runStart := none, silence := none, startTimer := none, released := false,
    creditLimit := false }

/-- A Tank at power-on (R124). -/
def TankState.powerOn : TankState :=
  { capacity := Config.defaultCapacity, layers := [], surveyed := false, spillTotal := 0, lastUnderdraw := none }

/-- The default row of the Envelope Table (R171). -/
def EnvelopeRow.default : EnvelopeRow :=
  { descriptor :=
      { kind := .compressor, valid := false, minLoad := 0, maxLoad := 1, coldMax := none, rampUp := 1,
        rampDown := 1, startLimit := 30, heatRate := some 1, reserveCapable := false },
    generation := 0 }

/-- The machine right after power-on (R9, and the power-on value each block's chapter gives). -/
def State.reset : State :=
  { mp := PortLink.powerOn Config.powerOnMaskMP,
    sp := PortLink.powerOn Config.powerOnMaskSP,
    transaction := none,
    sticky := Config.powerOnSticky,
    trainLinks := ⟨.powerOn, .powerOn, .powerOn, .powerOn, .powerOn, .powerOn⟩,
    clock := { day := 0, second := 0, timeSet := false, gateLead := 4, sinceAdvance := 0 },
    store :=
      { commitments := [], nextHandle := 1, authority := .market, queue := [], inService := none,
        nextArrival := 0, lastImbalance := 0, dayImbalance := 0 },
    projector :=
      { horizon := (List.range 192).map Row.unprojected, current := false, passState := .idle, trial := none,
        start := none, workingCopy := [], passPending := true },
    cavern :=
      { mass := 0, residue := 0, pressure := Config.powerOnPressure, band := .lowLimit, calibrated := false,
        lastCalibration := none, characteristic := Config.defaultCharacteristic,
        thresholds := { lowLimit := 4600, lowWarn := 4800, highWarn := 7100, highLimit := 7300 } },
    tanks := ⟨.powerOn, .powerOn, .powerOn⟩,
    trains := ⟨.powerOn .t1, .powerOn .t2, .powerOn .t3, .powerOn .t1, .powerOn .t2, .powerOn .t3⟩,
    tables :=
      { envelopes := List.replicate 24 EnvelopeRow.default, outages := [], nextOutage := 1, millis := 0 },
    dispatcher :=
      { mode := .unconfigured, direction := .idle, scheduleValue := 0, target := 0, generationCap := 0,
        chargeCap := 0,
        compressorRotation := { phases := Config.defaultCompressorPhases, pointer := 0 },
        expanderRotation := { phases := Config.defaultExpanderPhases, pointer := 0 },
        openInterval := 0, delivered := 0, scheduled := 0, scheduledMark := 0 },
    loader :=
      { loadState := .loading, judged := false, validity := 0, rateLimit := 250,
        rates := { genMass := 4700, chgMass := 5200, genHeat := 1900, chgHeat := 2100 },
        heat := { tRef := 500, tUse := 4500, tNom := 5800, band := 150, loss := 2 },
        creditWindow := 600, silenceTimeout := 3000 },
    raised := [],
    arrivals := [],
    pending := [] }

end Sys2Proof.Machine
end

