-- ==== Sys2Proof/Machine/Arith.lean ====
section
/-!
DEFINITION. The arithmetic conventions of spec/00 V.4, the enumeration orders of the trains and Tanks, and access to the
per-train and per-Tank parts of the state.
-/
namespace Sys2Proof.Machine

/-- Round half up a quotient of magnitudes (V.4). -/
def roundHalfUp (num den : Nat) : Nat := (2 * num + den) / (2 * den)

/-- Hold an integer within two bounds (V.4, "saturate"). -/
def holdInt (lo hi x : Int) : Int := if x < lo then lo else if hi < x then hi else x

/-- Round half up a signed quantity by its magnitude and apply the sign (V.4). -/
def roundSigned (x : Int) (den : Nat) : Int :=
  if x < 0 then -(roundHalfUp x.natAbs den : Int) else (roundHalfUp x.natAbs den : Int)

/-- Rounded down to a whole Heat Credit of 100 MJ (R150). -/
def creditFloor (mj : Nat) : Nat := mj / 100 * 100

/-- Rounded up to a whole Heat Credit: the next multiple of 100 MJ at or above a quotient (V.4, R148). -/
def creditCeil (num den : Nat) : Nat := (num + (100 * den - 1)) / (100 * den) * 100

/-- The largest value of a four-octet quantity. -/
def maxU32 : Nat := 4294967295

/-- The trains in the enumeration of R30. -/
def allTrains : List Train := [.k1, .k2, .k3, .x1, .x2, .x3]

/-- The Tanks in order. -/
def allTanks : List Tank := [.t1, .t2, .t3]

/-- Compressors are K1 to K3, expanders X1 to X3 (V.5). -/
def trainKind : Train → TrainKind
  | .k1 => .compressor
  | .k2 => .compressor
  | .k3 => .compressor
  | .x1 => .expander
  | .x2 => .expander
  | .x3 => .expander

/-- The trains of one kind, in order. -/
def trainsOf : TrainKind → List Train
  | .compressor => [.k1, .k2, .k3]
  | .expander => [.x1, .x2, .x3]

/-- The other kind. -/
def otherKind : TrainKind → TrainKind
  | .compressor => .expander
  | .expander => .compressor

/-- Position of a train in the enumeration of R30. -/
def trainIndex : Train → Nat
  | .k1 => 0
  | .k2 => 1
  | .k3 => 2
  | .x1 => 3
  | .x2 => 4
  | .x3 => 5

/-- The train at a position of the enumeration of R30. -/
def trainAt : Nat → Option Train
  | 0 => some .k1
  | 1 => some .k2
  | 2 => some .k3
  | 3 => some .x1
  | 4 => some .x2
  | 5 => some .x3
  | _ => none

/-- Position of a Tank. -/
def tankIndex : Tank → Nat
  | .t1 => 0
  | .t2 => 1
  | .t3 => 2

/-- The Tank at a position. -/
def tankAt : Nat → Option Tank
  | 0 => some .t1
  | 1 => some .t2
  | 2 => some .t3
  | _ => none

/-- The entry of one train. -/
def PerTrain.get {α : Type} (p : PerTrain α) : Train → α
  | .k1 => p.k1
  | .k2 => p.k2
  | .k3 => p.k3
  | .x1 => p.x1
  | .x2 => p.x2
  | .x3 => p.x3

/-- Replace the entry of one train. -/
def PerTrain.set {α : Type} (p : PerTrain α) (t : Train) (a : α) : PerTrain α :=
  match t with
  | .k1 => { p with k1 := a }
  | .k2 => { p with k2 := a }
  | .k3 => { p with k3 := a }
  | .x1 => { p with x1 := a }
  | .x2 => { p with x2 := a }
  | .x3 => { p with x3 := a }

/-- Apply a function to the entry of every train. -/
def PerTrain.map {α β : Type} (p : PerTrain α) (f : α → β) : PerTrain β :=
  { k1 := f p.k1, k2 := f p.k2, k3 := f p.k3, x1 := f p.x1, x2 := f p.x2, x3 := f p.x3 }

/-- The entry of one Tank. -/
def PerTank.get {α : Type} (p : PerTank α) : Tank → α
  | .t1 => p.t1
  | .t2 => p.t2
  | .t3 => p.t3

/-- Replace the entry of one Tank. -/
def PerTank.set {α : Type} (p : PerTank α) (t : Tank) (a : α) : PerTank α :=
  match t with
  | .t1 => { p with t1 := a }
  | .t2 => { p with t2 := a }
  | .t3 => { p with t3 := a }

/-- Apply a function to the entry of every Tank. -/
def PerTank.map {α β : Type} (p : PerTank α) (f : α → β) : PerTank β :=
  { t1 := f p.t1, t2 := f p.t2, t3 := f p.t3 }

/-- The sum of a quantity over a list. -/
def sumOver {α : Type} (f : α → Nat) : List α → Nat
  | [] => 0
  | a :: rest => f a + sumOver f rest

/-- The sum of a signed quantity over a list. -/
def sumInt {α : Type} (f : α → Int) : List α → Int
  | [] => 0
  | a :: rest => f a + sumInt f rest

end Sys2Proof.Machine
end

