-- ==== Sys2Proof/Machine/Ops.lean ====
section
/-!
DEFINITION. The operations every family of commands uses: replacing one block of the state, the events blocks raise for
one another, answering a request, the response and order queues of the links, and the passing of time.
-/
namespace Sys2Proof.Machine

/-! ### Replacing one block -/

/-- Replace the Market Port's link state. -/
def State.setMp (s : State) (v : PortLink) : State := { s with mp := v }
/-- Replace the Supervisory Port's link state. -/
def State.setSp (s : State) (v : PortLink) : State := { s with sp := v }
/-- Replace the Supervisory Port transaction in progress. -/
def State.setTransaction (s : State) (v : Option Transaction) : State := { s with transaction := v }
/-- Replace the Sticky Set. -/
def State.setSticky (s : State) (v : BitVec 26) : State := { s with sticky := v }
/-- Replace the train links. -/
def State.setTrainLinks (s : State) (v : PerTrain TrainLink) : State := { s with trainLinks := v }
/-- Replace the Interval Clock. -/
def State.setClock (s : State) (v : Clock) : State := { s with clock := v }
/-- Replace the Commitment Store. -/
def State.setStore (s : State) (v : Store) : State := { s with store := v }
/-- Replace the Horizon Projector. -/
def State.setProjector (s : State) (v : Projector) : State := { s with projector := v }
/-- Replace the Cavern Account. -/
def State.setCavern (s : State) (v : Cavern) : State := { s with cavern := v }
/-- Replace the Tanks. -/
def State.setTanks (s : State) (v : PerTank TankState) : State := { s with tanks := v }
/-- Replace the Train Contexts. -/
def State.setTrains (s : State) (v : PerTrain TrainContext) : State := { s with trains := v }
/-- Replace the Train Unit's tables. -/
def State.setTables (s : State) (v : TrainTables) : State := { s with tables := v }
/-- Replace the Dispatcher's state. -/
def State.setDispatcher (s : State) (v : Dispatcher) : State := { s with dispatcher := v }
/-- Replace the Configuration Loader's state. -/
def State.setLoader (s : State) (v : Loader) : State := { s with loader := v }
/-- Replace the events raised and not yet taken. -/
def State.setRaised (s : State) (v : List Raised) : State := { s with raised := v }
/-- Replace the line events not yet taken. -/
def State.setArrivals (s : State) (v : List Arrival) : State := { s with arrivals := v }
/-- Replace the queue of commands. -/
def State.setPending (s : State) (v : List Instr) : State := { s with pending := v }

/-- The Train Context of a train. -/
def State.train (s : State) (t : Train) : TrainContext := s.trains.get t
/-- Replace the Train Context of a train. -/
def State.setTrain (s : State) (t : Train) (c : TrainContext) : State := s.setTrains (s.trains.set t c)
/-- The state of a Tank. -/
def State.tank (s : State) (t : Tank) : TankState := s.tanks.get t
/-- Replace the state of a Tank. -/
def State.setTank (s : State) (t : Tank) (v : TankState) : State := s.setTanks (s.tanks.set t v)

/-- The link state of a request port. -/
def State.link (s : State) : Port → PortLink
  | .mp => s.mp
  | .sp => s.sp
/-- Replace the link state of a request port. -/
def State.setLink (s : State) (p : Port) (v : PortLink) : State :=
  match p with
  | .mp => s.setMp v
  | .sp => s.setSp v

/-! ### Plant time -/

/-- The Interval Number of an instant: Day × 96 + Second / 900 (R1). -/
def intervalOf (day second : Nat) : Nat := day * 96 + second / 900

/-- The Current Interval Number (R1). -/
def State.interval (s : State) : Nat := intervalOf s.clock.day s.clock.second

/-- The Gate: the Current Interval Number + G (R4). -/
def State.gate (s : State) : Nat := s.interval + s.clock.gateLead

/-- Let a timer run on, holding at its largest value (R160). -/
def runTimer (ms : Nat) (timer : Option Nat) : Option Nat := timer.map fun v => min (v + ms) maxU32

/-- Let time pass on the millisecond time base: every running Silence Timer and Start Timer counts, and so do the
milliseconds since power-on and since the last advance (R160, log 3). -/
def elapse (ms : Nat) (s : State) : State :=
  ((s.setTrains (s.trains.map fun c =>
      { c with silence := runTimer ms c.silence, startTimer := runTimer ms c.startTimer })).setTables
    { s.tables with millis := s.tables.millis + ms }).setClock
    { s.clock with sinceAdvance := s.clock.sinceAdvance + ms }

/-! ### Events between blocks (log 2) -/

/-- Raise an event for another block. -/
def raise (r : Raised) (s : State) : State := s.setRaised (s.raised ++ [r])

/-- Raise several events, in order. -/
def raiseAll (rs : List Raised) (s : State) : State := s.setRaised (s.raised ++ rs)

/-- The first element a selector picks, with the list that is left without it. -/
def takeFirst {α β : Type} (pick : α → Option β) : List α → Option (β × List α)
  | [] => none
  | a :: rest =>
    match pick a with
    | some b => some (b, rest)
    | none => (takeFirst pick rest).map fun found => (found.1, a :: found.2)

/-- Take the oldest raised event a selector picks; with none raised the command finds nothing to handle (log 2). -/
def handleRaised {β : Type} (pick : Raised → Option β) (handle : β → State → State) (s : State) : State :=
  match takeFirst pick s.raised with
  | some found => handle found.1 (s.setRaised found.2)
  | none => s

/-- Send a Train Notice for each train of a list (R160). -/
def noticeTrains (ts : List Train) (s : State) : State := raiseAll (ts.map Raised.train) s

/-! ### Answers (R18, R21) -/

/-- An answer with a status alone. -/
def Reply.bare (status : Status) : Reply := { status := status, zero := false, saturated := false, body := [] }

/-- An answer with a status and a body. -/
def Reply.withBody (status : Status) (body : List Octet) : Reply :=
  { status := status, zero := false, saturated := false, body := body }

/-- Append a response to a port's Response Queue (R18). -/
def respond (p : Port) (tag code : Octet) (reply : Reply) (s : State) : State :=
  s.setLink p
    { s.link p with responses := (s.link p).responses ++ [{ tag := tag, code := code, reply := reply }] }

/-- Answer a queued entry that was never in service when its port was last reset, or a fresh one: the answer is
appended and the Outstanding Count falls by one (R18). -/
def answerEntry (e : Entry) (reply : Reply) (s : State) : State :=
  let s' := respond e.source e.tag e.code reply s
  s'.setLink e.source { s'.link e.source with outstanding := (s'.link e.source).outstanding - 1 }

/-- Answer the Entry in Service: with its port's Dropped Answer mark set the answer is discarded and the mark cleared,
and the Outstanding Count is left as it is (R18); otherwise as any entry. -/
def answerInService (e : Entry) (reply : Reply) (s : State) : State :=
  if (s.link e.source).dropped then s.setLink e.source { s.link e.source with dropped := false }
  else answerEntry e reply s

/-- The number of octets of a response frame: start, length, tag, code, status, result conditions, body, check (R29). -/
def Response.frameLength (r : Response) : Nat := r.reply.body.length + 7

/-- Whether a Supervisory Port transaction shifts out a response: the one settled at its first octet. A transaction that
comes as one command has the queue as it stands at its first octet (R15, log 36). -/
def State.shifts (s : State) (r : Response) : Bool :=
  match s.transaction with
  | none => true
  | some tr => decide (tr.response = some r)

/-- The Response Queue at the release of chip-select of a transaction of `clocked` octets: the oldest response leaves it
when every octet of it was shifted out (R15). -/
def responsesLeft (clocked : Nat) (s : State) : List Response :=
  match s.sp.responses with
  | [] => []
  | r :: rest => if s.shifts r ∧ r.frameLength ≤ clocked then rest else r :: rest

/-- The end of a Supervisory Port transaction of `clocked` octets: the response shifted out in full leaves the queue, and
no transaction and no partial frame remain (R15). -/
def endTransaction (clocked : Nat) (s : State) : State :=
  (s.setSp { s.sp with intake := none, responses := responsesLeft clocked s }).setTransaction none

/-- The port a frame came by. -/
def viaPort : Via → Port
  | .mp => .mp
  | .sp _ => .sp

/-- The end of the reception of a frame of `octets` octets: the port's intake holds no partial frame any more, and on
the Supervisory Port the transaction has shifted out its octets (R14, R15). -/
def receive (via : Via) (octets : Nat) (s : State) : State :=
  match via with
  | .mp => s.setMp { s.mp with intake := none }
  | .sp extra => endTransaction (octets + extra) s

/-! ### Setpoint Orders (R28) -/

/-- Issue an order on a train link: sent at once on an idle link, else it becomes the waiting order. -/
def TrainLink.issue (l : TrainLink) (o : Order) : TrainLink :=
  match l.sending with
  | none => { l with sending := some o }
  | some _ => { l with waiting := some o }

/-- Issue an order for a train (R28). -/
def issueOrder (t : Train) (o : Order) (s : State) : State :=
  s.setTrainLinks (s.trainLinks.set t ((s.trainLinks.get t).issue o))

end Sys2Proof.Machine
end

