-- ==== Sys2Proof/Machine/Flags.lean ====
section
/-!
DEFINITION. The conditions and alert lines (R23 to R26): the positions of the Sticky Set, the Live Set as it follows
from its owners' state, and the level of each port's alert line.
-/
namespace Sys2Proof.Machine

/-- The sticky conditions of R23. -/
inductive Sticky where
  | scheduleAtRisk | authorityForced | commitmentLapsed | passRestarted | cavernLimitEntered
  | characteristicRange
  | heatUnderdraw (tank : Tank)
  | heatSpill (tank : Tank)
  | trainTripped (train : Train)
  | trainLost (train : Train)
  | reportClamped
  | configItemInvalid
  deriving DecidableEq, Repr

/-- The position of a sticky condition in the Sticky Set (R23). -/
def stickyPosition : Sticky → Nat
  | .scheduleAtRisk => 0
  | .authorityForced => 1
  | .commitmentLapsed => 2
  | .passRestarted => 3
  | .cavernLimitEntered => 4
  | .characteristicRange => 5
  | .heatUnderdraw t => 6 + tankIndex t
  | .heatSpill t => 9 + tankIndex t
  | .trainTripped t => 12 + trainIndex t
  | .trainLost t => 18 + trainIndex t
  | .reportClamped => 24
  | .configItemInvalid => 25

/-- The Sticky Set with only one condition set. -/
def stickyBit (c : Sticky) : BitVec 26 := BitVec.ofNat 26 (2 ^ stickyPosition c)

/-- Whether a sticky condition is set. -/
def State.hasSticky (s : State) (c : Sticky) : Bool := s.sticky.getLsbD (stickyPosition c)

/-- Set a sticky condition; one already set stays set (R23). -/
def setSticky (c : Sticky) (s : State) : State := s.setSticky (s.sticky ||| stickyBit c)

/-- Set a sticky condition when its cause has arisen. -/
def setStickyIf (cause : Bool) (c : Sticky) (s : State) : State := if cause then setSticky c s else s

/-- The level of a port's alert line: asserted while a sticky condition is both set and enabled in the port's Alert
Mask (R26). -/
def alertLine (s : State) (p : Port) : Bool := (s.sticky &&& (s.link p).alertMask) != 0

/-- Whether a train's cached copy differs in Generation from the row its Selector names (R173). -/
def envelopeStale (s : State) (t : Train) : Bool :=
  match (s.train t).selection with
  | none => false
  | some sel =>
    match s.tables.envelopes[sel.selector]? with
    | none => false
    | some row => row.generation != sel.generation

/-- One live position, as a set of one member or none. -/
def liveBit (position : Nat) (shown : Bool) : BitVec 16 := if shown then BitVec.ofNat 16 (2 ^ position) else 0

/-- The Live Set, as it follows from the owners' state (R23, log 13). -/
def liveSet (s : State) : BitVec 16 :=
  liveBit 0 (s.dispatcher.mode == .unconfigured) |||
  liveBit 1 (!s.clock.timeSet) |||
  liveBit 2 (!s.cavern.calibrated) |||
  liveBit 3 (!s.tanks.t1.surveyed) |||
  liveBit 4 (!s.tanks.t2.surveyed) |||
  liveBit 5 (!s.tanks.t3.surveyed) |||
  liveBit 6 s.trains.k1.creditLimit |||
  liveBit 7 s.trains.k2.creditLimit |||
  liveBit 8 s.trains.k3.creditLimit |||
  liveBit 9 (envelopeStale s .k1) |||
  liveBit 10 (envelopeStale s .k2) |||
  liveBit 11 (envelopeStale s .k3) |||
  liveBit 12 (envelopeStale s .x1) |||
  liveBit 13 (envelopeStale s .x2) |||
  liveBit 14 (envelopeStale s .x3) |||
  liveBit 15 (!s.projector.current)

end Sys2Proof.Machine
end

