-- ==== Sys2Proof/Machine/CavernAccount.lean ====
section
/-!
DEFINITION. The operations of the Cavern Account (chapter 6): interpolation both ways, the Band's transitions, the
evaluation that follows each change of the inventory, integration, and the taking of its configuration items.
-/
namespace Sys2Proof.Machine

/-- Straight-line interpolation along the segments of a table, from its first point on; past the last point the last
ordinate (R109, R110). -/
def alongSegments : List (Nat × Nat) → Nat → Nat
  | [], _ => 0
  | [a], _ => a.2
  | a :: b :: rest, x =>
    if x < b.1 then a.2 + (x - a.1) * (b.2 - a.2) / (b.1 - a.1) else alongSegments (b :: rest) x

/-- Forward interpolation: the pressure for a mass, that of the nearer end outside the table (R109, R110). -/
def forwardPressure (points : List (Nat × Nat)) (mass : Nat) : Nat :=
  match points with
  | [] => 0
  | a :: rest => if mass < a.1 then a.2 else alongSegments (a :: rest) mass

/-- Whether a mass lies below the first or above the last point (R110). -/
def massOutside (points : List (Nat × Nat)) (mass : Nat) : Bool :=
  match points.head?, points.getLast? with
  | some a, some b => mass < a.1 || b.1 < mass
  | _, _ => false

/-- A pressure clamped to p_0..p_8 (R117). -/
def appliedPressure (points : List (Nat × Nat)) (p : Nat) : Nat :=
  match points.head?, points.getLast? with
  | some a, some b => if p < a.2 then a.2 else if b.2 < p then b.2 else p
  | _, _ => p

/-- Inverse interpolation: the mass for a pressure within the table (R117). -/
def inverseMass (points : List (Nat × Nat)) (p : Nat) : Nat :=
  alongSegments (points.map fun a => (a.2, a.1)) p

/-- The band hysteresis h in kPa, fixed (R107). -/
def bandHysteresis : Nat := 20

/-- One transition of the Band for a pressure, if one applies (R114). -/
def bandStep (th : Thresholds) (p : Nat) : Band → Option Band
  | .normal =>
    if p < th.lowWarn then some .lowWarn else if th.highWarn < p then some .highWarn else none
  | .lowWarn =>
    if p < th.lowLimit then some .lowLimit
    else if th.lowWarn + bandHysteresis ≤ p then some .normal else none
  | .lowLimit => if th.lowWarn ≤ p then some .lowWarn else none
  | .highWarn =>
    if th.highLimit < p then some .highLimit
    else if p + bandHysteresis ≤ th.highWarn then some .normal else none
  | .highLimit => if p ≤ th.highWarn then some .highWarn else none

/-- Apply transitions until none applies, at most `n` of them. -/
def bandSteps (th : Thresholds) (p : Nat) : Nat → Band → Band
  | 0, b => b
  | n + 1, b =>
    match bandStep th p b with
    | none => b
    | some b' => bandSteps th p n b'

/-- The Band after an evaluation, which ends after at most four steps (R114). -/
def evaluateBand (th : Thresholds) (p : Nat) (b : Band) : Band := bandSteps th p 4 b

/-- Whether a band is a LIMIT band. -/
def isLimit : Band → Bool
  | .lowLimit => true
  | .highLimit => true
  | _ => false

/-- Interpolate the Mass Inventory, write the Pressure, and evaluate the Band: CHARACTERISTIC_RANGE for a mass outside
the table (R110), and for a changed Band the notice and, in a LIMIT band, CAVERN_LIMIT_ENTERED (R111, R115). -/
def reinterpolate (s : State) : State :=
  let c := s.cavern
  let p := forwardPressure c.characteristic c.mass
  let b := evaluateBand c.thresholds p c.band
  let s1 := setStickyIf (massOutside c.characteristic c.mass) .characteristicRange
    (s.setCavern { c with pressure := p, band := b })
  if b = c.band then s1 else raise .band (setStickyIf (isLimit b) .cavernLimitEntered s1)

/-- The signed mass a report moves, in 10⁻⁴ kg, from the flow and elapsed time as clamped (R112). -/
def reportMass (t : Train) (flow elapsed : Nat) : Int :=
  let q : Int := ((min flow 6000 * min elapsed 5000 : Nat) : Int)
  match trainKind t with
  | .compressor => q
  | .expander => -q

/-- Move a signed mass into the Residue and its whole kilograms into the Mass Inventory, which holds at its bounds
(R113). -/
def moveMass (q : Int) (c : Cavern) : Cavern :=
  let sum := c.residue + q
  let whole := sum.tdiv 10000
  { c with
    mass := (holdInt 0 (maxU32 : Int) ((c.mass : Int) + whole)).toNat
    residue := sum - 10000 * whole }

/-- Integrate a handed report (R112, R113): a flow of 0 leaves the account as it is, a clamp sets REPORT_CLAMPED, and a
q of 0 leaves the account as it is. -/
def integrateReport (t : Train) (flow elapsed : Nat) (s : State) : State :=
  if flow = 0 then s
  else
    let s1 := setStickyIf (decide (6000 < flow) || decide (5000 < elapsed)) .reportClamped s
    let q := reportMass t flow elapsed
    if q = 0 then s1 else reinterpolate (s1.setCavern (moveMass q s1.cavern))

/-- Take the Cavern Characteristic item: a changed point clears the Calibration Flag (R108). -/
def takeCharacteristic (points : List (Nat × Nat)) (s : State) : State :=
  let c := s.cavern
  reinterpolate
    (s.setCavern { c with characteristic := points, calibrated := c.calibrated && points == c.characteristic })

/-- Take the pressure thresholds item (R108). -/
def takeThresholds (th : Thresholds) (s : State) : State :=
  reinterpolate (s.setCavern { s.cavern with thresholds := th })

/-- The account a CALIBRATE leaves before its interpolation (R118, steps 1 to 5). -/
def calibratedAccount (measured : Nat) (clock : Clock) (c : Cavern) : Cavern :=
  let applied := appliedPressure c.characteristic measured
  let mass := inverseMass c.characteristic applied
  { c with
    mass := mass
    residue := 0
    calibrated := true
    lastCalibration :=
      some { day := clock.day, second := clock.second, applied := applied,
             correction := (mass : Int) - (c.mass : Int) } }

end Sys2Proof.Machine
end

