-- ==== Sys2Proof/Machine/Operands.lean ====
section
/-!
DEFINITION. The operand forms of requests and the encodings of responses (R16, R29, R30, R31): reading a body's fields
from its octets with the faults of R16, the fields of every request, and writing fields, records and frames as octets.
-/
namespace Sys2Proof.Machine

/-! ### Reading a body (R16, R31) -/

/-- The Fault Detail of a BAD_REQUEST (R16). -/
inductive FaultDetail where
  | unknownCode | bodyShort | bodyLong | badEncoding
  deriving DecidableEq, Repr

/-- A broken body: what is wrong and the offset returned (R16). -/
structure BodyFault where
  detail : FaultDetail
  offset : Nat
  deriving DecidableEq, Repr

/-- A reader of body fields, over the offset of the next octet and the octets left. It stops at the first fault in a
scan from the start of the body (R16). -/
abbrev Parser (α : Type) := StateT (Nat × List Octet) (Except BodyFault) α

/-- The next octet; at the end of the body the fault is BODY_SHORT with the body length as offset (R16). -/
def parseOctet : Parser Octet := fun at_ =>
  match at_.2 with
  | [] => .error { detail := .bodyShort, offset := at_.1 }
  | o :: rest => .ok (o, (at_.1 + 1, rest))

/-- An unsigned quantity of one octet. -/
def parseU8 : Parser Nat := do
  let o ← parseOctet
  pure o.toNat

/-- An unsigned quantity of two octets, most significant first. -/
def parseU16 : Parser Nat := do
  let hi ← parseU8
  let lo ← parseU8
  pure (hi * 256 + lo)

/-- An unsigned quantity of four octets, most significant first. -/
def parseU32 : Parser Nat := do
  let hi ← parseU16
  let lo ← parseU16
  pure (hi * 65536 + lo)

/-- A two's complement quantity of two octets. -/
def parseS16 : Parser Int := do
  let n ← parseU16
  pure (if n < 32768 then (n : Int) else (n : Int) - 65536)

/-- An octet that must lie in a listing of values; any other is BAD_ENCODING at its offset (R16). -/
def parseListed {α : Type} (listed : Nat → Option α) : Parser α := fun at_ =>
  match parseU8 at_ with
  | .error f => .error f
  | .ok (n, next) =>
    match listed n with
    | some a => .ok (a, next)
    | none => .error { detail := .badEncoding, offset := at_.1 }

/-- The listing of a flag or presence octet: 0 clear, 1 set. -/
def listedFlag : Nat → Option Bool
  | 0 => some false
  | 1 => some true
  | _ => none

/-- A flag (R31). -/
def parseFlag : Parser Bool := parseListed listedFlag

/-- An optional field: a presence octet, then the field when present (R31). -/
def parseOptional {α : Type} (field : Parser α) : Parser (Option α) := do
  let present ← parseFlag
  if present then
    let a ← field
    pure (some a)
  else pure none

/-- A counted run of items. -/
def parseItems {α : Type} (item : Parser α) : Nat → Parser (List α)
  | 0 => pure []
  | n + 1 => do
    let a ← item
    let rest ← parseItems item n
    pure (a :: rest)

/-- A list of varying length: a count octet, then the items (R31). -/
def parseList {α : Type} (item : Parser α) : Parser (List α) := do
  let n ← parseU8
  parseItems item n

/-- Read a whole body: octets left after the last field are BODY_LONG at the first of them (R16). -/
def parseBody {α : Type} (fields : Parser α) (body : List Octet) : Except BodyFault α :=
  match fields (0, body) with
  | .error f => .error f
  | .ok (a, next) =>
    match next.2 with
    | [] => .ok a
    | _ :: _ => .error { detail := .bodyLong, offset := next.1 }

/-! ### Listings of enumerations, in the order of the owning chapters (R31) -/

/-- The Kind of a Commitment (R33). -/
def listedKind : Nat → Option CommitmentKind
  | 0 => some .energy
  | 1 => some .reserveUp
  | 2 => some .reserveDown
  | _ => none

/-- The Standing of a Commitment (R33). -/
def listedStanding : Nat → Option Standing
  | 0 => some .tentative
  | 1 => some .firm
  | _ => none

/-- The Field of an AMEND (R41). -/
def listedField : Nat → Option AmendField
  | 0 => some .power
  | 1 => some .length
  | 2 => some .marketReference
  | _ => none

/-- The Operation of an AMEND (R41). -/
def listedOperation : Nat → Option AmendOperation
  | 0 => some .set
  | 1 => some .add
  | 2 => some .subtract
  | _ => none

/-- The Kind of an Outage Record (R178). -/
def listedOutageKind : Nat → Option OutageKind
  | 0 => some .full
  | 1 => some .derate
  | _ => none

/-- The Kind of an Envelope Descriptor (R171). -/
def listedTrainKind : Nat → Option TrainKind
  | 0 => some .compressor
  | 1 => some .expander
  | _ => none

/-- The Key Kind of LOOKUP_COMMITMENT (R54): HANDLE is false, MARKET_REFERENCE is true. -/
def listedKeyKind : Nat → Option Bool := listedFlag

/-- The Search of LOOKUP_OUTAGE (R180): EXACT is false, NEXT is true. -/
def listedSearch : Nat → Option Bool := listedFlag

/-- The status of a Train Report (R30); a value above 5 is none (R161). -/
def listedReportStatus : Nat → Option ReportedStatus
  | 0 => some .off
  | 1 => some .ready
  | 2 => some .starting
  | 3 => some .running
  | 4 => some .stopping
  | 5 => some .tripped
  | _ => none

/-! ### The fields of each request -/

/-- A request with an empty body. -/
def parseEmpty : Parser Unit := pure ()

/-- ENTER (R39). -/
def parseEnter : Parser EnterRequest := do
  let kind ← parseListed listedKind
  let standing ← parseListed listedStanding
  let start ← parseU32
  let length ← parseU8
  let power ← parseS16
  let reference ← parseU32
  pure { kind := kind, standing := standing, start := start, length := length, power := power, reference := reference }

/-- The Operand of an AMEND, encoded as the field it names (R41). -/
def parseOperand : AmendField → Parser Int
  | .power => parseS16
  | .length => do
    let n ← parseU8
    pure (n : Int)
  | .marketReference => do
    let n ← parseU32
    pure (n : Int)

/-- AMEND (R41). -/
def parseAmend : Parser AmendRequest := do
  let handle ← parseU16
  let field ← parseListed listedField
  let operation ← parseListed listedOperation
  let preview ← parseFlag
  let operand ← parseOperand field
  pure { handle := handle, field := field, operation := operation, preview := preview, operand := operand }

/-- DEPLOY (R52): a Handle and an Amount. -/
def parseDeploy : Parser (Nat × Nat) := do
  let handle ← parseU16
  let amount ← parseU16
  pure (handle, amount)

/-- LOOKUP_COMMITMENT (R54): whether the Key is a Market Reference, and the Key. -/
def parseKey : Parser (Bool × Nat) := do
  let byReference ← parseListed listedKeyKind
  let key ← parseU32
  pure (byReference, key)

/-- ENTER_OUTAGE (R179). -/
def parseOutage : Parser OutageRequest := do
  let train ← parseListed trainAt
  let first ← parseU32
  let last ← parseU32
  let kind ← parseListed listedOutageKind
  let derateMax ← parseOptional parseU16
  pure { train := train, first := first, last := last, kind := kind, derateMax := derateMax }

/-- LOOKUP_OUTAGE (R180): whether the Search is NEXT, and a Handle. -/
def parseSearch : Parser (Bool × Nat) := do
  let next ← parseListed listedSearch
  let handle ← parseU8
  pure (next, handle)

/-- SELECT_ENVELOPE (R172): a Train and a Selector. -/
def parseSelect : Parser (Train × Nat) := do
  let train ← parseListed trainAt
  let selector ← parseU8
  pure (train, selector)

/-- An Envelope Descriptor in the field order of R171, without the Generation (R173). -/
def parseDescriptor : Parser Descriptor := do
  let kind ← parseListed listedTrainKind
  let valid ← parseFlag
  let minLoad ← parseU16
  let maxLoad ← parseU16
  let coldMax ← parseOptional parseU16
  let rampUp ← parseU8
  let rampDown ← parseU8
  let startLimit ← parseU16
  let heatRate ← parseOptional parseU16
  let reserveCapable ← parseFlag
  pure { kind := kind, valid := valid, minLoad := minLoad, maxLoad := maxLoad, coldMax := coldMax, rampUp := rampUp,
         rampDown := rampDown, startLimit := startLimit, heatRate := heatRate, reserveCapable := reserveCapable }

/-- AMEND_ENVELOPE (R173): a Selector and a descriptor. -/
def parseAmendEnvelope : Parser (Nat × Descriptor) := do
  let selector ← parseU8
  let descriptor ← parseDescriptor
  pure (selector, descriptor)

/-- BIND_TANK (R176): a Train and a Tank. -/
def parseBind : Parser (Train × Tank) := do
  let train ← parseListed trainAt
  let tank ← parseListed tankAt
  pure (train, tank)

/-- A layer of a survey (R139): a Temperature and an Energy. -/
def parseLayer : Parser (Nat × Nat) := do
  let temperature ← parseU16
  let energy ← parseU32
  pure (temperature, energy)

/-- SURVEY_TANK (R139): a Tank and its layers, top first. -/
def parseSurvey : Parser (Tank × List (Nat × Nat)) := do
  let tank ← parseListed tankAt
  let layers ← parseList parseLayer
  pure (tank, layers)

/-- SET_TIME (R5): a Day Number and a Second of Day. -/
def parseTime : Parser (Nat × Nat) := do
  let day ← parseU16
  let second ← parseU32
  pure (day, second)

/-- CONFIGURE (R205): an Item Identifier and the words of the Item Body. -/
def parseConfigure : Parser (Nat × List Nat) := do
  let item ← parseU8
  let words ← parseList parseU16
  pure (item, words)

/-! ### Writing fields (R31) -/

/-- An unsigned quantity of one octet. -/
def u8 (n : Nat) : List Octet := [BitVec.ofNat 8 n]

/-- An unsigned quantity of two octets, most significant first. -/
def u16 (n : Nat) : List Octet := u8 (n / 256) ++ u8 n

/-- An unsigned quantity of four octets, most significant first. -/
def u32 (n : Nat) : List Octet := u16 (n / 65536) ++ u16 n

/-- An unsigned quantity of eight octets, most significant first. -/
def u64 (n : Nat) : List Octet := u32 (n / 4294967296) ++ u32 n

/-- A two's complement quantity of two octets. -/
def s16 (x : Int) : List Octet := u16 (x % 65536).toNat

/-- A two's complement quantity of four octets. -/
def s32 (x : Int) : List Octet := u32 (x % 4294967296).toNat

/-- A two's complement quantity of eight octets. -/
def s64 (x : Int) : List Octet := u64 (x % 18446744073709551616).toNat

/-- A flag. -/
def flag (b : Bool) : List Octet := u8 (if b then 1 else 0)

/-- An optional field: the presence octet, then the field when present. -/
def optional {α : Type} (field : α → List Octet) : Option α → List Octet
  | none => u8 0
  | some a => u8 1 ++ field a

/-- A list of varying length: the count octet, then the items. -/
def counted {α : Type} (item : α → List Octet) (items : List α) : List Octet :=
  u8 items.length ++ items.flatMap item

/-- The code of each status (R21). -/
def statusCode : Status → Nat
  | .done => 0x00
  | .doneUnchanged => 0x01
  | .badRequest => 0x10
  | .notPermitted => 0x11
  | .noAuthority => 0x12
  | .authorityLost => 0x13
  | .notFound => 0x14
  | .tableFull => 0x15
  | .queueFull => 0x16
  | .portLimit => 0x17
  | .gateClosed => 0x18
  | .pastInterval => 0x19
  | .outOfRange => 0x1A
  | .infeasible => 0x1B
  | .duplicateReference => 0x1C
  | .wrongKind => 0x1D
  | .wrongState => 0x1E
  | .tankInUse => 0x1F
  | .aborted => 0x20

/-- Position of a Fault Detail (R16). -/
def faultCode : FaultDetail → Nat
  | .unknownCode => 0
  | .bodyShort => 1
  | .bodyLong => 2
  | .badEncoding => 3

/-- Position of a Commitment Kind (R33). -/
def kindCode : CommitmentKind → Nat
  | .energy => 0
  | .reserveUp => 1
  | .reserveDown => 2

/-- Position of a Standing (R33). -/
def standingCode : Standing → Nat
  | .tentative => 0
  | .firm => 1

/-- Position of a Field (R41). -/
def fieldCode : AmendField → Nat
  | .power => 0
  | .length => 1
  | .marketReference => 2

/-- Position of a port (R33: MP or SP). -/
def portCode : Port → Nat
  | .mp => 0
  | .sp => 1

/-- Position of an Operating Mode (R10). -/
def modeCode : Mode → Nat
  | .unconfigured => 0
  | .standby => 1
  | .dispatching => 2
  | .stopping => 3

/-- Position of an Authority State (R61). -/
def authorityCode : Authority → Nat
  | .market => 0
  | .openState => 1
  | .supervisory => 2

/-- Position of a Direction (R182). -/
def directionCode : Direction → Nat
  | .idle => 0
  | .charging => 1
  | .generating => 2
  | .reversing => 3

/-- Position of a Pass State (R82). -/
def passCode : PassState → Nat
  | .idle => 0
  | .projecting => 1
  | .screening => 2

/-- Position of a train's State (R170). -/
def trainStateCode : TrainState → Nat
  | .offline => 0
  | .ready => 1
  | .starting => 2
  | .running => 3
  | .unloading => 4
  | .tripped => 5
  | .lost => 6

/-- Position of a reported status (R30). -/
def reportStatusCode : ReportedStatus → Nat
  | .off => 0
  | .ready => 1
  | .starting => 2
  | .running => 3
  | .stopping => 4
  | .tripped => 5

/-- Position of a band (R121). -/
def bandCode : Band → Nat
  | .normal => 0
  | .lowWarn => 1
  | .lowLimit => 2
  | .highWarn => 3
  | .highLimit => 4

/-- Position of a layer's Origin (R141). -/
def originCode : Origin → Nat
  | .k1 => 0
  | .k2 => 1
  | .k3 => 2
  | .survey => 3

/-- Position of an outage Kind (R178). -/
def outageKindCode : OutageKind → Nat
  | .full => 0
  | .derate => 1

/-- Position of a descriptor's Kind (R171). -/
def trainKindCode : TrainKind → Nat
  | .compressor => 0
  | .expander => 1

/-- Position of an order's command (R30). -/
def commandCode : OrderCommand → Nat
  | .hold => 0
  | .start => 1
  | .run => 2
  | .stop => 3

/-- Position of a failure (R78). -/
def failureCode : Failure → Nat
  | .capacity => 0
  | .pressureLow => 1
  | .pressureHigh => 2
  | .rate => 3
  | .heatShort => 4
  | .heatFull => 5

/-- Position of a tag (R78). -/
def tagCode : PointTag → Nat
  | .scheduled => 0
  | .upPoint => 1
  | .downPoint => 2

/-- A Failure Set as a set of 18 members, each failure followed by its three tags (R78). -/
def failureSet (members : List (Failure × PointTag)) : List Octet :=
  let bits := members.foldl (fun acc m => acc ||| 2 ^ (3 * failureCode m.1 + tagCode m.2)) 0
  u8 (bits / 65536) ++ u16 bits

/-- The Commitment Body (R56). Remaining is present while ACTIVE, Deployed on an ACTIVE FIRM reserve record, the First
Failing Interval while At Risk is set. -/
def commitmentBody (c : Commitment) : List Octet :=
  u16 c.handle ++ u32 c.reference ++ u8 (kindCode c.kind) ++ u8 (standingCode c.standing) ++
  (match c.phase with
   | .pending => u8 0
   | .active _ => u8 1) ++
  u32 c.start ++ u8 c.length ++
  (match c.phase with
   | .pending => optional u8 none
   | .active remaining => optional u8 (some remaining)) ++
  s16 c.power ++
  (match c.phase, c.standing, c.kind with
   | .active _, .firm, .reserveUp => optional u16 (some c.deployed)
   | .active _, .firm, .reserveDown => optional u16 (some c.deployed)
   | _, _, _ => optional u16 none) ++
  flag c.atRisk.isSome ++ optional u32 c.atRisk ++ u8 (portCode c.source)

/-- The Outage Body (R178). -/
def outageBody (o : Outage) : List Octet :=
  u8 o.handle ++ u8 (trainIndex o.train) ++ u32 o.first ++ u32 o.last ++ u8 (outageKindCode o.kind) ++
  optional u16 o.derateMax

/-- A descriptor in the field order of R171, with its Generation. -/
def descriptorBody (d : Descriptor) (generation : Nat) : List Octet :=
  u8 (trainKindCode d.kind) ++ flag d.valid ++ u16 d.minLoad ++ u16 d.maxLoad ++ optional u16 d.coldMax ++
  u8 d.rampUp ++ u8 d.rampDown ++ u16 d.startLimit ++ optional u16 d.heatRate ++ flag d.reserveCapable ++
  u16 generation

/-! ### Frames (R29, R30) -/

/-- The result conditions of a reply, as a set of ZERO and SATURATED (R29). -/
def conditionsOctet (r : Reply) : Nat := (if r.zero then 1 else 0) + (if r.saturated then 2 else 0)

/-- A response frame (R29). -/
def Response.frame (r : Response) : List Octet :=
  let checked :=
    u8 (r.reply.body.length + 5) ++ [r.tag, r.code] ++ u8 (statusCode r.reply.status) ++
    u8 (conditionsOctet r.reply) ++ r.reply.body
  [0x5A] ++ checked ++ [checkOctet checked]

/-- A Setpoint Order frame for a train (R30). -/
def Order.frame (o : Order) (t : Train) : List Octet :=
  let checked := u8 (trainIndex t) ++ u8 (commandCode o.command) ++ u16 o.setpoint ++ u16 o.topTemperature
  [0x3C] ++ checked ++ [checkOctet checked]

end Sys2Proof.Machine
end

