-- ==== Sys2Proof/Machine/HeatStore.lean ====
section
/-!
DEFINITION. The operations of the Heat Store Unit (chapters 7 and 8): a Tank's derived quantities, deposits, draws and
standing loss on a Layer Stack, Top Notices, and the Reservations: Need, grant, partial and full return.
-/
namespace Sys2Proof.Machine

/-! ### A Tank's quantities (R126) -/

/-- Stored Energy: the sum of the energies of the layers (R124). -/
def storedEnergy (layers : List Layer) : Nat := sumOver Layer.energy layers

/-- Usable Heat: the energy of the layers at or above T_use (R126). -/
def usableHeat (tUse : Nat) (layers : List Layer) : Nat :=
  sumOver Layer.energy (layers.filter fun l => tUse ≤ l.temperature)

/-- The Reservation a compressor's context holds in a Tank: that of a train bound to it (R149). -/
def reservedBy (tank : Tank) (c : TrainContext) : Nat := if c.boundTank = tank then c.reservation else 0

/-- Reserved Energy: the sum of the Reservations of the compressors bound to the Tank (R149). -/
def reservedEnergy (trains : PerTrain TrainContext) (tank : Tank) : Nat :=
  reservedBy tank trains.k1 + reservedBy tank trains.k2 + reservedBy tank trains.k3

/-- Free Energy: Capacity − Stored Energy − Reserved Energy (R126). -/
def freeEnergy (s : State) (tank : Tank) : Nat :=
  (s.tank tank).capacity - storedEnergy (s.tank tank).layers - reservedEnergy s.trains tank

/-- The Top Temperature, absent for an empty stack (R126). -/
def topTemperature (layers : List Layer) : Option Nat := layers.head?.map Layer.temperature

/-- The Top Standing (R126). -/
inductive TopStanding where
  | usable | cold | empty
  deriving DecidableEq, Repr

/-- The Top Standing of a stack (R126). -/
def standingOf (tUse : Nat) (layers : List Layer) : TopStanding :=
  match layers with
  | [] => .empty
  | l :: _ => if tUse ≤ l.temperature then .usable else .cold

/-- The Top Standing of a Tank. -/
def topStanding (s : State) (tank : Tank) : TopStanding := standingOf s.loader.heat.tUse (s.tank tank).layers

/-- The Top Notices at the end of an event: one for each Tank whose Top Standing differs from the one before (R127). -/
def topNotices (before : State) (s : State) : State :=
  raiseAll ((allTanks.filter fun t => topStanding before t != topStanding s t).map Raised.top) s

/-! ### Deposits (R128 to R134) -/

/-- The Energy-weighted mean temperature, floored (R131). -/
def meanTemperature (t1 e1 t2 e2 : Nat) : Nat := (t1 * e1 + t2 * e2) / (e1 + e2)

/-- Merge a layer with the one beneath it: Origin and Entry Interval of the one with the greater Energy, of the lower
one where they are equal (R132, R134). -/
def mergeLayers (upper lower : Layer) : Layer :=
  let keep := if lower.energy < upper.energy then upper else lower
  { keep with
    temperature := meanTemperature upper.temperature upper.energy lower.temperature lower.energy
    energy := upper.energy + lower.energy }

/-- The inversion cascade: merge the top layer downward while it is colder than the one beneath (R133). -/
def cascade (top : Layer) : List Layer → List Layer
  | [] => [top]
  | below :: rest =>
    if top.temperature < below.temperature then cascade (mergeLayers top below) rest else top :: below :: rest

/-- Compaction: the bottom two layers become one (R132). -/
def compact : List Layer → List Layer
  | [] => []
  | [a] => [a]
  | [a, b] => [mergeLayers a b]
  | a :: b :: c :: rest => a :: compact (b :: c :: rest)

/-- Place an accepted amount: push a new layer on an empty stack or above the top by more than B, after a compaction of
a stack of 8; else merge it into the top layer and cascade (R131). -/
def placeHeat (b : Nat) (new : Layer) (layers : List Layer) : List Layer :=
  match layers with
  | [] => [new]
  | top :: rest =>
    if top.temperature + b < new.temperature then
      new :: (if 8 ≤ layers.length then compact layers else layers)
    else
      cascade
        { top with
          temperature := meanTemperature top.temperature top.energy new.temperature new.energy
          energy := top.energy + new.energy } rest

/-- The Origin of a layer founded by a train's deposit (R125). -/
def depositOrigin : Train → Origin
  | .k1 => .k1
  | .k2 => .k2
  | .k3 => .k3
  | _ => .survey

/-- Spill heat at a Tank: the Spill Total holds at its largest value, and HEAT_SPILL is set (R129, R130). -/
def spillHeat (tank : Tank) (mj : Nat) (s : State) : State :=
  setSticky (.heatSpill tank)
    (s.setTank tank { s.tank tank with spillTotal := min ((s.tank tank).spillTotal + mj) maxU32 })

/-- How a deposit of `h` is divided against the Tank as it stands: the reserved part and the free part (R130). -/
def depositParts (s : State) (t : Train) (tank : Tank) (h : Nat) : Nat × Nat :=
  let reserved := min h (reservedBy tank (s.train t))
  (reserved, min (h - reserved) (freeEnergy s tank))

/-- Take a deposit (R128 to R134). -/
def depositHeat (t : Train) (h temperature : Nat) (tank : Tank) (s : State) : State :=
  if h = 0 then s
  else if !(s.tank tank).surveyed || temperature ≤ s.loader.heat.tRef then spillHeat tank h s
  else
    let parts := depositParts s t tank h
    let accepted := parts.1 + parts.2
    let c := s.train t
    let s1 := s.setTrain t { c with reservation := c.reservation - parts.1 }
    let s2 := if accepted < h then spillHeat tank (h - accepted) s1 else s1
    let new : Layer :=
      { temperature := temperature, energy := accepted, origin := depositOrigin t, entry := s.interval }
    let s3 :=
      if accepted = 0 then s2
      else s2.setTank tank
        { s2.tank tank with layers := placeHeat s.loader.heat.band new (s2.tank tank).layers }
    topNotices s s3

/-! ### Draws (R135, R136) -/

/-- Take an amount from the top down; the stack left and the amount not drawn (R135). -/
def drawLayers : Nat → List Layer → List Layer × Nat
  | h, [] => ([], h)
  | h, l :: rest =>
    if h = 0 then (l :: rest, 0)
    else if h < l.energy then ({ l with energy := l.energy - h } :: rest, 0)
    else drawLayers (h - l.energy) rest

/-! ### Standing loss (R137, R138) -/

/-- One interval's loss on a layer. -/
def coolLayer (tRef f : Nat) (l : Layer) : Layer :=
  { l with
    energy := l.energy * (1000 - f) / 1000
    temperature := tRef + (l.temperature - tRef) * (1000 - f) / 1000 }

/-- One interval's loss on a stack, with the removal of layers without energy or rise (R137). -/
def coolStack (tRef f : Nat) (layers : List Layer) : List Layer :=
  (layers.map (coolLayer tRef f)).filter fun l => l.energy != 0 && l.temperature != tRef

/-- The loss of several intervals in succession (R138); an empty stack has nothing to lose. -/
def coolTimes (tRef f : Nat) : Nat → List Layer → List Layer
  | 0, layers => layers
  | _ + 1, [] => []
  | n + 1, l :: rest => coolTimes tRef f n (coolStack tRef f (l :: rest))

/-- Apply the loss of a number of intervals to every Tank; the Top Notices are judged once, at the end (R138). -/
def applyLoss (n : Nat) (s : State) : State :=
  let k := s.loader.heat
  topNotices s (s.setTanks (s.tanks.map fun tank => { tank with layers := coolTimes k.tRef k.loss n tank.layers }))

/-! ### Surveys and configuration (R139, R142, R143) -/

/-- Whether a State is one in which a train runs or is brought up or down. -/
def inUse : TrainState → Bool
  | .starting => true
  | .running => true
  | .unloading => true
  | _ => false

/-- Whether a train bound to the Tank is STARTING, RUNNING or UNLOADING (R139, R143). -/
def tankInUse (s : State) (tank : Tank) : Bool :=
  allTrains.any fun t => decide ((s.train t).boundTank = tank) && inUse (s.train t).state

/-- Whether surveyed layers are in order: no layer hotter than the one before it (R139). -/
def notHotter : List (Nat × Nat) → Bool
  | a :: b :: rest => decide (b.1 ≤ a.1) && notHotter (b :: rest)
  | _ => true

/-- Take the heat constants item: layers no hotter than the new T_ref are removed (R142). -/
def takeHeatConstants (k : HeatConstants) (s : State) : State :=
  let s1 := (s.setLoader { s.loader with heat := k }).setTanks
    (s.tanks.map fun tank => { tank with layers := tank.layers.filter fun l => k.tRef < l.temperature })
  topNotices s s1

/-- The state of a Tank under a new Capacity: contents that do not fit are emptied and the Survey Flag cleared (R143). -/
def recapacitate (capacity reserved : Nat) (tank : TankState) : TankState :=
  if capacity < storedEnergy tank.layers + reserved then
    { tank with capacity := capacity, layers := [], surveyed := false }
  else { tank with capacity := capacity }

/-- Take the Tank capacities item (R143). -/
def takeCapacities (capacities : PerTank Nat) (s : State) : State :=
  topNotices s (s.setTanks
    { t1 := recapacitate capacities.t1 (reservedEnergy s.trains .t1) s.tanks.t1
      t2 := recapacitate capacities.t2 (reservedEnergy s.trains .t2) s.tanks.t2
      t3 := recapacitate capacities.t3 (reservedEnergy s.trains .t3) s.tanks.t3 })

/-! ### Heat Credits (R148 to R156) -/

/-- The Need of a descriptor at a setpoint: setpoint × Qk × W / 36,000, rounded up to a whole credit (R148). -/
def needAt (w : Nat) (d : Descriptor) (setpoint : Nat) : Nat :=
  match d.heatRate with
  | none => 0
  | some qk => creditCeil (setpoint * qk * w) 36000

/-- The Credit Need of a compressor at a Candidate Setpoint, in a State (R148). -/
def creditNeedIn (s : State) (t : Train) (state : TrainState) (candidate : Nat) : Nat :=
  match (s.train t).selection with
  | none => 0
  | some sel =>
    let need := needAt s.loader.creditWindow sel.descriptor
    match state with
    | .running => need candidate
    | .unloading => need candidate
    | .starting => max (need candidate) (need sel.descriptor.minLoad)
    | _ => 0

/-- The Credit Need of a compressor at a Candidate Setpoint, in the State it is in (R148). -/
def creditNeed (s : State) (t : Train) (candidate : Nat) : Nat := creditNeedIn s t (s.train t).state candidate

/-- The size of a grant: the lesser of the Request and the Free Energy, rounded down to a whole credit; 0 on an
unsurveyed Tank (R150). -/
def grantSize (s : State) (t : Train) (request : Nat) : Nat :=
  let tank := (s.train t).boundTank
  if (s.tank tank).surveyed then creditFloor (min request (freeEnergy s tank)) else 0

/-- Grant a compressor's Request (R150). -/
def grantCredit (t : Train) (request : Nat) (s : State) : State :=
  s.setTrain t { s.train t with reservation := (s.train t).reservation + grantSize s t request }

/-- A partial return: the whole credits of the Reservation's excess over the Credit Need (R151). -/
def partialReturn (t : Train) (need : Nat) (s : State) : State :=
  let c := s.train t
  s.setTrain t { c with reservation := c.reservation - creditFloor (c.reservation - need) }

/-- Settle a compressor's Reservation to its Credit Need at a report: a top-up by the excess of the Need rounded up to
a whole credit, or a partial return (R150, R153). -/
def settleCredit (t : Train) (need : Nat) (s : State) : State :=
  if (s.train t).reservation < need then grantCredit t (creditCeil (need - (s.train t).reservation) 1) s
  else partialReturn t need s

/-- The credit-limited setpoint: Reservation × 36,000 / (Qk × W), floored (R154). -/
def creditSetpoint (w reservation : Nat) (d : Descriptor) : Nat :=
  match d.heatRate with
  | none => 0
  | some qk => reservation * 36000 / (qk * w)

/-- Apply the credit limit to a setpoint formed for a compressor, with HEAT_CREDIT_LIMIT as it follows; a compressor
without a selected descriptor is not limited and shows no condition (R154). -/
def limitByCredit (t : Train) (candidate : Nat) (s : State) : State :=
  let c := s.train t
  match c.selection with
  | none => s.setTrain t { c with setpoint := candidate, creditLimit := false }
  | some sel =>
    let limit := creditSetpoint s.loader.creditWindow c.reservation sel.descriptor
    s.setTrain t { c with setpoint := min candidate limit, creditLimit := decide (limit < candidate) }

end Sys2Proof.Machine
end

