-- ==== Sys2Proof/Machine/TrainUnit.lean ====
section
/-!
DEFINITION. The operations of the Train Unit (chapter 9): a train's limits, the moves of its State with their entry
effects, the Envelope Table and the Outage Table.
-/
namespace Sys2Proof.Machine

/-! ### Limits (R178, R184) -/

/-- Whether an Outage Record covers an interval (R178). -/
def Outage.covers (o : Outage) (interval : Nat) : Bool := decide (o.first ≤ interval) && decide (interval ≤ o.last)

/-- A selected train's limit in an interval: 0 under a FULL record, else the lesser of the max load and the lowest
Derate Max that covers it (R178). -/
def limitUnder (outages : List Outage) (t : Train) (interval maxLoad : Nat) : Nat :=
  let covering := outages.filter fun o => decide (o.train = t) && o.covers interval
  if covering.any fun o => decide (o.kind = .full) then 0
  else covering.foldl (fun limit o => min limit (o.derateMax.getD limit)) maxLoad

/-- The Current Limit of a train (R170). -/
def currentLimit (s : State) (t : Train) : Nat :=
  match (s.train t).selection with
  | none => 0
  | some sel => limitUnder s.tables.outages t s.interval sel.descriptor.maxLoad

/-- The Train Limit: the Current Limit, and for an expander no more than its Cold Max while the top of its Tank is not
USABLE (R184). -/
def trainLimit (s : State) (t : Train) : Nat :=
  match (s.train t).selection with
  | none => 0
  | some sel =>
    let limit := currentLimit s t
    if trainKind t = .expander ∧ topStanding s (s.train t).boundTank ≠ .usable then
      min limit (sel.descriptor.coldMax.getD limit)
    else limit

/-- Whether some train of a kind holds a Setpoint above 0 (R186). -/
def kindHolds (s : State) (k : TrainKind) : Bool := (trainsOf k).any fun t => decide (0 < (s.train t).setpoint)

/-! ### State moves (R163, R164) -/

/-- A trigger of the Horizon Projector: it sets pass-pending (R90). -/
def triggerPass (s : State) : State := s.setProjector { s.projector with passPending := true }

/-- Set pass-pending when a trigger has arisen. -/
def triggerPassIf (cause : Bool) (s : State) : State := if cause then triggerPass s else s

/-- Whether a State is TRIPPED or LOST. -/
def outOfService : TrainState → Bool
  | .tripped => true
  | .lost => true
  | _ => false

/-- The context of a train that enters OFFLINE, READY, TRIPPED or LOST: Setpoint and Share 0, no run, no Start Timer,
the whole Reservation returned with HEAT_CREDIT_LIMIT, and the Released flag cleared (R156, R164, R188). -/
def TrainContext.rest (c : TrainContext) (into : TrainState) : TrainContext :=
  { c with state := into, setpoint := 0, share := 0, reservation := 0, runStart := none, startTimer := none,
           released := false, creditLimit := false }

/-- The sticky condition of an entry into TRIPPED or LOST (R164). -/
def setEntryCondition (t : Train) (into : TrainState) (s : State) : State :=
  match into with
  | .tripped => setSticky (.trainTripped t) s
  | .lost => setSticky (.trainLost t) s
  | _ => s

/-- Move a train into OFFLINE, READY, TRIPPED or LOST with the effects of R164: the conditions, and pass-pending for a
train that enters or leaves TRIPPED or LOST. -/
def moveToRest (t : Train) (into : TrainState) (s : State) : State :=
  let c := s.train t
  triggerPassIf (outOfService into || outOfService c.state)
    (setEntryCondition t into (s.setTrain t (c.rest into)))

/-- The instant a run begins: Interval Number and Second of Day (R164). -/
def State.now (s : State) : Nat × Nat := (s.interval, s.clock.second)

/-- Re-entry into UNLOADING of a train that runs without the Controller's start, marked (a) in R163: the setpoint is the
lesser of the reported power and the max load, or 0 for an unselected train or while a train of the other kind holds a
setpoint (R164). -/
def reenterUnloading (t : Train) (power : Nat) (s : State) : State :=
  let c := s.train t
  let setpoint :=
    match c.selection with
    | none => 0
    | some sel =>
      if kindHolds s (otherKind (trainKind t)) then 0 else min power sel.descriptor.maxLoad
  triggerPassIf (outOfService c.state)
    (s.setTrain t
      { c with state := .unloading, setpoint := setpoint, runStart := some s.now, startTimer := none,
               released := false })

/-- The context of a train that moves from STARTING or RUNNING to UNLOADING with a given setpoint; its Run Start is kept
(R164, marked (b), and R165). -/
def TrainContext.unload (c : TrainContext) (setpoint : Nat) : TrainContext :=
  { c with state := .unloading, setpoint := setpoint, startTimer := none, released := false }

/-- What a reported status does to a train's State (R163). -/
inductive ReportMove where
  /-- The State stays. -/
  | stay
  /-- OFFLINE, READY or TRIPPED is entered. -/
  | rest (into : TrainState)
  /-- A STARTING train runs. -/
  | run
  /-- UNLOADING (a). -/
  | reenter
  /-- UNLOADING (b). -/
  | unload
  deriving DecidableEq, Repr

/-- The table of R163. -/
def reportMove : ReportedStatus → TrainState → ReportMove
  | .off, .ready => .rest .offline
  | .off, .running => .rest .ready
  | .off, .unloading => .rest .ready
  | .off, .lost => .rest .ready
  | .off, _ => .stay
  | .ready, .offline => .rest .ready
  | .ready, .running => .rest .ready
  | .ready, .unloading => .rest .ready
  | .ready, .lost => .rest .ready
  | .ready, _ => .stay
  | .starting, .offline => .reenter
  | .starting, .ready => .reenter
  | .starting, .lost => .reenter
  | .starting, _ => .stay
  | .running, .offline => .reenter
  | .running, .ready => .reenter
  | .running, .starting => .run
  | .running, .lost => .reenter
  | .running, _ => .stay
  | .stopping, .starting => .unload
  | .stopping, .running => .unload
  | .stopping, .lost => .reenter
  | .stopping, _ => .stay
  | .tripped, .tripped => .stay
  | .tripped, _ => .rest .tripped

/-- Apply a report's move of a train's State, with the reported power (R163, R164). -/
def applyMove (t : Train) (power : Nat) (m : ReportMove) (s : State) : State :=
  match m with
  | .stay => s
  | .rest into => moveToRest t into s
  | .run => s.setTrain t { s.train t with state := .running, startTimer := none }
  | .reenter => reenterUnloading t power s
  | .unload => s.setTrain t ((s.train t).unload (min (s.train t).setpoint power))

/-! ### Reports (R161) -/

/-- The largest power a train may run at (R161). -/
def maxPower (t : Train) : Nat :=
  match trainKind t with
  | .compressor => 900
  | .expander => 1200

/-- A report's fields brought into range (R161). -/
def clampReport (line : Train) (status : ReportedStatus) (r : ReportFrame) : Report :=
  { status := status
    power := min r.power.toNat (maxPower line)
    massFlow := min r.massFlow.toNat 6000
    heat := r.heat.toNat
    temperature := min r.temperature.toNat 8000
    elapsed := min r.elapsed.toNat 5000 }

/-- Whether some field of a report lies beyond its range (R161). -/
def reportBeyond (line : Train) (r : ReportFrame) : Bool :=
  decide (maxPower line < r.power.toNat) || decide (6000 < r.massFlow.toNat) ||
  decide (8000 < r.temperature.toNat) || decide (5000 < r.elapsed.toNat)

/-! ### Envelope Table (R171, R173) -/

/-- Whether a descriptor holds Cold Max exactly when it is an EXPANDER and Heat Rate exactly when it is a COMPRESSOR
(check 2 of R173). -/
def descriptorKindFits (d : Descriptor) : Bool :=
  match d.kind with
  | .compressor => d.coldMax.isNone && d.heatRate.isSome
  | .expander => d.coldMax.isSome && d.heatRate.isNone

/-- Whether a quantity lies in a range. -/
def inRange (lo hi n : Nat) : Bool := decide (lo ≤ n) && decide (n ≤ hi)

/-- Whether every field of a descriptor lies in its range of R171 (check 3 of R173). -/
def descriptorInRange (d : Descriptor) : Bool :=
  inRange 1 (match d.kind with
    | .compressor => 900
    | .expander => 1200) d.maxLoad &&
  decide (d.minLoad < d.maxLoad) &&
  (match d.coldMax with
   | none => true
   | some m => decide (m ≤ d.maxLoad)) &&
  inRange 1 200 d.rampUp && inRange 1 200 d.rampDown && inRange 30 1800 d.startLimit &&
  (match d.heatRate with
   | none => true
   | some q => inRange 1 5000 q)

/-- Write a row: a change of content raises its Generation by one, after 65,535 to 0 (R171). -/
def EnvelopeRow.write (row : EnvelopeRow) (d : Descriptor) : EnvelopeRow :=
  if row.descriptor = d then row else { descriptor := d, generation := (row.generation + 1) % 65536 }

/-- Write descriptors into the rows from a Selector on; every other row stays (R204, R205). -/
def writeRows : Nat → List Descriptor → List EnvelopeRow → List EnvelopeRow
  | _, _, [] => []
  | _, [], row :: rest => row :: rest
  | 0, d :: ds, row :: rest => row.write d :: writeRows 0 ds rest
  | n + 1, ds, row :: rest => row :: writeRows n ds rest

/-! ### Outage Table (R178 to R181) -/

/-- Whether a record is Expired for a current interval (R178). -/
def Outage.expired (o : Outage) (interval : Nat) : Bool := decide (o.last < interval)

/-- Remove every record Expired for an interval; the trains that lost one are named (R179, R181). -/
def removeExpired (interval : Nat) (s : State) : State × List Train :=
  let kept := s.tables.outages.filter fun o => !o.expired interval
  let lost := allTrains.filter fun t => s.tables.outages.any fun o => decide (o.train = t) && o.expired interval
  (s.setTables { s.tables with outages := kept }, lost)

/-- The number of records that are not Expired (R179). -/
def liveOutages (outages : List Outage) (interval : Nat) : Nat := (outages.filter fun o => !o.expired interval).length

/-- The successor in a numbering 1..last that wraps to 1. -/
def wrapNext (last n : Nat) : Nat := if last ≤ n then 1 else n + 1

/-- The first number, counting upward from `n` in 1..last with a wrap to 1, that a list does not hold; at most `fuel`
numbers are tried (R35, R179). -/
def firstFree (last : Nat) (held : List Nat) : Nat → Nat → Nat
  | 0, n => n
  | fuel + 1, n => if held.contains n then firstFree last held fuel (wrapNext last n) else n

/-- Insert a record in ascending order of Handle (R178). -/
def insertOutage (o : Outage) : List Outage → List Outage
  | [] => [o]
  | a :: rest => if o.handle < a.handle then o :: a :: rest else a :: insertOutage o rest

/-- Whether the Derate Max of a request lies in its range for the train's kind (R179). -/
def derateInRange (t : Train) : Option Nat → Bool
  | none => true
  | some m => inRange 1 (maxPower t) m

end Sys2Proof.Machine
end

