-- ==== Sys2Proof/Machine/HorizonPass.lean ====
section
/-!
DEFINITION. The operations of the Horizon Projector (chapter 5): the sampling of a Start State, the row arithmetic, the
beginning, restart and judgement of a Pass, the shift of the Horizon Table, and the At Risk marks.
-/
namespace Sys2Proof.Machine

/-! ### The Start State (R85) -/

/-- What a Pass samples of a train: available when its State is neither TRIPPED nor LOST (R87). -/
def sampleTrain (c : TrainContext) : TrainSample :=
  { available := !outOfService c.state, descriptor := c.selection.map Selection.descriptor }

/-- The surveyed Tanks (R85). -/
def surveyedTanks (s : State) : List Tank := allTanks.filter fun t => (s.tank t).surveyed

/-- The Start State a Pass samples (R85). -/
def sampleStart (s : State) : StartState :=
  { mass := s.cavern.mass
    pressure := s.cavern.pressure
    usable := sumOver (fun t => usableHeat s.loader.heat.tUse (s.tank t).layers) (surveyedTanks s)
    free := sumOver (freeEnergy s) (surveyedTanks s)
    remaining := 900 - s.clock.second % 900
    base := s.interval
    trains := s.trains.map sampleTrain
    outages := s.tables.outages
    commitments := s.store.commitments
    rates := s.loader.rates
    heat := s.loader.heat
    characteristic := s.cavern.characteristic
    thresholds := s.cavern.thresholds
    rateLimit := s.loader.rateLimit }

/-! ### Commitments counted in a row (R86) -/

/-- The last interval of a record's span (R33). -/
def Commitment.last (c : Commitment) : Nat := c.start + c.length - 1

/-- Whether a record's span covers an interval (R33). -/
def Commitment.covers (c : Commitment) (interval : Nat) : Bool :=
  decide (c.start ≤ interval) && decide (interval ≤ c.last)

/-- Whether a record is lapsing for a row numbering: TENTATIVE with a Start at or before its base (R86). -/
def Commitment.lapsing (c : Commitment) (base : Nat) : Bool :=
  decide (c.standing = .tentative) && decide (c.start ≤ base)

/-- Lay a Trial over the sampled records (R86). -/
def overlay (trial : Option Trial) (records : List Commitment) : List Commitment :=
  match trial with
  | none => records
  | some (.enter r) => records ++ [r]
  | some (.power h _ _ p _) => records.map fun c => if c.handle = h then { c with power := p } else c
  | some (.length h _ _ n _) => records.map fun c => if c.handle = h then { c with length := n } else c

/-- The records counted in an interval, under a row numbering (R86). -/
def countedIn (records : List Commitment) (base interval : Nat) : List Commitment :=
  records.filter fun c => c.covers interval && !c.lapsing base

/-- The sum of the Power of the records of a kind. -/
def powerOf (k : CommitmentKind) (records : List Commitment) : Int :=
  sumInt Commitment.power (records.filter fun c => decide (c.kind = k))

/-! ### Capacities (R87) -/

/-- A sampled train's limit in an interval (R87). -/
def sampledLimit (st : StartState) (interval : Nat) (t : Train) : Nat :=
  match (st.trains.get t).available, (st.trains.get t).descriptor with
  | true, some d => limitUnder st.outages t interval d.maxLoad
  | _, _ => 0

/-- A sampled train's limit where its descriptor carries RESERVE_CAPABLE (R87). -/
def sampledReserve (st : StartState) (interval : Nat) (t : Train) : Nat :=
  match (st.trains.get t).descriptor with
  | some d => if d.reserveCapable then sampledLimit st interval t else 0
  | none => 0

/-! ### Row arithmetic (R91 to R98) -/

/-- The start values of a row (section 5.4). -/
structure RowStart where
  mass : Nat
  pressure : Nat
  usable : Nat
  free : Nat
  deriving DecidableEq, Repr

/-- The mass or heat a power magnitude carries at a rate per MWh in `seconds` of an interval, rounded half up (R91). The
whole-interval form P × R / 40 is the one for 900 seconds. -/
def carried (power rate seconds : Nat) : Nat := roundHalfUp (power * rate * seconds) 36000

/-- End Mass after Step 2 (R93). -/
def stepMass (st : StartState) (seconds : Nat) (start : RowStart) (p : Int) : Nat :=
  if 0 < p then start.mass - carried p.natAbs st.rates.genMass seconds
  else min (start.mass + carried p.natAbs st.rates.chgMass seconds) maxU32

/-- The Rate Allowance (R94). -/
def rateAllowance (st : StartState) (seconds : Nat) : Nat := st.rateLimit * seconds / 900

/-- The failures of the pressure tests of Step 3 (R94). -/
def pressureFailures (st : StartState) (seconds before after : Nat) : List Failure :=
  (if after < st.thresholds.lowLimit then [.pressureLow] else []) ++
  (if st.thresholds.highLimit < after then [.pressureHigh] else []) ++
  (if rateAllowance st seconds < (after - before) + (before - after) then [.rate] else [])

/-- What Step 4 leaves: usable heat, free heat, and the failure if one arose (R95). -/
def stepHeat (st : StartState) (seconds : Nat) (start : RowStart) (p : Int) : Nat × Nat × List Failure :=
  if 0 < p then
    let demand := carried p.natAbs st.rates.genHeat seconds
    if start.usable < demand then (0, start.free + start.usable, [.heatShort])
    else (start.usable - demand, start.free + demand, [])
  else if p < 0 then
    let deposit := carried p.natAbs st.rates.chgHeat seconds
    let taken := min deposit start.free
    let usable := if st.heat.tUse ≤ st.heat.tNom then start.usable + taken else start.usable
    (usable, start.free - taken, if start.free < deposit then [.heatFull] else [])
  else (start.usable, start.free, [])

/-- The results of Steps 2 to 4 at one point of a row. -/
structure PointResult where
  mass : Nat
  pressure : Nat
  usable : Nat
  free : Nat
  failures : List Failure
  deriving DecidableEq, Repr

/-- Steps 2, 3 and 4 at a power (R93 to R95). -/
def runPoint (st : StartState) (seconds : Nat) (start : RowStart) (p : Int) : PointResult :=
  let mass := stepMass st seconds start p
  let pressure := forwardPressure st.characteristic mass
  let heat := stepHeat st seconds start p
  { mass := mass
    pressure := pressure
    usable := heat.1
    free := heat.2.1
    failures := pressureFailures st seconds start.pressure pressure ++ heat.2.2 }

/-- The capacity test of the scheduled point (R92). -/
def scheduledCapacity (net : Int) (gen chg : Nat) : List Failure :=
  if 0 < net then (if (gen : Int) < net then [.capacity] else [])
  else if net < 0 ∧ (chg : Int) < -net then [.capacity] else []

/-- The capacity test of the up point (R97). -/
def upCapacity (net : Int) (up gen reserveGen : Nat) : List Failure :=
  if (gen : Int) < net + up ∨ reserveGen < up then [.capacity] else []

/-- The capacity test of the down point (R98). -/
def downCapacity (net : Int) (down chg reserveChg : Nat) : List Failure :=
  if (net - down < 0 ∧ (chg : Int) < down - net) ∨ max net 0 + (reserveChg : Int) < down then [.capacity] else []

/-- The 18 members of a Failure Set in the order of R78. -/
def allMembers : List (Failure × PointTag) :=
  [Failure.capacity, .pressureLow, .pressureHigh, .rate, .heatShort, .heatFull].flatMap fun f =>
    [(f, .scheduled), (f, .upPoint), (f, .downPoint)]

/-- The Verdict of a row from the failures of its three points (R78, R96). -/
def verdictOf (scheduled up down : List Failure) : Verdict :=
  let found := scheduled.map (fun f => (f, PointTag.scheduled)) ++ up.map (fun f => (f, PointTag.upPoint)) ++
    down.map (fun f => (f, PointTag.downPoint))
  match allMembers.filter fun m => found.contains m with
  | [] => .feasible
  | failures => .failing failures

/-- The seconds of row r's interval that lie ahead: the sampled Remaining Seconds for row 0, else 900 (R91). -/
def secondsAhead (st : StartState) (r : Nat) : Nat := if r = 0 then st.remaining else 900

/-- Evaluate row r from its start values over the records counted (R91 to R98). -/
def evalRow (st : StartState) (records : List Commitment) (r : Nat) (start : RowStart) : Row :=
  let interval := st.base + r
  let seconds := secondsAhead st r
  let here := countedIn records st.base interval
  let net := powerOf .energy here
  let up := (powerOf .reserveUp here).toNat
  let down := (powerOf .reserveDown here).toNat
  let gen := sumOver (sampledLimit st interval) (trainsOf .expander)
  let chg := sumOver (sampledLimit st interval) (trainsOf .compressor)
  let reserveGen := sumOver (sampledReserve st interval) (trainsOf .expander)
  let reserveChg := sumOver (sampledReserve st interval) (trainsOf .compressor)
  let point := runPoint st seconds start net
  let kept := point.usable * (1000 - st.heat.loss) / 1000
  let upFailures :=
    if up = 0 then [] else upCapacity net up gen reserveGen ++ (runPoint st seconds start (net + up)).failures
  let downFailures :=
    if down = 0 then []
    else downCapacity net down chg reserveChg ++ (runPoint st seconds start (net - down)).failures
  { interval := interval
    net := net
    up := up
    down := down
    genCapacity := gen
    chgCapacity := chg
    reserveGen := reserveGen
    reserveChg := reserveChg
    endMass := point.mass
    endPressure := point.pressure
    endUsable := kept
    endFree := point.free + (point.usable - kept)
    verdict := verdictOf (scheduledCapacity net gen chg ++ point.failures) upFailures downFailures }

/-- The start values of the row after a row: its End values (R96). -/
def Row.next (r : Row) : RowStart :=
  { mass := r.endMass, pressure := r.endPressure, usable := r.endUsable, free := r.endFree }

/-- The start values of row 0: the sampled ones (section 5.4). -/
def firstStart (st : StartState) : RowStart :=
  { mass := st.mass, pressure := st.pressure, usable := st.usable, free := st.free }

/-- The start values of the next row of a Working Copy. -/
def nextStart (st : StartState) (rows : List Row) : RowStart :=
  match rows.getLast? with
  | none => firstStart st
  | some r => r.next

/-- Evaluate `n` rows in turn, from row r and its start values on. -/
def evalRows (st : StartState) (records : List Commitment) : Nat → Nat → RowStart → List Row
  | 0, _, _ => []
  | n + 1, r, start =>
    let row := evalRow st records r start
    row :: evalRows st records n (r + 1) row.next

/-- The Working Copy with all 192 rows evaluated: those evaluated so far and the rest in turn (R88). -/
def completedCopy (st : StartState) (trial : Option Trial) (rows : List Row) : List Row :=
  rows ++ evalRows st (overlay trial st.commitments) (192 - rows.length) rows.length (nextStart st rows)

/-- The Working Copy with one more row evaluated, until all 192 are (log 23). -/
def extendedCopy (st : StartState) (trial : Option Trial) (rows : List Row) : List Row :=
  if rows.length < 192 then
    rows ++ [evalRow st (overlay trial st.commitments) rows.length (nextStart st rows)]
  else rows

/-! ### Passes (R83, R84) -/

/-- Whether the Projector is idle, with no Pass in flight (R83). -/
def passIdle (s : State) : Bool := decide (s.projector.passState = .idle)

/-- Begin or restart a Pass without a Trial: PROJECTING, pass-pending cleared, a Start State sampled and an empty Working
Copy (R84, R102). -/
def beginPass (s : State) : State :=
  s.setProjector
    { s.projector with
      passState := .projecting, trial := none, start := some (sampleStart s), workingCopy := [], passPending := false }

/-- Begin or restart a Pass with a Trial: SCREENING, pass-pending left as it is (R84, R103). -/
def beginScreen (trial : Trial) (s : State) : State :=
  s.setProjector
    { s.projector with
      passState := .screening, trial := some trial, start := some (sampleStart s), workingCopy := [] }

/-- The end of an event that may have set pass-pending or made the Projector idle: a Pass without a Trial begins when
pass-pending is set, the Projector idle and the mode not UNCONFIGURED (R84, case 3). -/
def beginIfDue (s : State) : State :=
  if s.projector.passPending ∧ passIdle s ∧ s.dispatcher.mode ≠ .unconfigured then beginPass s else s

/-- End the Pass in flight: Start State, Working Copy and Trial are discarded and the Projector is idle (R88, R105). -/
def endPass (s : State) : State :=
  s.setProjector { s.projector with passState := .idle, trial := none, start := none, workingCopy := [] }

/-! ### The Horizon Table (R80, R89, R99) -/

/-- The Horizon Table after a shift to a New Interval: the former rows from that interval on, then new rows up to 192. For a
table numbered from the New Interval − s these are the former rows r + s (R77, R80, log 26). -/
def shiftRows (newInterval : Nat) (rows : List Row) : List Row :=
  let kept := rows.filter fun r => decide (newInterval ≤ r.interval)
  kept ++ (List.range (192 - kept.length)).map fun i => Row.unprojected (newInterval + kept.length + i)

/-- Shift the Horizon Table for a Boundary; for a REBASE every row is new (R80). -/
def shiftHorizon (b : Boundary) (rows : List Row) : List Row :=
  match b.step with
  | .forward _ => shiftRows b.newInterval rows
  | .rebase => shiftRows b.newInterval []

/-- Whether a row is failing (R78). -/
def Row.failing (r : Row) : Bool :=
  match r.verdict with
  | .failing _ => true
  | _ => false

/-- A row's Failure Set, empty when it is not failing (R78). -/
def Row.failures (r : Row) : List (Failure × PointTag) :=
  match r.verdict with
  | .failing f => f
  | _ => []

/-- The At Risk mark of a record from a Horizon Table: the lowest interval of its span with a failing row; none for a
lapsing TENTATIVE record (R89). -/
def atRiskMark (rows : List Row) (base : Nat) (c : Commitment) : Option Nat :=
  if c.lapsing base then none
  else (rows.find? fun r => c.covers r.interval && r.failing).map Row.interval

/-- Rewrite every At Risk mark from a Horizon Table; SCHEDULE_AT_RISK is set when a clear mark becomes set (R89). -/
def rewriteMarks (rows : List Row) (s : State) : State :=
  let base := (rows.head?.map Row.interval).getD s.interval
  let marked := s.store.commitments.map fun c => { c with atRisk := atRiskMark rows base c }
  let newly := s.store.commitments.any fun c => c.atRisk.isNone && (atRiskMark rows base c).isSome
  setStickyIf newly .scheduleAtRisk (s.setStore { s.store with commitments := marked })

/-- Adopt a completed Working Copy: it becomes the Horizon Table, the Horizon Status CURRENT, and the marks are rewritten
(R88). -/
def adopt (rows : List Row) (s : State) : State :=
  rewriteMarks rows (s.setProjector { s.projector with horizon := rows, current := true })

/-- The Breaking Rows: failing rows of the Working Copy over a FEASIBLE row of the Horizon Table for the same Interval
Number (R99). -/
def breakingRows (horizon rows : List Row) : List Row :=
  rows.filter fun r =>
    r.failing && horizon.any fun h => decide (h.interval = r.interval) && decide (h.verdict = .feasible)

/-- The body of an INFEASIBLE answer: the lowest Breaking Row's interval and Failure Set, and how many there are
(R100). -/
def infeasibleBody (breaking : List Row) : List Octet :=
  match breaking with
  | [] => []
  | r :: _ => u32 r.interval ++ failureSet r.failures ++ u8 breaking.length

end Sys2Proof.Machine
end

