-- ==== Sys2Proof/Machine/CommitmentStore.lean ====
section
/-!
DEFINITION. The operations of the Commitment Store (chapters 3 and 4): the Commitment Table, the results of an AMEND, the
right to change the schedule, the Amendment Queue with its selection, the service of an entry, and the completion of a
Pass with what it decides.
-/
namespace Sys2Proof.Machine

/-! ### The Commitment Table (R34, R35) -/

/-- The held record with a Handle. -/
def findHandle (h : Nat) (records : List Commitment) : Option Commitment :=
  records.find? fun c => decide (c.handle = h)

/-- The held record with a nonzero Market Reference. -/
def findReference (ref : Nat) (records : List Commitment) : Option Commitment :=
  if ref = 0 then none else records.find? fun c => decide (c.reference = ref)

/-- Whether a key (Start, Handle) stands before another in table order (R34). -/
def keyBefore (a b : Nat × Nat) : Bool := decide (a.1 < b.1) || (decide (a.1 = b.1) && decide (a.2 < b.2))

/-- The key of a record (R34). -/
def Commitment.key (c : Commitment) : Nat × Nat := (c.start, c.handle)

/-- Insert a record at the place its key gives it (R34). -/
def insertRecord (r : Commitment) : List Commitment → List Commitment
  | [] => [r]
  | c :: rest => if keyBefore r.key c.key then r :: c :: rest else c :: insertRecord r rest

/-- Remove the record with a Handle. -/
def removeRecord (h : Nat) (records : List Commitment) : List Commitment :=
  records.filter fun c => decide (c.handle ≠ h)

/-- Change the record with a Handle. -/
def changeRecord (h : Nat) (f : Commitment → Commitment) (records : List Commitment) : List Commitment :=
  records.map fun c => if c.handle = h then f c else c

/-- Replace the Commitment Table. -/
def setCommitments (records : List Commitment) (s : State) : State :=
  s.setStore { s.store with commitments := records }

/-- The Handle the next record receives: the first value from the counter upward that no held record carries (R35). -/
def freshHandle (st : Store) : Nat :=
  firstFree 4095 (st.commitments.map Commitment.handle) 4095 st.nextHandle

/-- Whether a record is ACTIVE. -/
def Commitment.isActive (c : Commitment) : Bool :=
  match c.phase with
  | .active _ => true
  | .pending => false

/-- Send the Active Firm Notice when a change has touched an ACTIVE record (R53). -/
def noticeIfActive (c : Commitment) (s : State) : State := if c.isActive then raise .activeFirm s else s

/-- The first record in table order after a key (R57, R58). -/
def firstAfter (key : Nat × Nat) (records : List Commitment) : Option Commitment :=
  records.find? fun c => keyBefore key c.key

/-! ### Authority (R65) -/

/-- The right of a port to a request under an Authority State (R65). -/
def hasRight (authority : Authority) (p : Port) (a : Amendment) : Bool :=
  match a with
  | .enterOutage _ => true
  | .retireOutage _ => true
  | .enter r =>
    (match r.standing, p with
     | .firm, .mp => true
     | .firm, .sp => decide (authority = .supervisory)
     | .tentative, .mp => decide (authority ≠ .supervisory)
     | .tentative, .sp => false)
  | _ =>
    (match p with
     | .mp => decide (authority ≠ .supervisory)
     | .sp => decide (authority = .supervisory))

/-! ### Checks of an ENTER (R39) -/

/-- Check 1 of R39: Length in 1..192, Power in its range for the Kind. -/
def enterInRange (r : EnterRequest) : Bool :=
  inRange 1 192 r.length &&
  (match r.kind with
   | .energy => decide (-2700 ≤ r.power) && decide (r.power ≤ 3600) && decide (r.power ≠ 0)
   | _ => decide (1 ≤ r.power) && decide (r.power ≤ 1200))

/-- Checks 2 to 6 of R39, against the table, the Current Interval Number and the Gate as they stand. -/
def enterRefusal (r : EnterRequest) (s : State) : Option Status :=
  if r.standing = .firm ∧ r.start < s.interval + 1 then some .pastInterval
  else if r.standing = .tentative ∧ r.start < s.gate then some .gateClosed
  else if s.interval + 191 < r.start + r.length - 1 then some .outOfRange
  else if (findReference r.reference s.store.commitments).isSome then some .duplicateReference
  else if 64 ≤ s.store.commitments.length then some .tableFull
  else none

/-- The record an ENTER creates (R40). -/
def newRecord (r : EnterRequest) (source : Port) (handle : Nat) : Commitment :=
  { handle := handle, reference := r.reference, kind := r.kind, standing := r.standing, phase := .pending,
    start := r.start, length := r.length, power := r.power, deployed := 0, atRisk := none, source := source }

/-- Enter a record: it takes its place, and the counter moves past its Handle (R34, R35). -/
def enterRecord (r : Commitment) (s : State) : State :=
  s.setStore
    { s.store with
      commitments := insertRecord r s.store.commitments
      nextHandle := wrapNext 4095 r.handle }

/-! ### Results of an AMEND (R41 to R47) -/

/-- The result of an AMEND: the value after clamps and holds, and the result conditions. -/
structure AmendResult where
  value : Int
  zero : Bool
  saturated : Bool
  deriving DecidableEq, Repr

/-- The exact result of an operation on a present value (R41). -/
def amendRaw (op : AmendOperation) (present operand : Int) : Int :=
  match op with
  | .set => operand
  | .add => present + operand
  | .subtract => present - operand

/-- The value a field of a record holds. -/
def presentValue (c : Commitment) : AmendField → Int
  | .power => c.power
  | .length => c.length
  | .marketReference => c.reference

/-- The result of POWER (R42, R43). -/
def powerResult (k : CommitmentKind) (raw : Int) : AmendResult :=
  match k with
  | .energy =>
    if raw = 0 then { value := 0, zero := true, saturated := false }
    else { value := holdInt (-2700) 3600 raw, zero := false, saturated := decide (holdInt (-2700) 3600 raw ≠ raw) }
  | _ => { value := holdInt 1 1200 raw, zero := false, saturated := decide (holdInt 1 1200 raw ≠ raw) }

/-- The largest Length that keeps the last interval at or before the Current Interval Number + 191 (R44, log 31). -/
def longestLength (interval start : Nat) : Nat := max 1 (interval + 192 - start)

/-- The result of LENGTH: brought into 1..192, then held at the horizon, and for an ACTIVE record at the current interval
(R44). The last hold wins where it gives more than R33's 192, on a record past its last interval that is not settled yet:
the model's choice (log 38). -/
def lengthResult (interval : Nat) (c : Commitment) (raw : Int) : AmendResult :=
  let bounded := holdInt 1 192 raw
  let atHorizon := min bounded (longestLength interval c.start : Int)
  let held := if c.isActive then max atHorizon ((interval + 1 - c.start : Nat) : Int) else atHorizon
  { value := held, zero := false,
    saturated := decide (bounded ≠ raw) || decide (atHorizon ≠ bounded) || decide (held ≠ atHorizon) }

/-- The result of an AMEND on a record as it stands (R41). -/
def amendResult (interval : Nat) (c : Commitment) (q : AmendRequest) : AmendResult :=
  let raw := amendRaw q.operation (presentValue c q.field) q.operand
  match q.field with
  | .power => powerResult c.kind raw
  | .length => lengthResult interval c raw
  | .marketReference => { value := raw, zero := false, saturated := false }

/-- Whether an AMEND leaves its field as it is (R47). -/
def amendUnchanged (c : Commitment) (q : AmendRequest) (r : AmendResult) : Bool :=
  !r.zero && decide (r.value = presentValue c q.field)

/-- Check 4 of R41: another held record carries the reference the result names. -/
def amendDuplicate (c : Commitment) (q : AmendRequest) (r : AmendResult) (records : List Commitment) : Bool :=
  decide (q.field = .marketReference) && decide (r.value ≠ 0) &&
  records.any fun other => decide (other.handle ≠ c.handle) && decide ((other.reference : Int) = r.value)

/-- Whether every interval between two last intervals lies at or after the Gate (R44). -/
def lengthGateOpen (start oldLength newLength gate : Nat) : Bool :=
  decide (oldLength = newLength) || decide (gate ≤ min (start + oldLength - 1) (start + newLength - 1) + 1)

/-- The Gate rule: every interval the amendment changes lies at or after the Gate (R44). -/
def amendGateOpen (c : Commitment) (q : AmendRequest) (r : AmendResult) (gate : Nat) : Bool :=
  match q.field with
  | .power => decide (gate ≤ c.start)
  | .length => lengthGateOpen c.start c.length r.value.toNat gate
  | .marketReference => true

/-- Checks 4 and 5 of R41 on arrival: the duplicate reference, and for a TENTATIVE record the Gate rule. -/
def amendArrivalRefusal (c : Commitment) (q : AmendRequest) (r : AmendResult) (s : State) : Option Status :=
  if amendDuplicate c q r s.store.commitments then some .duplicateReference
  else if c.standing = .tentative ∧ amendGateOpen c q r s.gate = false then some .gateClosed
  else none

/-- The checks of R41 at service, in the order of R72: the duplicate reference, the Gate rule, and the past rule, of which
R44 says that it fails only in the judgement of a restart (log 27). -/
def amendServiceRefusal (c : Commitment) (q : AmendRequest) (r : AmendResult) (s : State) : Option Status :=
  if amendDuplicate c q r s.store.commitments then some .duplicateReference
  else if c.standing = .tentative ∧ amendGateOpen c q r s.gate = false then some .gateClosed
  else if c.standing = .tentative ∧ c.start ≤ s.interval then some .pastInterval
  else none

/-- A record with a new Power; a larger Deployed of a reserve record is reduced to it (R42, R43). -/
def withPower (p : Int) (c : Commitment) : Commitment :=
  { c with power := p, deployed := if c.kind = .energy then c.deployed else min c.deployed p.toNat }

/-- A record with a new Length; an ACTIVE record's Remaining is computed again from the new last interval and the Current
Interval Number (R33, R44). -/
def withLength (interval n : Nat) (c : Commitment) : Commitment :=
  { c with
    length := n
    phase :=
      (match c.phase with
       | .pending => .pending
       | .active _ => .active (c.start + n - interval)) }

/-- A record after an AMEND that changes it (R42 to R45). -/
def amendedRecord (interval : Nat) (q : AmendRequest) (r : AmendResult) (c : Commitment) : Commitment :=
  match q.field with
  | .power => withPower r.value c
  | .length => withLength interval r.value.toNat c
  | .marketReference => { c with reference := r.value.toNat }

/-- The Trial of an AMEND (R38). -/
def amendTrial (c : Commitment) (q : AmendRequest) (r : AmendResult) : Trial :=
  match q.field with
  | .length => .length c.handle c.start c.length r.value.toNat r.saturated
  | _ => .power c.handle c.start c.length r.value r.saturated

/-- The answer of an amendment that names a record (R48, R56). -/
def amendReply (status : Status) (r : AmendResult) (c : Commitment) : Reply :=
  { status := status, zero := r.zero, saturated := r.saturated, body := commitmentBody c }

/-! ### The Amendment Queue (R67 to R71) -/

/-- The Class of an amendment, fixed on arrival (R68). -/
def classOf (a : Amendment) (records : List Commitment) : EntryClass :=
  match a with
  | .enterOutage _ => .availability
  | .retireOutage _ => .availability
  | .confirm _ => .firm
  | .retire _ => .firm
  | .enter r =>
    (match r.standing with
     | .firm => .firm
     | .tentative => .tentative)
  | .amend q =>
    (match findHandle q.handle records with
     | some c =>
       (match c.standing with
        | .firm => .firm
        | .tentative => .tentative)
     | none => .firm)

/-- The entry a selection takes, by the rules of R70 in order. -/
def pickEntry (queue : List Entry) : Option Entry :=
  match queue.find? fun e => decide (4 ≤ e.passing) with
  | some e => some e
  | none =>
    match queue.find? fun e => decide (e.cls = .availability) with
    | some e => some e
    | none =>
      match queue.find? fun e => decide (e.cls = .firm) with
      | some e => some e
      | none => queue.head?

/-- The queue without a selected entry: the Passing Count of every older entry rises by one (R71). -/
def withoutSelected (arrival : Nat) (queue : List Entry) : List Entry :=
  (queue.filter fun e => decide (e.arrival ≠ arrival)).map fun e =>
    if e.arrival < arrival then { e with passing := e.passing + 1 } else e

/-- Replace the queue. -/
def setQueue (queue : List Entry) (s : State) : State := s.setStore { s.store with queue := queue }

/-- Replace the Entry in Service. -/
def setInService (e : Option Entry) (s : State) : State := s.setStore { s.store with inService := e }

/-! ### Service (R72, R73) -/

/-- Serve an ENTER that has passed the authority check (R39, R40). -/
def serveEnter (e : Entry) (r : EnterRequest) (s : State) : State :=
  match enterRefusal r s with
  | some status => answerEntry e (.bare status) s
  | none =>
    let record := newRecord r e.source (freshHandle s.store)
    match r.standing with
    | .firm => beginPass (answerEntry e (.withBody .done (commitmentBody record)) (enterRecord record s))
    | .tentative => beginScreen (.enter record) (setInService (some e) s)

/-- Remove a record in favour of an entry: the answer carries the record as it stood; a FIRM one is decided with a Pass
to follow and a notice if it was ACTIVE, a TENTATIVE one sets pass-pending (R46, R51). -/
def serveRemoval (e : Entry) (reply : Reply) (c : Commitment) (s : State) : State :=
  let s1 := answerEntry e reply (setCommitments (removeRecord c.handle s.store.commitments) s)
  match c.standing with
  | .firm => beginPass (noticeIfActive c s1)
  | .tentative => triggerPass s1

/-- Serve an AMEND of a held record (R41 to R48). -/
def serveAmend (e : Entry) (q : AmendRequest) (c : Commitment) (s : State) : State :=
  let r := amendResult s.interval c q
  match amendServiceRefusal c q r s with
  | some status => answerEntry e (.bare status) s
  | none =>
    let c' := amendedRecord s.interval q r c
    if amendUnchanged c q r then answerEntry e (amendReply .doneUnchanged r c) s
    else if q.field = .marketReference then
      answerEntry e (amendReply .done r c')
        (setCommitments (changeRecord c.handle (amendedRecord s.interval q r) s.store.commitments) s)
    else if r.zero then serveRemoval e (amendReply .done r c) c s
    else
      match c.standing with
      | .firm =>
        beginPass (noticeIfActive c (answerEntry e (amendReply .done r c')
          (setCommitments (changeRecord c.handle (amendedRecord s.interval q r) s.store.commitments) s)))
      | .tentative => beginScreen (amendTrial c q r) (setInService (some e) s)

/-- Serve a CONFIRM of a held record (R50). -/
def serveConfirm (e : Entry) (c : Commitment) (s : State) : State :=
  match c.standing with
  | .firm => answerEntry e (.withBody .doneUnchanged (commitmentBody c)) s
  | .tentative =>
    answerEntry e (.withBody .done (commitmentBody { c with standing := .firm }))
      (setCommitments (changeRecord c.handle (fun k => { k with standing := .firm }) s.store.commitments) s)

/-- Checks 4 and 5 of R179, against the table and the Current Interval Number as they stand. -/
def outageRefusal (q : OutageRequest) (s : State) : Option Status :=
  if q.last < s.interval then some .pastInterval
  else if 16 ≤ liveOutages s.tables.outages s.interval then some .tableFull
  else none

/-- The record an ENTER_OUTAGE enters (R178, R179). -/
def newOutage (q : OutageRequest) (handle : Nat) : Outage :=
  { handle := handle, train := q.train, first := q.first, last := q.last, kind := q.kind, derateMax := q.derateMax }

/-- Serve an ENTER_OUTAGE: the Expired records go first, whatever its outcome (R72, R179). -/
def serveOutage (e : Entry) (q : OutageRequest) (s : State) : State :=
  let cleared := removeExpired s.interval s
  let s1 := cleared.1
  match outageRefusal q s1 with
  | some status => noticeTrains cleared.2 (answerEntry e (.bare status) s1)
  | none =>
    let handle := firstFree 255 (s1.tables.outages.map Outage.handle) 255 s1.tables.nextOutage
    let record := newOutage q handle
    let s2 := s1.setTables
      { s1.tables with
        outages := insertOutage record s1.tables.outages
        nextOutage := wrapNext 255 handle }
    beginPass (noticeTrains (allTrains.filter fun t => decide (t = q.train) || cleared.2.contains t)
      (answerEntry e (.withBody .done (outageBody record)) s2))

/-- Serve a RETIRE_OUTAGE (R180). -/
def serveRetireOutage (e : Entry) (h : Nat) (s : State) : State :=
  match s.tables.outages.find? fun o => decide (o.handle = h) with
  | none => answerEntry e (.bare .notFound) s
  | some o =>
    beginPass (noticeTrains [o.train] (answerEntry e (.withBody .done (outageBody o))
      (s.setTables { s.tables with outages := s.tables.outages.filter fun k => decide (k.handle ≠ h) })))

/-- Serve an entry that names a held record, or answer NOT_FOUND (R72, check 2). -/
def serveRecord (e : Entry) (h : Nat) (serve : Commitment → State → State) (s : State) : State :=
  match findHandle h s.store.commitments with
  | none => answerEntry e (.bare .notFound) s
  | some c => serve c s

/-- Service of a selected entry: the authority check, then its own checks and its decision (R72, R73). -/
def serveEntry (e : Entry) (s : State) : State :=
  if hasRight s.store.authority e.source e.amendment then
    match e.amendment with
    | .enter r => serveEnter e r s
    | .amend q => serveRecord e q.handle (serveAmend e q) s
    | .confirm h => serveRecord e h (serveConfirm e) s
    | .retire h =>
      serveRecord e h (fun c k => serveRemoval e (.withBody .done (commitmentBody c)) c k) s
    | .enterOutage q => serveOutage e q s
    | .retireOutage h => serveRetireOutage e h s
  else answerEntry e (.withBody .authorityLost (u8 (authorityCode s.store.authority))) s

/-- How many events of a kind are raised and not yet taken. -/
def raisedCount (r : Raised) (s : State) : Nat := s.raised.count r

/-- Whether the Store has handled a RESET_DISPATCH that the Projector has not: the entries admitted since then are queued
behind the Pass that follows (R75, log 6). -/
def behindReset (s : State) : Bool := decide (raisedCount .storeReset s < raisedCount .projectorReset s)

/-- The entry that may be selected now: the queue holds one, the Entry in Service is empty, the Projector idle, and no reset
still to bring the Pass that the queue waits for (R69, R70, R75). -/
def selectable (s : State) : Option Entry :=
  if s.store.inService = none ∧ passIdle s ∧ behindReset s = false then pickEntry s.store.queue else none

/-- Select and serve entries until none may be selected; each selection takes one entry from the queue, so as many
rounds as the queue holds suffice (R69). -/
def serveRounds : Nat → State → State
  | 0, s => s
  | n + 1, s =>
    match selectable s with
    | none => s
    | some e =>
      serveRounds n (beginIfDue (serveEntry e (setQueue (withoutSelected e.arrival s.store.queue) s)))

/-- Test for a selection, and go on while entries are decided without a Pass (R69). -/
def serveQueue (s : State) : State := serveRounds s.store.queue.length s

/-- Admit an amendment that passed its owner's arrival checks: PORT_LIMIT at an Outstanding Count of 12, QUEUE_FULL at 16
entries, else it joins the queue's young end and the Outstanding Count rises, and a selection is tested for (R17, R68,
R69). -/
def admitAmendment (p : Port) (tag code : Octet) (a : Amendment) (s : State) : State :=
  if 12 ≤ (s.link p).outstanding then respond p tag code (.bare .portLimit) s
  else if 16 ≤ s.store.queue.length then respond p tag code (.bare .queueFull) s
  else
    let e : Entry :=
      { cls := classOf a s.store.commitments, source := p, tag := tag, code := code, amendment := a,
        arrival := s.store.nextArrival, passing := 0 }
    let s1 := s.setStore
      { s.store with queue := s.store.queue ++ [e], nextArrival := s.store.nextArrival + 1 }
    serveQueue (s1.setLink p { s1.link p with outstanding := (s1.link p).outstanding + 1 })

/-! ### Completion of a Pass (R88, R99, R100, R105) -/

/-- The Handle of the record a Trial concerns. -/
def Trial.handle : Trial → Nat
  | .enter r => r.handle
  | .power h _ _ _ _ => h
  | .length h _ _ _ _ => h

/-- Whether a Trial's result was made by a clamp or hold (R48). -/
def Trial.saturated : Trial → Bool
  | .enter _ => false
  | .power _ _ _ _ b => b
  | .length _ _ _ _ b => b

/-- Write an accepted Trial into the Commitment Table (R38). A record of an ENTER whose Start a Boundary has reached that
the Commitment Store has settled and the Projector not yet shifted for is written all the same: the model's choice
(log 37). -/
def writeTrial (t : Trial) (s : State) : State :=
  match t with
  | .enter r => enterRecord r s
  | .power h _ _ p _ => setCommitments (changeRecord h (withPower p) s.store.commitments) s
  | .length h _ _ n _ => setCommitments (changeRecord h (withLength s.interval n) s.store.commitments) s

/-- The answer to an accepted Trial: DONE with the record as the table then holds it (R100); a record that has left the
table meanwhile is not found (log 16). -/
def acceptedReply (t : Trial) (s : State) : Reply :=
  match findHandle t.handle s.store.commitments with
  | some c => { status := .done, zero := false, saturated := t.saturated, body := commitmentBody c }
  | none => .bare .notFound

/-- Decide the Entry in Service by its completing Pass (R88, R99): accepted, the Trial is written, the Working Copy
adopted and the entry answered DONE; refused, the entry is answered INFEASIBLE and the Working Copy discarded. A completion
between the two handlings of a Boundary is judged as any other: the model's choice (logs 16, 37). -/
def judgeTrial (t : Trial) (e : Entry) (rows : List Row) (s : State) : State :=
  match breakingRows s.projector.horizon rows with
  | [] =>
    let s1 := adopt rows (writeTrial t s)
    answerInService e (acceptedReply t s1) (setInService none s1)
  | breaking => answerInService e (.withBody .infeasible (infeasibleBody breaking)) (setInService none s)

/-- The rows of the Pass in flight, all evaluated (R88). -/
def finishedRows (pr : Projector) : List Row :=
  match pr.start with
  | some st => completedCopy st pr.trial pr.workingCopy
  | none => pr.workingCopy

/-- What a completing Pass does before its Start State and Working Copy are discarded (R88): adopted without a Trial,
judged with one, and with a Trial but no Entry in Service discarded unjudged, with pass-pending set (R105). -/
def decidePass (s : State) : State :=
  match s.projector.trial with
  | none => adopt (finishedRows s.projector) s
  | some t =>
    match s.store.inService with
    | some e => judgeTrial t e (finishedRows s.projector) s
    | none => triggerPass s

/-- The completion of a Pass (R88): with none in flight there is nothing to complete. -/
def completePass (s : State) : State :=
  if s.projector.passState = .idle then s else serveQueue (beginIfDue (endPass (decidePass s)))

/-! ### A Boundary at the Projector (R80, R102, R103) -/

/-- The judgement of a Trial at a restart, from the fields it holds (R103). -/
def trialRefusal (t : Trial) (s : State) : Option Status :=
  match t with
  | .enter r =>
    if r.start < s.gate then some .gateClosed
    else if s.interval + 191 < r.last then some .outOfRange else none
  | .power _ start _ _ _ =>
    if start ≤ s.interval then some .pastInterval else if start < s.gate then some .gateClosed else none
  | .length _ start oldLength newLength _ =>
    if start ≤ s.interval then some .pastInterval
    else if lengthGateOpen start oldLength newLength s.gate then none else some .gateClosed

/-- Answer the Entry in Service, if there is one, and empty it. -/
def answerServed (reply : Reply) (s : State) : State :=
  match s.store.inService with
  | none => s
  | some e => answerInService e reply (setInService none s)

/-- Restart the Pass in flight for a Boundary (R102, R103). -/
def restartPass (s : State) : State :=
  match s.projector.trial with
  | none => beginPass s
  | some t =>
    match trialRefusal t s with
    | some status => beginPass (answerServed (.bare status) s)
    | none => beginScreen t s

/-- The Projector's handling of a Boundary (R80, R102). -/
def shiftForBoundary (b : Boundary) (s : State) : State :=
  let s1 := s.setProjector
    { s.projector with
      horizon := shiftHorizon b s.projector.horizon, current := false, passPending := true }
  if s.projector.passState = .idle then beginIfDue s1
  else restartPass (setSticky .passRestarted s1)

/-! ### A Boundary at the Commitment Store (R7, R55) -/

/-- A record's fate at a Boundary of Step 1: none when it completes or lapses (R55). The Remaining of an ACTIVE record falls
by 1, to the intervals its span holds from the New Interval on (R33), and at 0 the record completes; a Remaining that a LENGTH
amendment has formed for the New Interval already stays, so that the record is ACTIVE exactly while its span covers the
current interval (R55, log 29). A PENDING record whose Start the New Interval has passed is settled as R7 settles it
(log 17). -/
def settleCounted (newInterval : Nat) (c : Commitment) : Option Commitment :=
  match c.phase with
  | .active _ =>
    if c.last < newInterval then none
    else some { c with phase := .active (c.last + 1 - newInterval), deployed := 0 }
  | .pending =>
    if newInterval < c.start then some c
    else
      match c.standing with
      | .tentative => none
      | .firm =>
        if c.last < newInterval then none
        else some { c with phase := .active (c.last + 1 - newInterval), deployed := 0 }

/-- A record's fate at a forward Boundary of a larger Step (R7). -/
def settleJump (newInterval : Nat) (c : Commitment) : Option Commitment :=
  match c.standing with
  | .firm =>
    if c.last < newInterval then none
    else if c.start ≤ newInterval then
      some { c with phase := .active (c.last + 1 - newInterval), deployed := 0 }
    else some c
  | .tentative => if c.start ≤ newInterval then none else some c

/-- A record's fate at a Boundary; a REBASE finds the table empty and settles nothing (R55). -/
def settleRecord (b : Boundary) (c : Commitment) : Option Commitment :=
  match b.step with
  | .forward n => if n ≤ 1 then settleCounted b.newInterval c else settleJump b.newInterval c
  | .rebase => some c

/-- Whether a TENTATIVE record leaves the table at a Boundary (R7, R55). -/
def lapsesAt (b : Boundary) (c : Commitment) : Bool :=
  decide (c.standing = .tentative) && (settleRecord b c).isNone

/-- The FIRM records of a table: TENTATIVE ones are not in the Active Firm Set, and their changes send no notice (R53). -/
def firmRecords (records : List Commitment) : List Commitment := records.filter fun c => decide (c.standing = .firm)

/-- The Commitment Store's handling of a Boundary (R55, R60): records settle, COMMITMENT_LAPSED is set for a lapse, the
Day Imbalance Position is zeroed on Day Start, and the Active Firm Notice is sent if it activated, completed, cleared or
recomputed any record, a lapse being none of these (R53, R55, log 33). -/
def settleBoundary (b : Boundary) (s : State) : State :=
  let before := s.store.commitments
  let after := before.filterMap (settleRecord b)
  let s1 := s.setStore
    { s.store with
      commitments := after
      dayImbalance := if b.dayStart then 0 else s.store.dayImbalance }
  let s2 := setStickyIf (before.any (lapsesAt b)) .commitmentLapsed s1
  if firmRecords after = firmRecords before then s2 else raise .activeFirm s2

/-! ### The imbalance position (R59) -/

/-- A meter energy held within its bounds (R59). -/
def holdKwh (x : Int) : Int := holdInt (-2000000000) 2000000000 x

/-- Take a closed interval's imbalance (R59). -/
def deliverImbalance (closed : Nat) (kwh : Int) (s : State) : State :=
  let held := holdKwh kwh
  s.setStore
    { s.store with
      lastImbalance := held
      dayImbalance :=
        if closed / 96 = s.clock.day then holdKwh (s.store.dayImbalance + held) else s.store.dayImbalance }

/-! ### Reset and Link Reset (R75, R76) -/

/-- Insert an entry by Arrival Order. -/
def insertByArrival (e : Entry) : List Entry → List Entry
  | [] => [e]
  | a :: rest => if e.arrival < a.arrival then e :: a :: rest else a :: insertByArrival e rest

/-- Answer one entry ABORTED: the Entry in Service under the Dropped Answer mark (R75). -/
def abortEntry (served : Option Entry) (s : State) (e : Entry) : State :=
  if served = some e then answerInService e (.bare .aborted) s else answerEntry e (.bare .aborted) s

/-- Every queued entry and the Entry in Service, oldest first (R75). -/
def waitingEntries (st : Store) : List Entry :=
  match st.inService with
  | none => st.queue
  | some e => insertByArrival e st.queue

/-- The Commitment Store's handling of RESET_DISPATCH (R75). -/
def abortAll (s : State) : State :=
  let s1 := s.setStore { s.store with queue := [], inService := none }
  (waitingEntries s.store).foldl (abortEntry s.store.inService) s1

/-- A Link Reset on a port (R19, R76): the partial frame and the waiting responses are discarded, but on the Market Port
the response in transmission is sent to its end (R14); the port's queued entries leave unanswered, its Dropped Answer
mark follows the Entry in Service, its Outstanding Count becomes 0 and its Walk Cursor unset. On the Supervisory Port the
transaction whose release it is has ended (R15). -/
def resetLink (p : Port) (s : State) : State :=
  let served :=
    match s.store.inService with
    | none => false
    | some e => decide (e.source = p)
  let kept :=
    match p with
    | .mp => (s.link p).responses.take 1
    | .sp => []
  let ended :=
    match p with
    | .mp => s
    | .sp => s.setTransaction none
  (setQueue (s.store.queue.filter fun e => decide (e.source ≠ p)) ended).setLink p
    { s.link p with
      intake := none, responses := kept, outstanding := 0, dropped := served, cursor := none }

end Sys2Proof.Machine
end

