-- ==== Sys2Proof/Machine/DispatchOps.lean ====
section
/-!
DEFINITION. The operations of the Dispatcher (chapter 10): the Schedule Value, the caps and the Target, the Direction, stop
and start decisions, shares, lowerings, the evaluation made of them, the Setpoint Orders, the formation of a setpoint
at a report, and the interval accumulators.
-/
namespace Sys2Proof.Machine

/-- Replace one field of the Dispatcher's state by a function. -/
def onDispatcher (f : Dispatcher → Dispatcher) (s : State) : State := s.setDispatcher (f s.dispatcher)

/-- Change the Train Context of a train by a function. -/
def onTrain (t : Train) (f : TrainContext → TrainContext) (s : State) : State := s.setTrain t (f (s.train t))

/-! ### Schedule Value, caps and Target (R183, R184) -/

/-- Whether a record belongs to the Active Firm Set (R53). -/
def Commitment.inActiveFirmSet (c : Commitment) : Bool := decide (c.standing = .firm) && c.isActive

/-- The Active Firm Set (R53). -/
def activeFirmSet (records : List Commitment) : List Commitment := records.filter Commitment.inActiveFirmSet

/-- What one record of the Active Firm Set calls for (R183). -/
def calledFor (c : Commitment) : Int :=
  match c.kind with
  | .energy => c.power
  | .reserveUp => c.deployed
  | .reserveDown => -(c.deployed : Int)

/-- The Schedule Value C of a table (R183). -/
def scheduleValueOf (records : List Commitment) : Int := sumInt calledFor (activeFirmSet records)

/-- The sum E of the Power of the ENERGY records in the Active Firm Set (R188). -/
def energyCalledFor (records : List Commitment) : Int := powerOf .energy (activeFirmSet records)

/-- Whether a State is STARTING or RUNNING. -/
def atWork : TrainState → Bool
  | .starting => true
  | .running => true
  | _ => false

/-- Whether a train is a Cap Member (R184). -/
def capMember (s : State) (t : Train) : Bool :=
  let c := s.train t
  c.selection.isSome && (atWork c.state || decide (c.state = .ready)) && !c.released

/-- The Free Energy a Credit Reach counts: 0 on an unsurveyed Tank (R184). -/
def reachableEnergy (s : State) (tank : Tank) : Nat := if (s.tank tank).surveyed then freeEnergy s tank else 0

/-- The Credit Reach of a compressor (R184). -/
def creditReach (s : State) (t : Train) : Nat :=
  let c := s.train t
  match c.selection with
  | none => 0
  | some sel =>
    creditSetpoint s.loader.creditWindow (c.reservation + reachableEnergy s c.boundTank) sel.descriptor

/-- What a Cap Member adds to the cap of its kind (R184). -/
def capPart (s : State) (t : Train) : Nat :=
  match trainKind t with
  | .expander => trainLimit s t
  | .compressor => min (trainLimit s t) (creditReach s t)

/-- The cap of a kind as formed, before the Band acts on it (R184). -/
def capAsFormed (s : State) (k : TrainKind) : Nat := sumOver (capPart s) ((trainsOf k).filter (capMember s))

/-- The Running Set of a kind (R188). -/
def runningSet (s : State) (k : TrainKind) : List Train :=
  (trainsOf k).filter fun t => atWork (s.train t).state && !(s.train t).released

/-- The Running Sum of a kind (R188). -/
def runningSum (s : State) (k : TrainKind) : Nat := sumOver (trainLimit s) (runningSet s k)

/-- The sum of the Setpoints of the Running Set of a kind, to which a WARN band lowers the kind's cap (R184). -/
def heldSum (s : State) (k : TrainKind) : Nat := sumOver (fun t => (s.train t).setpoint) (runningSet s k)

/-- Whether a band is the WARN band that holds a kind (R184). -/
def bandWarns (b : Band) (k : TrainKind) : Bool :=
  match b, k with
  | .lowWarn, .expander => true
  | .highWarn, .compressor => true
  | _, _ => false

/-- Whether a band is the LIMIT band that stops a kind (R184, R193). -/
def bandStops (b : Band) (k : TrainKind) : Bool :=
  match b, k with
  | .lowLimit, .expander => true
  | .highLimit, .compressor => true
  | _, _ => false

/-- The cap of a kind: Generation Cap for expanders, Charge Cap for compressors (R184). -/
def capOf (s : State) (k : TrainKind) : Nat :=
  if bandStops s.cavern.band k then 0
  else if bandWarns s.cavern.band k then min (capAsFormed s k) (heldSum s k)
  else capAsFormed s k

/-- The Target N of a Schedule Value under two caps, in a mode (R183). -/
def targetOf (mode : Mode) (c : Int) (generationCap chargeCap : Nat) : Int :=
  match mode with
  | .dispatching => holdInt (-(chargeCap : Int)) generationCap c
  | _ => 0

/-- Step 1 of an evaluation: the caps and N, from C as it now is (R185). C itself is written in step 6. -/
def takeTarget (s : State) : State :=
  let generationCap := capOf s .expander
  let chargeCap := capOf s .compressor
  onDispatcher (fun d =>
    { d with
      generationCap := generationCap
      chargeCap := chargeCap
      target := targetOf d.mode (scheduleValueOf s.store.commitments) generationCap chargeCap }) s

/-! ### Direction (R186) -/

/-- The Held Kind, absent when every Setpoint is 0 (R186). -/
def heldKind (s : State) : Option TrainKind :=
  if kindHolds s .expander then some .expander
  else if kindHolds s .compressor then some .compressor
  else none

/-- The Direction for a Target and a Held Kind (R186). -/
def directionOf (n : Int) (held : Option TrainKind) : Direction :=
  if 0 < n then
    match held with
    | some .compressor => .reversing
    | _ => .generating
  else if n < 0 then
    match held with
    | some .expander => .reversing
    | _ => .charging
  else
    match held with
    | none => .idle
    | some .expander => .generating
    | some .compressor => .charging

/-- Step 2 of an evaluation (R185). -/
def settleDirection (s : State) : State :=
  onDispatcher (fun d => { d with direction := directionOf d.target (heldKind s) }) s

/-- The Active Kind of a Direction (R188). -/
def activeKind : Direction → Option TrainKind
  | .generating => some .expander
  | .charging => some .compressor
  | _ => none

/-! ### Setpoint Orders (R194) -/

/-- The command of an order, by the Operating Mode, the State after the event and the Setpoint (R194). The cases the
table does not give carry HOLD: a LOST train, and a STARTING one outside dispatch (log 9). An order that answers the
report of a train a LIMIT band stops does not come to this table (R199, log 9). -/
def commandFor (mode : Mode) (state : TrainState) (setpoint : Nat) : OrderCommand :=
  let driven := decide (mode = .dispatching) || decide (mode = .stopping)
  match state with
  | .tripped => .stop
  | .unloading => if setpoint = 0 then .stop else if driven then .run else .hold
  | .starting => if driven then .start else .hold
  | .running => if driven then .run else .hold
  | _ => .hold

/-- The top temperature an order to a train carries (R30, R194). -/
def orderTemperature (s : State) (t : Train) : Nat :=
  match trainKind t with
  | .compressor => 0
  | .expander => (topTemperature (s.tank (s.train t).boundTank).layers).getD 0

/-- The order of a command to a train: STOP carries setpoint 0, any other the train's Setpoint (R194). -/
def formOrder (t : Train) (command : OrderCommand) (s : State) : Order :=
  { command := command
    setpoint :=
      (match command with
       | .stop => 0
       | _ => (s.train t).setpoint)
    topTemperature := orderTemperature s t }

/-- Issue an order of a given command (R194). -/
def order (t : Train) (command : OrderCommand) (s : State) : State := issueOrder t (formOrder t command s) s

/-- Issue the order of a train as it stands; `stopped` says that its Setpoint has just fallen to 0 (R192, R193). -/
def orderAsStanding (t : Train) (stopped : Bool) (s : State) : State :=
  let c := s.train t
  order t (if stopped then .stop else commandFor s.dispatcher.mode c.state c.setpoint) s

/-! ### Lowerings outside a report (R193) -/

/-- A RUNNING train whose Setpoint lies below its min load moves to UNLOADING (R165). -/
def unloadBelowMin (t : Train) (s : State) : State :=
  let c := s.train t
  match c.selection with
  | none => s
  | some sel =>
    if c.state = .running ∧ c.setpoint < sel.descriptor.minLoad then s.setTrain t (c.unload c.setpoint) else s

/-- Write a lowered Setpoint with the credit handling of R155: for a compressor the Credit Need of the new setpoint,
a partial return, and the credit limit. -/
def writeLowered (t : Train) (v : Nat) (s : State) : State :=
  match trainKind t with
  | .expander => onTrain t (fun c => { c with setpoint := v }) s
  | .compressor => limitByCredit t v (partialReturn t (creditNeed s t v) s)

/-- Lower a Setpoint to a value outside the train's own report (R193): the credit handling, the move to UNLOADING and the
order. -/
def lowerSetpoint (t : Train) (v : Nat) (s : State) : State :=
  let s1 := unloadBelowMin t (writeLowered t v s)
  orderAsStanding t (decide ((s1.train t).setpoint = 0)) s1

/-- The most a train's Setpoint may be after step 5 of an evaluation: its Train Limit, or 0 while a LIMIT band stops its
kind (R185, R193). -/
def lowerBound (s : State) (t : Train) : Nat :=
  if bandStops s.cavern.band (trainKind t) then 0 else trainLimit s t

/-- Lower a train's Setpoint if it lies above what it may be. -/
def lowerIfAbove (s : State) (t : Train) : State :=
  if lowerBound s t < (s.train t).setpoint then lowerSetpoint t (lowerBound s t) s else s

/-- Step 5 of an evaluation (R185). -/
def lowerAll (s : State) : State := allTrains.foldl lowerIfAbove s

/-! ### Stop decisions (R190) -/

/-- When a train's present run began; an absent Run Start counts as the earliest (log 11). -/
def runKey (s : State) (t : Train) : Nat × Nat := ((s.train t).runStart).getD (0, 0)

/-- The Eldest of a set in order: the first of those with the earliest Run Start (R190). -/
def eldest (s : State) : List Train → Option Train
  | [] => none
  | t :: rest =>
    match eldest s rest with
    | none => some t
    | some u => if keyBefore (runKey s u) (runKey s t) then some u else some t

/-- Stop decisions until none stops a train; each takes one train out of the Running Set (R190). -/
def stopDecisions (k : TrainKind) : Nat → State → State
  | 0, s => s
  | n + 1, s =>
    match eldest s (runningSet s k) with
    | none => s
    | some t =>
      if s.dispatcher.target.natAbs ≤ (runningSum s k - trainLimit s t) * 9 / 10 then
        stopDecisions k n (onTrain t (fun c => { c with released := true }) s)
      else s

/-! ### Start decisions (R187, R189) -/

/-- The Duty Rotation of a kind (R187). -/
def Dispatcher.rotation (d : Dispatcher) : TrainKind → Rotation
  | .compressor => d.compressorRotation
  | .expander => d.expanderRotation

/-- Replace the Duty Rotation of a kind. -/
def Dispatcher.setRotation (d : Dispatcher) (k : TrainKind) (r : Rotation) : Dispatcher :=
  match k with
  | .compressor => { d with compressorRotation := r }
  | .expander => { d with expanderRotation := r }

/-- The cap of a kind as the last evaluation left it. -/
def Dispatcher.cap (d : Dispatcher) : TrainKind → Nat
  | .compressor => d.chargeCap
  | .expander => d.generationCap

/-- Whether two signed powers have the same sign, neither being 0. -/
def sameSign (a b : Int) : Bool := (decide (0 < a) && decide (0 < b)) || (decide (a < 0) && decide (b < 0))

/-- Whether a start decision is deployment-driven (R188). -/
def deploymentDriven (s : State) (k : TrainKind) : Bool :=
  let e := energyCalledFor s.store.commitments
  (decide (e = 0) || sameSign e s.dispatcher.target) && decide (min e.natAbs (s.dispatcher.cap k) ≤ runningSum s k)

/-- Whether the Band holds a kind back from starts (R189). -/
def bandHolds (b : Band) (k : TrainKind) : Bool := bandWarns b k || bandStops b k

/-- The Request of a start grant: the Need at min load, 0 for an expander (R152). -/
def startRequest (s : State) (t : Train) (d : Descriptor) : Nat :=
  match trainKind t with
  | .expander => 0
  | .compressor => needAt s.loader.creditWindow d d.minLoad

/-- The descriptor a train would be started under, if it is Startable, its start grant included (R152, R189). -/
def startable (s : State) (deployment : Bool) (t : Train) : Option Descriptor :=
  let c := s.train t
  match c.selection with
  | none => none
  | some sel =>
    let d := sel.descriptor
    if c.state = .ready ∧ 0 < trainLimit s t ∧ bandHolds s.cavern.band (trainKind t) = false ∧
        (deployment = true → d.reserveCapable = true) ∧
        (startRequest s t d = 0 ∨ grantSize s t (startRequest s t d) = startRequest s t d) then some d
    else none

/-- The context of a train that is started (R164, R165): the grant is held, the Setpoint is the min load. -/
def startedContext (s : State) (t : Train) (d : Descriptor) : TrainContext :=
  let c := s.train t
  { c with
    state := .starting
    setpoint := d.minLoad
    reservation := c.reservation + startRequest s t d
    runStart := some s.now
    startTimer := some 0 }

/-- Start a train with its START order (R165, R189). -/
def startTrain (t : Train) (d : Descriptor) (s : State) : State :=
  order t .start (s.setTrain t (startedContext s t d))

/-- The phases a walk visits, each with its number: from the Pointer upward, wrapping (R187). -/
def Rotation.walk (r : Rotation) : List (Nat × Train) :=
  let numbered := (List.range r.phases.length).zip r.phases
  numbered.drop r.pointer ++ numbered.take r.pointer

/-- The first Startable train of a walk, with its phase and descriptor (R189). -/
def firstStartable (s : State) (deployment : Bool) : List (Nat × Train) → Option (Nat × Train × Descriptor)
  | [] => none
  | (phase, t) :: rest =>
    match startable s deployment t with
    | some d => some (phase, t, d)
    | none => firstStartable s deployment rest

/-- Start decisions until the Running Sum reaches the magnitude of N or a walk starts no train; each start takes one
train out of READY (R189). -/
def startDecisions (k : TrainKind) : Nat → State → State
  | 0, s => s
  | n + 1, s =>
    if runningSum s k < s.dispatcher.target.natAbs then
      let r := s.dispatcher.rotation k
      match firstStartable s (deploymentDriven s k) r.walk with
      | none => s
      | some (phase, t, d) =>
        startDecisions k n
          (onDispatcher (fun p => p.setRotation k { r with pointer := (phase + 1) % 12 }) (startTrain t d s))
    else s

/-! ### Shares (R191) -/

/-- The equal part of one train: q held within its min load and its Train Limit (R191, step 1). -/
def equalPart (q limit minLoad : Nat) : Nat :=
  if limit < q then limit
  else if q < minLoad then (if minLoad ≤ 2 * q then minLoad else 0)
  else q

/-- The min load of a train's Cached Descriptor, 0 when unselected. -/
def minLoadOf (s : State) (t : Train) : Nat :=
  match (s.train t).selection with
  | none => 0
  | some sel => sel.descriptor.minLoad

/-- The first occurrence of each train of a list. -/
def firstOccurrences : List Train → List Train → List Train
  | _, [] => []
  | seen, t :: rest => if seen.contains t then firstOccurrences seen rest else t :: firstOccurrences (t :: seen) rest

/-- The Rotation Order of a set of trains of a kind (R187). -/
def rotationOrder (r : Rotation) (k : TrainKind) (members : List Train) : List Train :=
  (firstOccurrences [] (r.walk.map Prod.snd ++ trainsOf k)).filter fun t => members.contains t

/-- Give out a remainder to trains in order, each up to its Train Limit (R191, step 2). -/
def giveOut (s : State) : Nat → List Train → List (Train × Nat) → List (Train × Nat)
  | _, [], shares => shares
  | remainder, t :: rest, shares =>
    let taken := min remainder (trainLimit s t - ((shares.lookup t).getD 0))
    giveOut s (remainder - taken) rest (shares.map fun p => if p.1 = t then (p.1, p.2 + taken) else p)

/-- The shares of the Running Set of a kind (R191). -/
def sharesOf (s : State) (k : TrainKind) : List (Train × Nat) :=
  let members := runningSet s k
  let n := s.dispatcher.target.natAbs
  let equal := members.map fun t => (t, equalPart (n / members.length) (trainLimit s t) (minLoadOf s t))
  giveOut s (n - sumOver Prod.snd equal) (rotationOrder (s.dispatcher.rotation k) k members) equal

/-- Write the Shares given and 0 for every other train (R185, steps 3 and 4; log 12). -/
def writeShares (shares : List (Train × Nat)) (s : State) : State :=
  allTrains.foldl (fun s t => onTrain t (fun c => { c with share := (shares.lookup t).getD 0 }) s) s

/-- Steps 3 and 4 of an evaluation (R185): in DISPATCHING with an Active Kind, the stop decisions, the start decisions
and the shares of the Running Set; otherwise every Share is 0. A kind has three trains, so three rounds suffice. -/
def decideTrains (s : State) : State :=
  match s.dispatcher.mode, activeKind s.dispatcher.direction with
  | .dispatching, some k =>
    let s1 := startDecisions k 3 (stopDecisions k 3 s)
    writeShares (sharesOf s1 k) s1
  | _, _ => writeShares [] s

/-! ### Interval energy (R197) -/

/-- An accumulator held within its bounds (R197). -/
def holdEnergy (x : Int) : Int := holdInt (-9000000000000000) 9000000000000000 x

/-- Close the Scheduled segment: C as held since the Scheduled Mark, for the milliseconds since then (R197). -/
def closeSegment (s : State) : State :=
  onDispatcher (fun d =>
    { d with
      scheduled := holdEnergy (d.scheduled + d.scheduleValue * ((s.tables.millis - d.scheduledMark : Nat) : Int))
      scheduledMark := s.tables.millis }) s

/-- Step 6 of an evaluation: when C has changed, the segment is closed under the old C and the new C is held
(R185). -/
def takeScheduleValue (s : State) : State :=
  let c := scheduleValueOf s.store.commitments
  if c = s.dispatcher.scheduleValue then s else onDispatcher (fun d => { d with scheduleValue := c }) (closeSegment s)

/-- The signed energy of a report: positive for an expander, negative for a compressor (R197). -/
def reportEnergy (t : Train) (power elapsed : Nat) : Int :=
  match trainKind t with
  | .expander => ((power * elapsed : Nat) : Int)
  | .compressor => -((power * elapsed : Nat) : Int)

/-- Add a report's energy to Delivered (R197). -/
def addDelivered (t : Train) (power elapsed : Nat) (s : State) : State :=
  onDispatcher (fun d => { d with delivered := holdEnergy (d.delivered + reportEnergy t power elapsed) }) s

/-! ### Evaluation (R185) -/

/-- The Stop Condition (R11). -/
def stopCondition (s : State) : Bool :=
  allTrains.all fun t => decide ((s.train t).setpoint = 0) && !inUse (s.train t).state

/-- Step 7 of an evaluation: in STOPPING, the mode becomes STANDBY once the Stop Condition holds (R11). -/
def testStop (s : State) : State :=
  if s.dispatcher.mode = .stopping ∧ stopCondition s then onDispatcher (fun d => { d with mode := .standby }) s
  else s

/-- The evaluation of R185, in its seven steps. -/
def evaluate (s : State) : State :=
  testStop (takeScheduleValue (lowerAll (decideTrains (settleDirection (takeTarget s)))))

/-! ### Formation at a report (R192) -/

/-- The State a Setpoint is formed with: the one the report left the train in (R153, R162, R192). A train that has since come
to rest or fallen out is formed as at rest, since R149 and R192 give it no Reservation and no Setpoint (log 8). -/
def formationState (left now : TrainState) : TrainState := if inUse now then left else now

/-- The aim of a train in STARTING, RUNNING or UNLOADING (R192, step 1). -/
def aimOf (mode : Mode) (state : TrainState) (c : TrainContext) (d : Descriptor) : Nat :=
  match state with
  | .starting => d.minLoad
  | .running => if !c.released ∧ mode = .dispatching then c.share else 0
  | _ => 0

/-- A ramp step: floor(Ramp × elapsed / 1,000) (R192, step 2). -/
def rampStep (ramp elapsed : Nat) : Nat := ramp * elapsed / 1000

/-- Move from a present Setpoint toward an aim (R192, step 2). -/
def ramped (d : Descriptor) (elapsed present aim : Nat) : Nat :=
  if present < aim then min aim (present + rampStep d.rampUp elapsed)
  else max aim (present - rampStep d.rampDown elapsed)

/-- Step 2 of R192: a STARTING train takes its aim at once, any other moves toward it. -/
def afterRamp (state : TrainState) (d : Descriptor) (elapsed present aim : Nat) : Nat :=
  match state with
  | .starting => aim
  | _ => ramped d elapsed present aim

/-- What the Band leaves of a value (R192, step 4). -/
def afterBand (b : Band) (k : TrainKind) (present v : Nat) : Nat :=
  if bandStops b k then 0 else if bandWarns b k then min v present else v

/-- The Candidate Setpoint of a train at its report, in a State (R192); a train at rest or unselected has 0. -/
def candidateSetpoint (s : State) (t : Train) (state : TrainState) (elapsed : Nat) : Nat :=
  let c := s.train t
  match c.selection with
  | none => 0
  | some sel =>
    if inUse state then
      let rampedTo :=
        afterRamp state sel.descriptor elapsed c.setpoint (aimOf s.dispatcher.mode state c sel.descriptor)
      let banded := afterBand s.cavern.band (trainKind t) c.setpoint (min rampedTo (trainLimit s t))
      if c.setpoint = 0 ∧ kindHolds s (otherKind (trainKind t)) then 0 else banded
    else 0

/-- Write the Setpoint formed: for a compressor in STARTING, RUNNING or UNLOADING the credit settling and the limit come
first (R153, R154, R192). -/
def writeFormed (t : Train) (state : TrainState) (candidate : Nat) (s : State) : State :=
  match trainKind t with
  | .expander => onTrain t (fun c => { c with setpoint := candidate }) s
  | .compressor =>
    if inUse state then limitByCredit t candidate (settleCredit t (creditNeedIn s t state candidate) s)
    else onTrain t (fun c => { c with setpoint := candidate }) s

/-- Whether the order that answers a report is STOP whatever the table of R194 gives: the train is in STARTING, RUNNING or
UNLOADING, and its Setpoint has fallen to 0 from above 0 (R192) or is formed against a LIMIT band (R199). -/
def answeredStop (s : State) (t : Train) (before after : Nat) : Bool :=
  inUse (s.train t).state &&
  ((decide (0 < before) && decide (after = 0)) || bandStops s.cavern.band (trainKind t))

/-- Form the Setpoint at a report that left the train in a State, with the move to UNLOADING and the answering order (R192,
R194). -/
def formSetpoint (t : Train) (left : TrainState) (elapsed : Nat) (s : State) : State :=
  let state := formationState left (s.train t).state
  let s1 := unloadBelowMin t (writeFormed t state (candidateSetpoint s t state elapsed) s)
  orderAsStanding t (answeredStop s t (s.train t).setpoint (s1.train t).setpoint) s1

/-- The Dispatcher's handling of a report: the energy, the formation with its order, and the evaluation (R185, R192,
R197). -/
def handleReport (t : Train) (part : ReportPart) (s : State) : State :=
  evaluate (formSetpoint t part.left part.elapsed (addDelivered t part.power part.elapsed s))

/-! ### The close of an interval (R198) -/

/-- An accumulator in kWh: its magnitude / 36,000 rounded half up, with the sign applied (R198). -/
def kwhOf (x : Int) : Int := roundSigned x 36000

/-- The Dispatcher's handling of a Boundary (R198); the expiry is judged for the New Interval (R181, log 21). -/
def closeInterval (b : Boundary) (s : State) : State :=
  let s1 := closeSegment s
  let d := s1.dispatcher
  let s2 := raise (.imbalance d.openInterval (kwhOf d.delivered - kwhOf d.scheduled)) s1
  let s3 := s2.setDispatcher { d with delivered := 0, scheduled := 0, openInterval := b.newInterval }
  let cleared := removeExpired b.newInterval s3
  evaluate (noticeTrains cleared.2 cleared.1)

/-! ### Reset (R169, R196) -/

/-- The context of a train after the Train Unit's handling of RESET_DISPATCH (R169). HEAT_CREDIT_LIMIT is left as it is: one that
a formation between the Dispatcher's handling of the reset and this one has shown again stays shown until the train's next
formation, where R155 with R193 would end it here; the model's choice (log 41). -/
def TrainContext.reset (c : TrainContext) : TrainContext :=
  if inUse c.state then
    { c with state := .unloading, setpoint := 0, share := 0, reservation := 0, startTimer := none, released := false }
  else { c with setpoint := 0, share := 0, reservation := 0 }

/-- The Train Unit's handling of one context: STARTING, RUNNING and UNLOADING trains are sent STOP (R169). -/
def resetTrain (s : State) (t : Train) : State :=
  let s1 := onTrain t TrainContext.reset s
  if inUse (s.train t).state then order t .stop s1 else s1

/-- The Train Unit's handling of RESET_DISPATCH (R169). -/
def resetTrains (s : State) : State := noticeTrains allTrains (allTrains.foldl resetTrain s)

/-- HEAT_CREDIT_LIMIT ceases to be shown for every train at the Dispatcher's handling of the reset (R157, R196; log 41). -/
def hideCreditLimits (s : State) : State := s.setTrains (s.trains.map fun c => { c with creditLimit := false })

/-- The Dispatcher's handling of RESET_DISPATCH up to its evaluation (R182, R196). -/
def resetDispatcher (s : State) : State :=
  let s1 := s.setTrains (s.trains.map fun c => { c with share := 0, released := false })
  onDispatcher (fun d => { d with mode := .standby, direction := .idle, target := 0 }) s1

/-! ### Selection and its loss (R166, R172, R175) -/

/-- The expiry of the start limit: a STOP order, and TRIPPED (R166). The order is formed after the move. -/
def expireStart (t : Train) (s : State) : State := order t .stop (moveToRest t .tripped s)

/-- Whether the Start Timer of a STARTING train exceeds its start limit (R166). -/
def startExpired (s : State) (t : Train) : Bool :=
  let c := s.train t
  match c.state, c.selection, c.startTimer with
  | .starting, some sel, some ms => decide (sel.descriptor.startLimit * 1000 < ms)
  | _, _, _ => false

/-- Judge the start limit, as a replaced descriptor changes it (R166). -/
def judgeStart (t : Train) (s : State) : State := if startExpired s t then expireStart t s else s

/-- What a train holds once it has taken a copy of a row (R172). -/
def selectionOf (selector : Nat) (row : EnvelopeRow) : Selection :=
  { selector := selector, descriptor := row.descriptor, generation := row.generation }

/-- Take a copy of a row for a train: the Setpoint of a STARTING, RUNNING or UNLOADING train is lowered to its new Train
Limit in the same event (R172, R193, log 10), and then the start limit is judged (R166). A STARTING train that is both
lowered and past its new start limit is issued the order of the lowering first and STOP after it (log 30). -/
def takeRow (t : Train) (selector : Nat) (row : EnvelopeRow) (s : State) : State :=
  let s1 := onTrain t (fun c => { c with selection := some (selectionOf selector row) }) s
  judgeStart t
    (if trainLimit s1 t < (s1.train t).setpoint then lowerSetpoint t (trainLimit s1 t) s1 else s1)

/-- A train becomes unselected (R175): STARTING and RUNNING move to UNLOADING, and in those States and UNLOADING the
Setpoint becomes 0, the whole credits of a compressor's Reservation are returned and STOP is ordered. -/
def deselect (t : Train) (s : State) : State :=
  let c := s.train t
  if inUse c.state then
    let s1 := s.setTrain t { (c.unload 0) with selection := none, creditLimit := false }
    order t .stop
      (match trainKind t with
       | .compressor => partialReturn t 0 s1
       | .expander => s1)
  else s.setTrain t { c with selection := none, released := false }

/-- Whether a row may be selected for a train: Valid, and of the train's kind (R172). -/
def rowFits (t : Train) (row : EnvelopeRow) : Bool :=
  row.descriptor.valid && decide (row.descriptor.kind = trainKind t)

/-- Whether a train already holds a Selector with the row's Generation (R172). -/
def holdsRow (c : TrainContext) (selector : Nat) (row : EnvelopeRow) : Bool :=
  match c.selection with
  | none => false
  | some sel => decide (sel.selector = selector) && decide (sel.generation = row.generation)

end Sys2Proof.Machine
end

