-- ==== Sys2Proof/Machine/BoundaryCommands.lean ====
section
/-!
DEFINITION. The blocks' handling of an Interval Boundary, each an event of its own (R3): COMMITMENT_BOUNDARY, HORIZON_SHIFT,
STANDING_LOSS, INTERVAL_CLOSE, and the IMBALANCE_DELIVERY that the close brings.
-/
namespace Sys2Proof.Machine

/-- The Boundary raised for a block. -/
def pickBoundary (block : BoundaryBlock) : Raised → Option Boundary
  | .boundary k b => if k = block then some b else none
  | _ => none

/-- COMMITMENT_BOUNDARY (R7, R55, R60). -/
def execCommitmentBoundary (s : State) : Host.Outcome State Fault Refusal :=
  .next (handleRaised (pickBoundary .commitmentStore) settleBoundary s)

/-- HORIZON_SHIFT (R80, R102, R103). -/
def execHorizonShift (s : State) : Host.Outcome State Fault Refusal :=
  .next (handleRaised (pickBoundary .horizonProjector) shiftForBoundary s)

/-- The Heat Store Unit's handling of a Boundary: one loss for each interval of the Step, none for a REBASE (R137,
R138). -/
def lossForBoundary (b : Boundary) (s : State) : State :=
  match b.step with
  | .forward n => applyLoss n s
  | .rebase => s

/-- STANDING_LOSS (R137, R138). -/
def execStandingLoss (s : State) : Host.Outcome State Fault Refusal :=
  .next (handleRaised (pickBoundary .heatStoreUnit) lossForBoundary s)

/-- INTERVAL_CLOSE (R198). -/
def execIntervalClose (s : State) : Host.Outcome State Fault Refusal :=
  .next (handleRaised (pickBoundary .dispatcher) closeInterval s)

/-- The imbalance raised for the Commitment Store: the Closed Interval Number and the kWh (R198). -/
def pickImbalance : Raised → Option (Nat × Int)
  | .imbalance closed kwh => some (closed, kwh)
  | _ => none

/-- IMBALANCE_DELIVERY (R59). -/
def execImbalanceDelivery (s : State) : Host.Outcome State Fault Refusal :=
  .next (handleRaised pickImbalance (fun d => deliverImbalance d.1 d.2) s)

end Sys2Proof.Machine
end

