-- ==== Sys2Proof/Machine/Admission.lean ====
section
/-!
DEFINITION. How the Link Unit takes a request frame (R15 to R18): the transaction, the room test, the reading of the body,
the port and load tests, and the two ways a request is answered, at once or as a queued amendment.
-/
namespace Sys2Proof.Machine

/-- The answer to a broken frame: the Fault Detail and the Offset (R16). -/
def badRequest (f : BodyFault) : Reply := .withBody .badRequest (u8 (faultCode f.detail) ++ u8 f.offset)

/-- Test 1 of R17: the responses waiting plus the Outstanding Count are below 32. -/
def hasRoom (p : Port) (s : State) : Bool := (s.link p).responses.length + (s.link p).outstanding < 32

/-- Requests from either port (R22). -/
def bothPorts : Port → Bool := fun _ => true

/-- Requests from the Supervisory Port alone (R22). -/
def supervisoryOnly : Port → Bool
  | .mp => false
  | .sp => true

/-- Requests from the Market Port alone (R22). -/
def marketOnly : Port → Bool
  | .mp => true
  | .sp => false

/-- The state in which a frame is judged: its reception is over, and on the Supervisory Port the response the
transaction shifted out in full has left the queue (R15). The frame is its body and five further octets (R29). -/
def received (f : Frame) (s : State) : State := receive f.via (f.body.length + 5) s

/-- Admission of a request frame (R16, R17): without room it is discarded, a broken body is answered BAD_REQUEST, the
wrong port NOT_PERMITTED, a request in LOADING WRONG_STATE, and any other goes to its owner (log 5). -/
def takeRequest {α : Type} (code : Octet) (ports : Port → Bool) (fields : Parser α)
    (owner : Port → Octet → α → State → State) (f : Frame) (s : State) : State :=
  let p := viaPort f.via
  let r := received f s
  if hasRoom p r then
    match parseBody fields f.body with
    | .error fault => respond p f.tag code (badRequest fault) r
    | .ok request =>
      if ports p then
        if r.loader.loadState = .loading then respond p f.tag code (.bare .wrongState) r
        else owner p f.tag request r
      else respond p f.tag code (.bare .notPermitted) r
  else r

/-- A request that its owner carries out or refuses when taken, and that is answered at once (R18). -/
def atOnce {α : Type} (code : Octet) (ports : Port → Bool) (fields : Parser α)
    (owner : Port → α → State → Reply × State) (f : Frame) (s : State) : State :=
  takeRequest code ports fields
    (fun p tag request r =>
      let done := owner p request r
      respond p tag code done.1 done.2) f s

/-- A request that only reads: its owner forms the answer from the state as it stands (R20). -/
def lookup {α : Type} (code : Octet) (fields : Parser α) (answer : α → State → Reply) (f : Frame) (s : State) :
    State :=
  atOnce code bothPorts fields (fun _ request r => (answer request r, r)) f s

end Sys2Proof.Machine
end

