-- ==== Sys2Proof/Machine/DispatchCommands.lean ====
section
/-!
DEFINITION. The commands of the Dispatcher (chapters 1 and 10): START_DISPATCH, STOP_DISPATCH, RESET_DISPATCH,
SETPOINT_FORMATION and the four notices.
-/
namespace Sys2Proof.Machine

/-! ### Starting, stopping and resetting (R10 to R12) -/

/-- A prerequisite of START_DISPATCH that is unmet, with the field its name carries (R10). -/
inductive Unmet where
  | mode (present : Mode)
  | timeUnset
  | cavernUncalibrated
  | tankUnsurveyed (tank : Tank)
  | noReadyTrain
  deriving DecidableEq, Repr

/-- The body that names an unmet prerequisite: the name, then an optional field (R10). -/
def unmetBody : Unmet → List Octet
  | .mode m => u8 0 ++ optional (fun k => u8 (modeCode k)) (some m)
  | .timeUnset => u8 1 ++ optional u8 none
  | .cavernUncalibrated => u8 2 ++ optional u8 none
  | .tankUnsurveyed t => u8 3 ++ optional (fun k => u8 (tankIndex k)) (some t)
  | .noReadyTrain => u8 4 ++ optional u8 none

/-- The first unmet prerequisite, in the order of R10. -/
def firstUnmet (s : State) : Option Unmet :=
  if s.dispatcher.mode ≠ .standby then some (.mode s.dispatcher.mode)
  else if s.clock.timeSet = false then some .timeUnset
  else if s.cavern.calibrated = false then some .cavernUncalibrated
  else
    match allTanks.find? fun t => !(s.tank t).surveyed with
    | some t => some (.tankUnsurveyed t)
    | none => if allTrains.any fun t => decide ((s.train t).state = .ready) then none else some .noReadyTrain

/-- Set the Operating Mode. -/
def setMode (m : Mode) (s : State) : State := onDispatcher (fun d => { d with mode := m }) s

/-- START_DISPATCH's owner (R10): DISPATCHING, an evaluation, and the Projector's trigger. -/
def startDispatchOwner (s : State) : Reply × State :=
  if s.dispatcher.mode = .dispatching then (.bare .doneUnchanged, s)
  else
    match firstUnmet s with
    | some u => (.withBody .wrongState (unmetBody u), s)
    | none => (.bare .done, beginIfDue (triggerPass (evaluate (setMode .dispatching s))))

/-- START_DISPATCH (R10, R195). -/
def execStartDispatch (frame : Frame) (s : State) : Host.Outcome State Fault Refusal :=
  .next (atOnce 0x41 supervisoryOnly parseEmpty (fun _ _ => startDispatchOwner) frame s)

/-- STOP_DISPATCH's owner (R11): STANDBY if the Stop Condition holds, else STOPPING, and an evaluation. -/
def stopDispatchOwner (s : State) : Reply × State :=
  if s.dispatcher.mode = .dispatching then
    (.bare .done, evaluate (setMode (if stopCondition s then .standby else .stopping) s))
  else (.bare .doneUnchanged, s)

/-- STOP_DISPATCH (R11, R195). -/
def execStopDispatch (frame : Frame) (s : State) : Host.Outcome State Fault Refusal :=
  .next (atOnce 0x42 supervisoryOnly parseEmpty (fun _ _ => stopDispatchOwner) frame s)

/-- RESET_DISPATCH's owner (R12, R196): the Dispatcher's own handling with its evaluation, after which no HEAT_CREDIT_LIMIT is
shown, and the reset on its way to the other blocks (log 28). -/
def resetDispatchOwner (s : State) : Reply × State :=
  if s.dispatcher.mode = .unconfigured then (.bare .wrongState, s)
  else
    (.bare .done,
     raiseAll [.storeReset, .projectorReset, .heatReset, .trainReset] (hideCreditLimits (evaluate (resetDispatcher s))))

/-- RESET_DISPATCH (R12, R196). -/
def execResetDispatch (frame : Frame) (s : State) : Host.Outcome State Fault Refusal :=
  .next (atOnce 0x43 supervisoryOnly parseEmpty (fun _ _ => resetDispatchOwner) frame s)

/-! ### Reports and notices (R185) -/

/-- A report's part for the Dispatcher (R162). -/
def pickFormation (t : Train) : Raised → Option ReportPart
  | .formation k part => if k = t then some part else none
  | _ => none

/-- SETPOINT_FORMATION (R192, R197, log 8). -/
def execSetpointFormation (t : Train) (s : State) : Host.Outcome State Fault Refusal :=
  .next (handleRaised (pickFormation t) (fun part => handleReport t part) s)

/-- A raised notice that is the one given. -/
def pickNotice (notice : Raised) (r : Raised) : Option Unit := if r = notice then some () else none

/-- ACTIVE_FIRM_NOTICE (R53, R185). -/
def execActiveFirmNotice (s : State) : Host.Outcome State Fault Refusal :=
  .next (handleRaised (pickNotice .activeFirm) (fun _ => evaluate) s)

/-- BAND_NOTICE (R115, R185): the evaluation lowers the Setpoints that a LIMIT band stops (R193). -/
def execBandNotice (s : State) : Host.Outcome State Fault Refusal :=
  .next (handleRaised (pickNotice .band) (fun _ => evaluate) s)

/-- TOP_NOTICE (R127, R185). -/
def execTopNotice (tank : Tank) (s : State) : Host.Outcome State Fault Refusal :=
  .next (handleRaised (pickNotice (.top tank)) (fun _ => evaluate) s)

/-- TRAIN_NOTICE (R160, R185). -/
def execTrainNotice (t : Train) (s : State) : Host.Outcome State Fault Refusal :=
  .next (handleRaised (pickNotice (.train t)) (fun _ => evaluate) s)

end Sys2Proof.Machine
end

