-- ==== Sys2Proof/Machine/HorizonCommands.lean ====
section
/-!
DEFINITION. The commands of the Horizon Projector (chapter 5): LOOKUP_ROW, LOOKUP_HORIZON, PASS_COMPLETION and
PROJECTOR_RESET, with the Commitment Store's COMMITMENT_STORE_RESET beside it (R75).
-/
namespace Sys2Proof.Machine

/-- The row of the Horizon Table for an interval; an interval that has not entered the table yet has the new row R80
would give it (log 15). -/
def rowFor (interval : Nat) (rows : List Row) : Row :=
  (rows.find? fun r => decide (r.interval = interval)).getD (Row.unprojected interval)

/-- Position of a Verdict's state (R81). -/
def verdictCode : Verdict → Nat
  | .unprojected => 0
  | .feasible => 1
  | .failing _ => 2

/-- A row's body with its index; Net, Up and Down are held within their encodings (R81). -/
def rowBody (index : Nat) (r : Row) : List Octet :=
  u32 r.interval ++ u8 index ++ s16 (holdInt (-32768) 32767 r.net) ++ u16 (min r.up 65535) ++
  u16 (min r.down 65535) ++ u16 r.genCapacity ++ u16 r.chgCapacity ++ u16 r.reserveGen ++ u16 r.reserveChg ++
  u32 r.endMass ++ u16 r.endPressure ++ u32 r.endUsable ++ u32 r.endFree ++ u8 (verdictCode r.verdict) ++
  failureSet r.failures

/-- Whether a sum of a row lies beyond its encoding (R81). -/
def rowSaturated (r : Row) : Bool :=
  decide (holdInt (-32768) 32767 r.net ≠ r.net) || decide (65535 < r.up) || decide (65535 < r.down)

/-- LOOKUP_ROW's answer (R81). The row is found by its Interval Number, and its index is counted from the Current Interval
Number, also while the Clock has moved and HORIZON_SHIFT is still to come (logs 15 and 40). -/
def rowAnswer (interval : Nat) (s : State) : Reply :=
  if interval < s.interval ∨ s.interval + 191 < interval then .bare .notFound
  else
    let r := rowFor interval s.projector.horizon
    { status := .done, zero := false, saturated := rowSaturated r, body := rowBody (interval - s.interval) r }

/-- LOOKUP_ROW (R81). -/
def execLookupRow (frame : Frame) (s : State) : Host.Outcome State Fault Refusal :=
  .next (lookup 0x18 parseU32 rowAnswer frame s)

/-- The First Failing Row with its index (R82). -/
def firstFailing (rows : List Row) : Option (Nat × Row) :=
  ((List.range rows.length).zip rows).find? fun p => p.2.failing

/-- LOOKUP_HORIZON's answer (R82). Row 0 and the First Failing Row's index are those of the table as it stands, also while
the Clock has moved and HORIZON_SHIFT is still to come: the model's choice (log 40). -/
def horizonAnswer (s : State) : Reply :=
  let rows := s.projector.horizon
  .withBody .done
    (u32 ((rows.head?.map Row.interval).getD s.interval) ++ u8 (if s.projector.current then 0 else 1) ++
     flag s.projector.passPending ++ u8 (passCode s.projector.passState) ++
     u8 (rows.filter Row.failing).length ++
     optional (fun p => u8 p.1 ++ u32 p.2.interval ++ failureSet p.2.failures) (firstFailing rows))

/-- LOOKUP_HORIZON (R82). -/
def execLookupHorizon (frame : Frame) (s : State) : Host.Outcome State Fault Refusal :=
  .next (lookup 0x19 parseEmpty (fun _ => horizonAnswer) frame s)

/-- PASS_COMPLETION (R88): the remaining rows of the Working Copy are evaluated, and the Pass is adopted or its Trial
judged (log 23); with no Pass in flight nothing completes. -/
def execPassCompletion (s : State) : Host.Outcome State Fault Refusal := .next (completePass s)

/-- The raised reset of the Horizon Projector. -/
def pickProjectorReset : Raised → Option Unit
  | .projectorReset => some ()
  | _ => none

/-- PROJECTOR_RESET (R105): the Pass in flight is abandoned, pass-pending is set, and a Pass begins. -/
def execProjectorReset (s : State) : Host.Outcome State Fault Refusal :=
  .next (handleRaised pickProjectorReset (fun _ k => beginIfDue (triggerPass (endPass k))) s)

/-- The raised reset of the Commitment Store. -/
def pickStoreReset : Raised → Option Unit
  | .storeReset => some ()
  | _ => none

/-- COMMITMENT_STORE_RESET (R75). -/
def execCommitmentStoreReset (s : State) : Host.Outcome State Fault Refusal :=
  .next (handleRaised pickStoreReset (fun _ => abortAll) s)

end Sys2Proof.Machine
end

