-- ==== Sys2Proof/Machine/LinkCommands.lean ====
section
/-!
DEFINITION. The commands of the Link Unit (chapter 2): LOOKUP_PLANT, the conditions and masks, the frames and transactions
that carry no request, Link Reset, and the ends of transmissions on the request ports and train links.
-/
namespace Sys2Proof.Machine

/-! ### Lookups and conditions (R20, R23 to R26) -/

/-- LOOKUP_PLANT's answer, for the requesting port (R20, log 7). -/
def plantAnswer (p : Port) (s : State) : Reply :=
  .withBody .done
    (u16 s.clock.day ++ u32 s.clock.second ++ u32 s.interval ++ flag s.clock.timeSet ++ u8 s.clock.gateLead ++
     u8 (modeCode s.dispatcher.mode) ++ u8 (authorityCode s.store.authority) ++ u8 s.store.queue.length ++
     u8 (s.link p).outstanding ++ u8 s.store.commitments.length ++ u8 (directionCode s.dispatcher.direction) ++
     s16 s.dispatcher.target ++ s32 s.store.lastImbalance ++ s32 s.store.dayImbalance)

/-- LOOKUP_PLANT (R20). -/
def execLookupPlant (frame : Frame) (s : State) : Host.Outcome State Fault Refusal :=
  .next (atOnce 0x48 bothPorts parseEmpty (fun p _ k => (plantAnswer p k, k)) frame s)

/-- A set of sticky positions in four octets (R31). -/
def stickyOctets (v : BitVec 26) : List Octet := u32 v.toNat

/-- LOOKUP_CONDITIONS' answer (R23, log 7). -/
def conditionsAnswer (s : State) : Reply :=
  .withBody .done
    (stickyOctets s.sticky ++ u32 (liveSet s).toNat ++ u8 (bandCode s.cavern.band) ++
     stickyOctets s.mp.alertMask ++ stickyOctets s.sp.alertMask ++ flag (alertLine s .mp) ++ flag (alertLine s .sp))

/-- LOOKUP_CONDITIONS (R23). -/
def execLookupConditions (frame : Frame) (s : State) : Host.Outcome State Fault Refusal :=
  .next (lookup 0x49 parseEmpty (fun _ => conditionsAnswer) frame s)

/-- A mask over the sticky positions; none when it marks one of 26 to 31 (R24, R25). -/
def maskOf (n : Nat) : Option (BitVec 26) := if n < 2 ^ 26 then some (BitVec.ofNat 26 n) else none

/-- CLEAR_CONDITIONS' owner (R24). -/
def clearOwner (n : Nat) (s : State) : Reply × State :=
  match maskOf n with
  | none => (.bare .outOfRange, s)
  | some mask =>
    let s1 := s.setSticky (s.sticky &&& ~~~mask)
    (.withBody (if s.sticky &&& mask = 0 then .doneUnchanged else .done) (stickyOctets s1.sticky), s1)

/-- CLEAR_CONDITIONS (R24). -/
def execClearConditions (frame : Frame) (s : State) : Host.Outcome State Fault Refusal :=
  .next (atOnce 0x4A bothPorts parseU32 (fun _ => clearOwner) frame s)

/-- SET_ALERT_MASK's owner: the requesting port's mask (R25). -/
def maskOwner (p : Port) (n : Nat) (s : State) : Reply × State :=
  match maskOf n with
  | none => (.bare .outOfRange, s)
  | some mask =>
    let s1 := s.setLink p { s.link p with alertMask := mask }
    (.withBody (if mask = (s.link p).alertMask then .doneUnchanged else .done)
      (stickyOctets mask ++ flag (alertLine s1 p)), s1)

/-- SET_ALERT_MASK (R25). -/
def execSetAlertMask (frame : Frame) (s : State) : Host.Outcome State Fault Refusal :=
  .next (atOnce 0x4B bothPorts parseU32 maskOwner frame s)

/-! ### Frames that are no request (R14 to R16) -/

/-- UNKNOWN_CODE (R16): answered BAD_REQUEST with UNKNOWN_CODE and offset 0, where there is room (log 5). -/
def execUnknownCode (code : Octet) (frame : Frame) (s : State) : Host.Outcome State Fault Refusal :=
  let p := viaPort frame.via
  let r := received frame s
  .next
    (if hasRoom p r then respond p frame.tag code (badRequest { detail := .unknownCode, offset := 0 }) r else r)

/-- BAD_CHECK_FRAME (R16): discarded without response; on the Supervisory Port the transaction still shifts out. -/
def execBadCheckFrame (via : Via) (octets : List Octet) (s : State) : Host.Outcome State Fault Refusal :=
  .next (receive via octets.length s)

/-- TAINTED_FRAME (R14): discarded without response when its length is met. -/
def execTaintedFrame (_octets : List Octet) (s : State) : Host.Outcome State Fault Refusal :=
  .next (s.setMp { s.mp with intake := none })

/-- SHORT_LENGTH_FRAME (R14): discarded, and the intake hunts again. -/
def execShortLengthFrame (_length : Octet) (s : State) : Host.Outcome State Fault Refusal :=
  .next (s.setMp { s.mp with intake := none })

/-- SP_IDLE_TRANSACTION (R15): no request; the oldest response leaves if every octet of it was shifted out. -/
def execSpIdleTransaction (octets : List Octet) (s : State) : Host.Outcome State Fault Refusal :=
  .next (endTransaction octets.length s)

/-- LINK_RESET (R19, R76). -/
def execLinkReset (p : Port) (s : State) : Host.Outcome State Fault Refusal := .next (resetLink p s)

/-- RESPONSE_SENT (R14): the last octet of the Market Port's oldest response has been sent, and it leaves the queue. -/
def execResponseSent (s : State) : Host.Outcome State Fault Refusal :=
  .next (s.setMp { s.mp with responses := s.mp.responses.drop 1 })

/-! ### Train links (R27, R28) -/

/-- TRAIN_FRAME_DISCARDED (R27): the report is discarded and the intake hunts again. -/
def execTrainFrameDiscarded (line : Train) (_octets : List Octet) (_framingError : Bool) (s : State) :
    Host.Outcome State Fault Refusal :=
  .next (s.setTrainLinks (s.trainLinks.set line { s.trainLinks.get line with intake := none }))

/-- TRAIN_LINK_BREAK (R27): a partial report is discarded. -/
def execTrainLinkBreak (line : Train) (s : State) : Host.Outcome State Fault Refusal :=
  .next (s.setTrainLinks (s.trainLinks.set line { s.trainLinks.get line with intake := none }))

/-- The end of a transmission: the waiting order, if any, starts (R28). -/
def TrainLink.sent (l : TrainLink) : TrainLink := { l with sending := l.waiting, waiting := none }

/-- ORDER_SENT (R28). -/
def execOrderSent (line : Train) (s : State) : Host.Outcome State Fault Refusal :=
  .next (s.setTrainLinks (s.trainLinks.set line (s.trainLinks.get line).sent))

end Sys2Proof.Machine
end

