-- ==== Sys2Proof/Machine/ScheduleCommands.lean ====
section
/-!
DEFINITION. The requests of the Commitment Store (chapters 3 and 4): ENTER, AMEND, its preview, CONFIRM, RETIRE, DEPLOY, the
lookups and walks of the Commitment Table, and CLAIM, RELEASE and FORCE.
-/
namespace Sys2Proof.Machine

/-! ### Requests that change the schedule (R36 to R51) -/

/-- The first two arrival checks of a schedule change: the mode and the port's authority (R36, R65). -/
def scheduleRefusal (p : Port) (a : Amendment) (s : State) : Option Reply :=
  if s.dispatcher.mode = .unconfigured then some (.bare .wrongState)
  else if hasRight s.store.authority p a then none
  else some (.withBody .noAuthority (u8 (authorityCode s.store.authority)))

/-- Take a schedule change: the checks of R36, then the request's own, and admission to the Amendment Queue of what
passes. -/
def scheduleChange (code : Octet) (p : Port) (tag : Octet) (a : Amendment) (own : State → Option Reply) (s : State) :
    State :=
  match scheduleRefusal p a s with
  | some reply => respond p tag code reply s
  | none =>
    match own s with
    | some reply => respond p tag code reply s
    | none => admitAmendment p tag code a s

/-- ENTER's own arrival checks (R39). -/
def enterArrival (r : EnterRequest) (s : State) : Option Reply :=
  if enterInRange r then (enterRefusal r s).map Reply.bare else some (.bare .outOfRange)

/-- ENTER (R39). -/
def execEnter (frame : Frame) (s : State) : Host.Outcome State Fault Refusal :=
  .next (takeRequest 0x01 bothPorts parseEnter
    (fun p tag r => scheduleChange 0x01 p tag (.enter r) (enterArrival r)) frame s)

/-- AMEND's own arrival checks: a refusal, or the record and the result formed from it (R41). -/
def amendArrival (q : AmendRequest) (s : State) : Status ⊕ (Commitment × AmendResult) :=
  match findHandle q.handle s.store.commitments with
  | none => .inl .notFound
  | some c =>
    if q.field = .marketReference ∧ q.operation ≠ .set then .inl .outOfRange
    else
      let r := amendResult s.interval c q
      match amendArrivalRefusal c q r s with
      | some status => .inl status
      | none => .inr (c, r)

/-- The refusal of an AMEND on arrival, if there is one. -/
def amendRefused (q : AmendRequest) (s : State) : Option Reply :=
  match amendArrival q s with
  | .inl status => some (.bare status)
  | .inr _ => none

/-- The result value of a preview, encoded as the field (R49). -/
def fieldValue (field : AmendField) (value : Int) : List Octet :=
  match field with
  | .power => s16 value
  | .length => u8 value.toNat
  | .marketReference => u32 value.toNat

/-- The answer of a preview that passes its checks (R49). -/
def previewReply (q : AmendRequest) (c : Commitment) (r : AmendResult) : Reply :=
  { status := if amendUnchanged c q r then .doneUnchanged else .done
    zero := r.zero
    saturated := r.saturated
    body := u16 q.handle ++ u8 (fieldCode q.field) ++ fieldValue q.field r.value }

/-- Take a preview: the arrival checks of an AMEND, answered at once (R49). -/
def previewAmend (p : Port) (tag : Octet) (q : AmendRequest) (s : State) : State :=
  respond p tag 0x02
    (match scheduleRefusal p (.amend q) s with
     | some reply => reply
     | none =>
       match amendArrival q s with
       | .inl status => .bare status
       | .inr (c, r) => previewReply q c r) s

/-- The owner of code 0x02: the Preview flag of the body says which request it is (R41, R49). -/
def amendOwner (p : Port) (tag : Octet) (q : AmendRequest) (s : State) : State :=
  if q.preview then previewAmend p tag q s else scheduleChange 0x02 p tag (.amend q) (amendRefused q) s

/-- AMEND (R41 to R48). -/
def execAmend (frame : Frame) (s : State) : Host.Outcome State Fault Refusal :=
  .next (takeRequest 0x02 bothPorts parseAmend amendOwner frame s)

/-- AMEND_PREVIEW (R49). -/
def execAmendPreview (frame : Frame) (s : State) : Host.Outcome State Fault Refusal :=
  .next (takeRequest 0x02 bothPorts parseAmend amendOwner frame s)

/-- The arrival check of CONFIRM and RETIRE: the Handle names a held record (R50, R51). -/
def handleArrival (h : Nat) (s : State) : Option Reply :=
  match findHandle h s.store.commitments with
  | none => some (.bare .notFound)
  | some _ => none

/-- CONFIRM (R50). -/
def execConfirm (frame : Frame) (s : State) : Host.Outcome State Fault Refusal :=
  .next (takeRequest 0x03 bothPorts parseU16
    (fun p tag h => scheduleChange 0x03 p tag (.confirm h) (handleArrival h)) frame s)

/-- RETIRE (R51). -/
def execRetire (frame : Frame) (s : State) : Host.Outcome State Fault Refusal :=
  .next (takeRequest 0x04 bothPorts parseU16
    (fun p tag h => scheduleChange 0x04 p tag (.retire h) (handleArrival h)) frame s)

/-! ### DEPLOY (R52) -/

/-- Whether a record can be deployed: an ACTIVE FIRM reserve record (R52). -/
def deployable (c : Commitment) : Bool := decide (c.kind ≠ .energy) && decide (c.standing = .firm) && c.isActive

/-- Write a record's Deployed, with the Active Firm Notice of a change (R52, R53). -/
def deployRecord (c : Commitment) (amount : Nat) (s : State) : State :=
  if c.deployed = amount then s
  else raise .activeFirm
    (setCommitments (changeRecord c.handle (fun k => { k with deployed := amount }) s.store.commitments) s)

/-- DEPLOY's owner (R52): the Amount is held at the record's Power. -/
def deployOwner (request : Nat × Nat) (s : State) : Reply × State :=
  if s.dispatcher.mode = .unconfigured then (.bare .wrongState, s)
  else
    match findHandle request.1 s.store.commitments with
    | none => (.bare .notFound, s)
    | some c =>
      if deployable c then
        let amount := min request.2 c.power.toNat
        ({ status := if c.deployed = request.2 then .doneUnchanged else .done
           zero := false
           saturated := decide (amount < request.2)
           body := commitmentBody { c with deployed := amount } },
         deployRecord c amount s)
      else (.bare .wrongState, s)

/-- DEPLOY (R52). -/
def execDeploy (frame : Frame) (s : State) : Host.Outcome State Fault Refusal :=
  .next (atOnce 0x05 marketOnly parseDeploy (fun _ => deployOwner) frame s)

/-! ### Looking up and walking the table (R54, R57, R58) -/

/-- The answer that gives a record, or NOT_FOUND (R54). -/
def recordReply : Option Commitment → Reply
  | none => .bare .notFound
  | some c => .withBody .done (commitmentBody c)

/-- LOOKUP_COMMITMENT's answer (R54). -/
def commitmentAnswer (key : Bool × Nat) (s : State) : Reply :=
  recordReply
    (if key.1 then findReference key.2 s.store.commitments else findHandle key.2 s.store.commitments)

/-- LOOKUP_COMMITMENT (R54). -/
def execLookupCommitment (frame : Frame) (s : State) : Host.Outcome State Fault Refusal :=
  .next (lookup 0x06 parseKey commitmentAnswer frame s)

/-- Move a port's Walk Cursor (R57). -/
def setCursor (p : Port) (key : Nat × Nat) (s : State) : State := s.setLink p { s.link p with cursor := some key }

/-- Go on from a key: the first record after it, whose key the port's cursor takes; with none the cursor keeps the key
(R57, R58). -/
def walkFrom (p : Port) (key : Nat × Nat) (s : State) : Reply × State :=
  match firstAfter key s.store.commitments with
  | none => (.bare .notFound, setCursor p key s)
  | some c => (recordReply (some c), setCursor p c.key s)

/-- WALK_FIRST (R57). -/
def execWalkFirst (frame : Frame) (s : State) : Host.Outcome State Fault Refusal :=
  .next (atOnce 0x07 bothPorts parseU32 (fun p start => walkFrom p (start, 0)) frame s)

/-- WALK_NEXT's owner (R58). -/
def walkNextOwner (p : Port) (s : State) : Reply × State :=
  match (s.link p).cursor with
  | none => (.bare .wrongState, s)
  | some key => walkFrom p key s

/-- WALK_NEXT (R58). -/
def execWalkNext (frame : Frame) (s : State) : Host.Outcome State Fault Refusal :=
  .next (atOnce 0x08 bothPorts parseEmpty (fun p _ => walkNextOwner p) frame s)

/-! ### Schedule authority (R61 to R64) -/

/-- Answer an authority request with the Authority State after it (R61). -/
def authorityReply (status : Status) (s : State) : Reply × State :=
  (.withBody status (u8 (authorityCode s.store.authority)), s)

/-- Write the Authority State. -/
def setAuthority (a : Authority) (s : State) : State := s.setStore { s.store with authority := a }

/-- CLAIM's owner, by the table of R62. -/
def claimOwner (p : Port) (s : State) : Reply × State :=
  match s.store.authority, p with
  | .market, .mp => authorityReply .doneUnchanged s
  | .market, .sp => authorityReply .noAuthority s
  | .openState, .mp => authorityReply .done (setAuthority .market s)
  | .openState, .sp => authorityReply .done (setAuthority .supervisory s)
  | .supervisory, .mp => authorityReply .wrongState s
  | .supervisory, .sp => authorityReply .doneUnchanged s

/-- CLAIM (R62). -/
def execClaim (frame : Frame) (s : State) : Host.Outcome State Fault Refusal :=
  .next (atOnce 0x10 bothPorts parseEmpty (fun p _ => claimOwner p) frame s)

/-- RELEASE's owner (R63). -/
def releaseOwner (p : Port) (s : State) : Reply × State :=
  match p, s.store.authority with
  | .mp, .market => authorityReply .done (setAuthority .openState s)
  | .mp, .openState => authorityReply .doneUnchanged s
  | .mp, .supervisory => authorityReply .wrongState s
  | .sp, .supervisory => authorityReply .done (setAuthority .openState s)
  | .sp, .market => authorityReply .doneUnchanged s
  | .sp, .openState => authorityReply .doneUnchanged s

/-- RELEASE (R63). -/
def execRelease (frame : Frame) (s : State) : Host.Outcome State Fault Refusal :=
  .next (atOnce 0x11 bothPorts parseEmpty (fun p _ => releaseOwner p) frame s)

/-- FORCE's owner (R64). -/
def forceOwner (s : State) : Reply × State :=
  match s.store.authority with
  | .market => authorityReply .doneUnchanged s
  | .openState => authorityReply .done (setAuthority .market s)
  | .supervisory => authorityReply .done (setSticky .authorityForced (setAuthority .market s))

/-- FORCE (R64). -/
def execForce (frame : Frame) (s : State) : Host.Outcome State Fault Refusal :=
  .next (atOnce 0x12 marketOnly parseEmpty (fun _ _ => forceOwner) frame s)

end Sys2Proof.Machine
end

