-- ==== Sys2Proof/Machine/StoreCommands.lean ====
section
/-!
DEFINITION. The commands of the Cavern Account and the Heat Store Unit (chapters 6 to 8): LOOKUP_CAVERN, CALIBRATE,
MASS_INTEGRATION, LOOKUP_TANK, SURVEY_TANK, HEAT_DEPOSIT, HEAT_DRAW, HEAT_CREDIT_GRANT and HEAT_STORE_RESET.
-/
namespace Sys2Proof.Machine

/-! ### The Cavern Account -/

/-- The Last Calibration (R121). -/
def calibrationBody (c : Calibration) : List Octet := u16 c.day ++ u32 c.second ++ u16 c.applied ++ s64 c.correction

/-- LOOKUP_CAVERN's answer (R121). -/
def cavernAnswer (s : State) : Reply :=
  let c := s.cavern
  .withBody .done
    (u32 c.mass ++ s16 c.residue ++ u16 c.pressure ++ u8 (bandCode c.band) ++ flag c.calibrated ++
     optional calibrationBody c.lastCalibration ++
     u16 c.thresholds.lowLimit ++ u16 c.thresholds.lowWarn ++ u16 c.thresholds.highWarn ++
     u16 c.thresholds.highLimit ++ c.characteristic.flatMap fun p => u32 p.1 ++ u16 p.2)

/-- LOOKUP_CAVERN (R121). -/
def execLookupCavern (frame : Frame) (s : State) : Host.Outcome State Fault Refusal :=
  .next (lookup 0x30 parseEmpty (fun _ => cavernAnswer) frame s)

/-- The account after a CALIBRATE that is taken: the calibration, CHARACTERISTIC_RANGE for a clamped pressure, and the
interpolation with the Band (R117, R118). -/
def calibrate (measured : Nat) (s : State) : State :=
  reinterpolate
    (setStickyIf (decide (appliedPressure s.cavern.characteristic measured ≠ measured)) .characteristicRange
      (s.setCavern (calibratedAccount measured s.clock s.cavern)))

/-- The answer of a CALIBRATE, from the account before and after it (R118). -/
def calibrateReply (measured : Nat) (before after : Cavern) : Reply :=
  let applied := appliedPressure before.characteristic measured
  { status := .done
    zero := false
    saturated := decide (applied ≠ measured)
    body := u16 applied ++ u32 after.mass ++ s64 ((after.mass : Int) - (before.mass : Int)) ++ u16 after.pressure ++
      u8 (bandCode after.band) }

/-- CALIBRATE's owner (R118). -/
def calibrateOwner (measured : Nat) (s : State) : Reply × State :=
  if s.dispatcher.mode = .unconfigured then (.bare .wrongState, s)
  else
    let s1 := calibrate measured s
    (calibrateReply measured s.cavern s1.cavern, beginIfDue (triggerPass s1))

/-- CALIBRATE (R118). -/
def execCalibrate (frame : Frame) (s : State) : Host.Outcome State Fault Refusal :=
  .next (atOnce 0x31 supervisoryOnly parseU16 (fun _ => calibrateOwner) frame s)

/-- A report's part for the Cavern Account: flow and elapsed time (R162). -/
def pickMass (t : Train) : Raised → Option (Nat × Nat)
  | .mass k flow elapsed => if k = t then some (flow, elapsed) else none
  | _ => none

/-- MASS_INTEGRATION (R112, R113). -/
def execMassIntegration (t : Train) (s : State) : Host.Outcome State Fault Refusal :=
  .next (handleRaised (pickMass t) (fun part => integrateReport t part.1 part.2) s)

/-! ### The Tanks -/

/-- Position of a Top Standing (R141). -/
def standingPosition : TopStanding → Nat
  | .usable => 0
  | .cold => 1
  | .empty => 2

/-- The Last Underdraw (R141). -/
def underdrawBody (u : Underdraw) : List Octet := u32 u.amount ++ u8 (trainIndex u.train) ++ u32 u.interval

/-- A layer (R141). -/
def layerBody (l : Layer) : List Octet := u16 l.temperature ++ u32 l.energy ++ u8 (originCode l.origin) ++ u32 l.entry

/-- The Tank body (R141). -/
def tankBody (tank : Tank) (s : State) : List Octet :=
  let v := s.tank tank
  u8 (tankIndex tank) ++ flag v.surveyed ++ u32 v.capacity ++ u32 (storedEnergy v.layers) ++
  u32 (reservedEnergy s.trains tank) ++ u32 (freeEnergy s tank) ++ u32 (usableHeat s.loader.heat.tUse v.layers) ++
  optional u16 (topTemperature v.layers) ++ u8 (standingPosition (topStanding s tank)) ++ u32 v.spillTotal ++
  optional underdrawBody v.lastUnderdraw ++ counted layerBody v.layers

/-- LOOKUP_TANK (R141). -/
def execLookupTank (frame : Frame) (s : State) : Host.Outcome State Fault Refusal :=
  .next (lookup 0x38 (parseListed tankAt) (fun tank k => .withBody .done (tankBody tank k)) frame s)

/-- Checks 3 and 4 of R139 on the layers of a survey. -/
def layersSound (tRef : Nat) (layers : List (Nat × Nat)) : Bool :=
  decide (layers.length ≤ 8) && (layers.all fun l => inRange (tRef + 1) 8000 l.1 && decide (1 ≤ l.2)) &&
  notHotter layers

/-- The checks of R139, in order. -/
def surveyRefusal (tank : Tank) (layers : List (Nat × Nat)) (s : State) : Option Status :=
  if s.dispatcher.mode = .unconfigured then some .wrongState
  else if tankInUse s tank then some .tankInUse
  else if layersSound s.loader.heat.tRef layers = false then some .outOfRange
  else if (s.tank tank).capacity < sumOver Prod.snd layers + reservedEnergy s.trains tank then some .outOfRange
  else none

/-- A Tank after a survey: the given layers, founded now by SURVEY (R139). -/
def surveyedTank (interval : Nat) (layers : List (Nat × Nat)) (v : TankState) : TankState :=
  { v with
    layers := layers.map fun l => { temperature := l.1, energy := l.2, origin := .survey, entry := interval }
    surveyed := true }

/-- SURVEY_TANK's owner (R139, R140). -/
def surveyOwner (request : Tank × List (Nat × Nat)) (s : State) : Reply × State :=
  let tank := request.1
  match surveyRefusal tank request.2 s with
  | some status => (.bare status, s)
  | none =>
    let s1 := s.setTank tank (surveyedTank s.interval request.2 (s.tank tank))
    (.withBody .done (tankBody tank s1), beginIfDue (triggerPass (topNotices s s1)))

/-- SURVEY_TANK (R139). -/
def execSurveyTank (frame : Frame) (s : State) : Host.Outcome State Fault Refusal :=
  .next (atOnce 0x39 supervisoryOnly parseSurvey (fun _ => surveyOwner) frame s)

/-- A compressor report's part for the Heat Store Unit: heat, temperature and Tank (R128). -/
def pickDeposit (t : Train) : Raised → Option (Nat × Nat × Tank)
  | .deposit k heat temperature tank => if k = t then some (heat, temperature, tank) else none
  | _ => none

/-- HEAT_DEPOSIT (R128 to R134). -/
def execHeatDeposit (t : Train) (s : State) : Host.Outcome State Fault Refusal :=
  .next (handleRaised (pickDeposit t) (fun part => depositHeat t part.1 part.2.1 part.2.2) s)

/-- An underdraw: the record, HEAT_UNDERDRAW and pass-pending (R136). -/
def recordUnderdraw (t : Train) (tank : Tank) (shortfall : Nat) (s : State) : State :=
  let record : Underdraw := { amount := shortfall, train := t, interval := s.interval }
  triggerPass (setSticky (.heatUnderdraw tank)
    (s.setTank tank { s.tank tank with lastUnderdraw := some record }))

/-- Take a draw (R135, R136). -/
def drawHeat (t : Train) (h : Nat) (tank : Tank) (s : State) : State :=
  if h = 0 ∨ (s.tank tank).surveyed = false then s
  else
    let left := drawLayers h (s.tank tank).layers
    let s1 := s.setTank tank { s.tank tank with layers := left.1 }
    let s2 := if left.2 = 0 then s1 else recordUnderdraw t tank left.2 s1
    beginIfDue (topNotices s s2)

/-- An expander report's part for the Heat Store Unit: heat and Tank (R135). -/
def pickDraw (t : Train) : Raised → Option (Nat × Tank)
  | .draw k heat tank => if k = t then some (heat, tank) else none
  | _ => none

/-- HEAT_DRAW (R135, R136). -/
def execHeatDraw (t : Train) (s : State) : Host.Outcome State Fault Refusal :=
  .next (handleRaised (pickDraw t) (fun part => drawHeat t part.1 part.2) s)

/-- HEAT_CREDIT_GRANT (R150): a compressor in STARTING, RUNNING or UNLOADING gains the grant; in any other State it holds
no Reservation (R149, log 14). -/
def execHeatCreditGrant (t : Train) (request : Nat) (s : State) : Host.Outcome State Fault Refusal :=
  .next (if trainKind t = .compressor ∧ inUse (s.train t).state = true then grantCredit t request s else s)

/-- Every Reservation returned in full (R147). A HEAT_CREDIT_LIMIT shown again since the Dispatcher's own handling of the reset
is left shown: the model's choice (log 41). -/
def returnAll (s : State) : State := s.setTrains (s.trains.map fun c => { c with reservation := 0 })

/-- The raised reset of the Heat Store Unit. -/
def pickHeatReset : Raised → Option Unit
  | .heatReset => some ()
  | _ => none

/-- HEAT_STORE_RESET (R147). -/
def execHeatStoreReset (s : State) : Host.Outcome State Fault Refusal :=
  .next (handleRaised pickHeatReset (fun _ => returnAll) s)

end Sys2Proof.Machine
end

