-- ==== Sys2Proof/Machine/Loading.lean ====
section
/-!
DEFINITION. The operations of the Configuration Loader (chapter 11): the layout and the checks of the items, the taking of
an item by its owner, the read and judging of the Configuration Image, and the end of the load.
-/
namespace Sys2Proof.Machine

/-! ### The items (R204) -/

/-- The identifier of an item, in the Item Validity from 0 (R204: 0x01 to 0x0C). -/
def itemIndex : ItemId → Nat
  | .characteristic => 0
  | .thresholds => 1
  | .rateLimit => 2
  | .plantRates => 3
  | .heatConstants => 4
  | .tankCapacities => 5
  | .creditWindow => 6
  | .gateLead => 7
  | .silenceTimeout => 8
  | .dutyRotations => 9
  | .envelopeTable => 10
  | .bindings => 11

/-- The twelve items in identifier order (R204). -/
def allItems : List ItemId :=
  [.characteristic, .thresholds, .rateLimit, .plantRates, .heatConstants, .tankCapacities, .creditWindow, .gateLead,
   .silenceTimeout, .dutyRotations, .envelopeTable, .bindings]

/-- The item an identifier names; 0x00 and those above 0x0C name none (R204). -/
def itemNamed (identifier : Nat) : Option ItemId := allItems.find? fun i => decide (itemIndex i + 1 = identifier)

/-- The words of an item's body in the image (R204). -/
def itemWords : ItemId → Nat
  | .characteristic => 27
  | .thresholds => 4
  | .rateLimit => 1
  | .plantRates => 4
  | .heatConstants => 5
  | .tankCapacities => 6
  | .creditWindow => 1
  | .gateLead => 1
  | .silenceTimeout => 1
  | .dutyRotations => 24
  | .envelopeTable => 192
  | .bindings => 6

/-- Which item a value belongs to. -/
def ConfigItem.itemId : ConfigItem → ItemId
  | .characteristic _ => .characteristic
  | .thresholds _ => .thresholds
  | .rateLimit _ => .rateLimit
  | .plantRates _ => .plantRates
  | .heatConstants _ => .heatConstants
  | .tankCapacities _ => .tankCapacities
  | .creditWindow _ => .creditWindow
  | .gateLead _ => .gateLead
  | .silenceTimeout _ => .silenceTimeout
  | .dutyRotations _ _ => .dutyRotations
  | .envelopeTable _ _ => .envelopeTable
  | .bindings _ => .bindings

/-- A quantity of two words, most significant first (R204). -/
def twoWords (hi lo : Nat) : Nat := hi * 65536 + lo

/-- The upper octet of a word. -/
def upperOctet (w : Nat) : Nat := w / 256 % 256

/-- The lower octet of a word. -/
def lowerOctet (w : Nat) : Nat := w % 256

/-- The points of the Cavern Characteristic: two words of mass and one of pressure each. -/
def readPoints : List Nat → List (Nat × Nat)
  | hi :: lo :: p :: rest => (twoWords hi lo, p) :: readPoints rest
  | _ => []

/-- Each element of a list read by a listing; none when one of them is not listed. -/
def readAll {α : Type} (listed : Nat → Option α) : List Nat → Option (List α)
  | [] => some []
  | w :: rest =>
    match listed w, readAll listed rest with
    | some a, some as => some (a :: as)
    | _, _ => none

/-- A word that is absent when it is 0xFFFF. -/
def optionalWord (w : Nat) : Option Nat := if w = 65535 then none else some w

/-- A descriptor of eight words (R204); none when an enumeration or flag holds no listed value. -/
def readDescriptor : List Nat → Option Descriptor
  | [head, minLoad, maxLoad, coldMax, ramps, startLimit, heatRate, reserve] =>
    match listedTrainKind (upperOctet head), listedFlag (lowerOctet head), listedFlag reserve with
    | some kind, some valid, some reserveCapable =>
      some
        { kind := kind, valid := valid, minLoad := minLoad, maxLoad := maxLoad, coldMax := optionalWord coldMax,
          rampUp := upperOctet ramps, rampDown := lowerOctet ramps, startLimit := startLimit,
          heatRate := optionalWord heatRate, reserveCapable := reserveCapable }
    | _, _, _ => none
  | _ => none

/-- A list cut into `n` runs of eight words. -/
def rowsOf : Nat → List Nat → List (List Nat)
  | 0, _ => []
  | n + 1, words => words.take 8 :: rowsOf n (words.drop 8)

/-- The descriptors of `n` rows; none when one of them cannot be read. -/
def readDescriptors : List (List Nat) → Option (List Descriptor)
  | [] => some []
  | row :: rest =>
    match readDescriptor row, readDescriptors rest with
    | some d, some ds => some (d :: ds)
    | _, _ => none

/-- A binding of one word: the Tank in the upper octet, the Selector or 0xFF in the lower (R204). -/
def readBinding (w : Nat) : Option (Tank × Option Nat) :=
  match tankAt (upperOctet w) with
  | none => none
  | some tank =>
    if lowerOctet w < 24 then some (tank, some (lowerOctet w))
    else if lowerOctet w = 255 then some (tank, none)
    else none

/-- The bindings of six words. -/
def readBindings (words : List Nat) : Option (PerTrain (Tank × Option Nat)) :=
  match readAll readBinding words with
  | some [k1, k2, k3, x1, x2, x3] => some { k1 := k1, k2 := k2, k3 := k3, x1 := x1, x2 := x2, x3 := x3 }
  | _ => none

/-- The value of an item from its body words, the Envelope Table apart (R204); none when a length is wrong or an
enumeration holds no listed value. -/
def readPlain : ItemId → List Nat → Option ConfigItem
  | .characteristic, words => if words.length = 27 then some (.characteristic (readPoints words)) else none
  | .thresholds, [a, b, c, d] => some (.thresholds { lowLimit := a, lowWarn := b, highWarn := c, highLimit := d })
  | .rateLimit, [a] => some (.rateLimit a)
  | .plantRates, [a, b, c, d] => some (.plantRates { genMass := a, chgMass := b, genHeat := c, chgHeat := d })
  | .heatConstants, [a, b, c, d, e] => some (.heatConstants { tRef := a, tUse := b, tNom := c, band := d, loss := e })
  | .tankCapacities, [a, b, c, d, e, f] =>
    some (.tankCapacities { t1 := twoWords a b, t2 := twoWords c d, t3 := twoWords e f })
  | .creditWindow, [a] => some (.creditWindow a)
  | .gateLead, [a] => some (.gateLead a)
  | .silenceTimeout, [a] => some (.silenceTimeout a)
  | .dutyRotations, words =>
    if words.length = 24 then
      match readAll trainAt (words.take 12), readAll trainAt (words.drop 12) with
      | some compressor, some expander => some (.dutyRotations compressor expander)
      | _, _ => none
    else none
  | .bindings, words => (readBindings words).map ConfigItem.bindings
  | _, _ => none

/-- The value of an item from the image: the Envelope Table gives all 24 rows (R204). -/
def readItem (i : ItemId) (words : List Nat) : Option ConfigItem :=
  match i with
  | .envelopeTable =>
    if words.length = 192 then (readDescriptors (rowsOf 24 words)).map (ConfigItem.envelopeTable 0) else none
  | _ => readPlain i words

/-- Whether a list of points strictly increases in mass and pressure (R204). -/
def pointsIncrease : List (Nat × Nat) → Bool
  | a :: b :: rest => decide (a.1 < b.1) && decide (a.2 < b.2) && pointsIncrease (b :: rest)
  | _ => true

/-- Whether four thresholds strictly increase (R204). -/
def thresholdsIncrease (th : Thresholds) : Bool :=
  decide (th.lowLimit < th.lowWarn) && decide (th.lowWarn < th.highWarn) && decide (th.highWarn < th.highLimit)

/-- Whether increasing thresholds lie within the pressures of a Characteristic (R107, R204). -/
def thresholdsWithin (points : List (Nat × Nat)) (th : Thresholds) : Bool :=
  match points.head?, points.getLast? with
  | some a, some b => decide (a.2 ≤ th.lowLimit) && decide (th.highLimit ≤ b.2)
  | _, _ => false

/-- The checks of an item's row of R204 on its value; the thresholds are judged against a given Characteristic. -/
def itemSound (points : List (Nat × Nat)) : ConfigItem → Bool
  | .characteristic p => pointsIncrease p
  | .thresholds th => thresholdsIncrease th && thresholdsWithin points th
  | .rateLimit v => inRange 1 2000 v
  | .plantRates r =>
    inRange 1 20000 r.genMass && inRange 1 20000 r.chgMass && inRange 1 5000 r.genHeat && inRange 1 5000 r.chgHeat
  | .heatConstants k =>
    decide (k.tRef < k.tUse) && decide (k.tUse < 8000) && decide (k.tRef < k.tNom) && decide (k.tNom ≤ 8000) &&
    inRange 10 500 k.band && decide (k.loss ≤ 50)
  | .tankCapacities c => inRange 1 2000000 c.t1 && inRange 1 2000000 c.t2 && inRange 1 2000000 c.t3
  | .creditWindow w => inRange 60 1800 w
  | .gateLead g => inRange 1 16 g
  | .silenceTimeout ms => inRange 1000 10000 ms
  | .dutyRotations compressor expander =>
    (compressor.all fun t => decide (trainKind t = .compressor)) &&
    expander.all fun t => decide (trainKind t = .expander)
  | .envelopeTable _ rows => rows.all fun d => descriptorKindFits d && descriptorInRange d
  | .bindings _ => true

/-! ### Taking an item (R108, R142, R143, R167, R171, R177, R187) -/

/-- Replace the Configuration Loader's state by a function. -/
def onLoader (f : Loader → Loader) (s : State) : State := s.setLoader (f s.loader)

/-- Whether a train's silence expires under the timeout in force (R167). -/
def silenceExpired (s : State) (t : Train) : Bool :=
  let c := s.train t
  (inUse c.state || decide (c.state = .ready)) &&
  (match c.silence with
   | none => false
   | some ms => decide (s.loader.silenceTimeout ≤ ms))

/-- The expiry of a train's silence: LOST, with a Train Notice (R167). -/
def expireSilence (t : Train) (s : State) : State := raise (.train t) (moveToRest t .lost s)

/-- Judge a train's silence (R167). -/
def judgeSilence (s : State) (t : Train) : State := if silenceExpired s t then expireSilence t s else s

/-- Take a silence timeout: it applies at once to every running timer (R167). -/
def takeSilenceTimeout (ms : Nat) (s : State) : State :=
  allTrains.foldl judgeSilence (onLoader (fun l => { l with silenceTimeout := ms }) s)

/-- Take the Duty Rotations: the phases, both Pointers 0, and an evaluation (R185, R187). -/
def takeRotations (compressor expander : List Train) (s : State) : State :=
  evaluate (onDispatcher (fun d =>
    { d with
      compressorRotation := { phases := compressor, pointer := 0 }
      expanderRotation := { phases := expander, pointer := 0 } }) s)

/-- The row a binding's Selector may select for a train: a Valid row of the train's kind (R177). -/
def bindingRow (s : State) (t : Train) (selector : Option Nat) : Option (Nat × EnvelopeRow) :=
  match selector with
  | none => none
  | some n =>
    match s.tables.envelopes[n]? with
    | none => none
    | some row => if rowFits t row then some (n, row) else none

/-- Take one train's binding (R177): its Tank, and its Selector as SELECT_ENVELOPE would take it, or none. -/
def bindTrain (t : Train) (binding : Tank × Option Nat) (s : State) : State :=
  let s1 := onTrain t (fun c => { c with boundTank := binding.1 }) s
  match bindingRow s1 t binding.2 with
  | some (n, row) => if holdsRow (s1.train t) n row then s1 else takeRow t n row s1
  | none => if (s1.train t).selection.isSome then deselect t s1 else s1

/-- Take the bindings: each train's in turn, then a Train Notice for each train whose selection or Bound Tank changed, and
pass-pending if a selection changed (R177, log 20). -/
def takeBindings (b : PerTrain (Tank × Option Nat)) (s : State) : State :=
  let s1 := allTrains.foldl (fun k t => bindTrain t (b.get t) k) s
  let selectionMoved (t : Train) : Bool := decide ((s.train t).selection ≠ (s1.train t).selection)
  let moved := allTrains.filter fun t => selectionMoved t || decide ((s.train t).boundTank ≠ (s1.train t).boundTank)
  triggerPassIf (allTrains.any selectionMoved) (noticeTrains moved s1)

/-- The taking of an item by its owner, with the trigger of an item the Projector samples (R90, R204). -/
def takeItem (i : ConfigItem) (s : State) : State :=
  match i with
  | .characteristic points => triggerPass (takeCharacteristic points s)
  | .thresholds th => triggerPass (takeThresholds th s)
  | .rateLimit v => triggerPass (onLoader (fun l => { l with rateLimit := v }) s)
  | .plantRates r => triggerPass (onLoader (fun l => { l with rates := r }) s)
  | .heatConstants k => triggerPass (takeHeatConstants k s)
  | .tankCapacities c => triggerPass (takeCapacities c s)
  | .creditWindow w => onLoader (fun l => { l with creditWindow := w }) s
  | .gateLead g => s.setClock { s.clock with gateLead := g }
  | .silenceTimeout ms => takeSilenceTimeout ms s
  | .dutyRotations compressor expander => takeRotations compressor expander s
  | .envelopeTable first rows =>
    s.setTables { s.tables with envelopes := writeRows first rows s.tables.envelopes }
  | .bindings b => takeBindings b s

/-- The Item Validity with an item's flag set. -/
def validityBit (i : ItemId) : BitVec 12 := BitVec.ofNat 12 (2 ^ itemIndex i)

/-- Take an item and set its Item Validity flag (R200). -/
def takeValid (i : ConfigItem) (s : State) : State :=
  onLoader (fun l => { l with validity := l.validity ||| validityBit i.itemId }) (takeItem i s)

/-- Whether every Item Validity flag is set. -/
def allValid (s : State) : Bool := decide (s.loader.validity = 0xFFF#12)

/-- With every item valid the mode moves from UNCONFIGURED to STANDBY (R9); a Pass that is due begins (R84). -/
def configured (s : State) : State :=
  beginIfDue
    (if s.dispatcher.mode = .unconfigured ∧ allValid s = true then onDispatcher (fun d => { d with mode := .standby }) s
     else s)

/-- The item an event hands to its owner, if it does. -/
def handedItem : Raised → Option ConfigItem
  | .configItem i => some i
  | _ => none

/-- Whether some handed item has not been taken. -/
def itemsHanded (s : State) : Bool := s.raised.any fun r => (handedItem r).isSome

/-- The end of the load once every handed item has been taken (R203). -/
def endLoad (s : State) : State :=
  if itemsHanded s then s else configured (onLoader (fun l => { l with loadState := .ended, judged := false }) s)

/-! ### The image (R32, R201, R202) -/

/-- An octet of the configuration memory; a memory that does not answer gives 0xFF (R201, log 18). -/
def octetAt (memory : List Octet) (address : Nat) : Octet := memory[address]?.getD 0xFF

/-- A word of the configuration memory: two octets from address 0 on, the most significant first (R32); a memory that does
not answer gives 0xFFFF (R201). -/
def wordAt (memory : List Octet) (word : Nat) : Nat :=
  (wordOf (octetAt memory (2 * word)) (octetAt memory (2 * word + 1))).toNat

/-- The words from an address on. -/
def wordsFrom (memory : List Octet) (address count : Nat) : List Nat :=
  (List.range count).map fun i => wordAt memory (address + i)

/-- The last word an image may reach (R201). -/
def imageBound : Nat := 4095

/-- The items of an image from an address on, each an identifier and its body, with the address after the last; none when
they would reach beyond word 4,095 (R201). -/
def readItems (memory : List Octet) : Nat → Nat → Option (List (Nat × List Nat) × Nat)
  | 0, address => some ([], address)
  | n + 1, address =>
    let header := wordAt memory address
    let next := address + 1 + lowerOctet header
    if imageBound < next - 1 then none
    else
      match readItems memory n next with
      | none => none
      | some (items, after) =>
        some ((upperOctet header, wordsFrom memory (address + 1) (lowerOctet header)) :: items, after)

/-- The items of an accepted image; none when its signature, its bound or its sum rejects it (R201). -/
def readImage (memory : List Octet) : Option (List (Nat × List Nat)) :=
  if wordAt memory 0 = 0x5A47 then
    match readItems memory (wordAt memory 1) 3 with
    | none => none
    | some (items, after) => if (wordsFrom memory 0 after).sum % 65536 = 0 then some items else none
  else none

/-- An occurrence judged sound (R202). -/
def judgeOccurrence (points : List (Nat × Nat)) (occurrence : Nat × List Nat) : Option ConfigItem :=
  match itemNamed occurrence.1 with
  | none => none
  | some i =>
    match readItem i occurrence.2 with
    | none => none
    | some item => if itemSound points item then some item else none

/-- The last sound occurrence of an item among those judged (R202). -/
def lastSound (i : ItemId) (judged : List (Option ConfigItem)) : Option ConfigItem :=
  (judged.filterMap id).reverse.find? fun item => decide (item.itemId = i)

/-- The Characteristic the load leaves in force: that of the image if it is sound (R202). -/
def loadedPoints (held : List (Nat × Nat)) (occurrences : List (Nat × List Nat)) : List (Nat × Nat) :=
  match lastSound .characteristic (occurrences.map (judgeOccurrence held)) with
  | some (.characteristic points) => points
  | _ => held

/-- The judging of an image (R202): the sound items in identifier order, and whether an occurrence was skipped or unsound
or an item remains untaken. -/
def judgeImage (held : List (Nat × Nat)) (occurrences : List (Nat × List Nat)) : List ConfigItem × Bool :=
  let judged := occurrences.map (judgeOccurrence (loadedPoints held occurrences))
  let sound := allItems.filterMap fun i => lastSound i judged
  (sound, judged.any Option.isNone || decide (sound.length ≠ 12))

/-- The end of the power-on read and judging (R201 to R203): the sound items are handed to their owners; with none handed
the load ends at once. -/
def judgeLoad (memory : List Octet) (s : State) : State :=
  let result :=
    match readImage memory with
    | none => ([], true)
    | some occurrences => judgeImage s.cavern.characteristic occurrences
  endLoad (raiseAll (result.1.map Raised.configItem)
    (setStickyIf result.2 .configItemInvalid (onLoader (fun l => { l with judged := true }) s)))

/-! ### CONFIGURE (R205) -/

/-- Check 3 of R205: how many rows a part of the Envelope Table gives, if its length and First Selector fit. -/
def partRows (words : List Nat) : Option Nat :=
  match words with
  | [] => none
  | first :: rest =>
    let k := rest.length / 8
    if rest.length % 8 = 0 ∧ 1 ≤ k ∧ k ≤ 15 ∧ first ≤ 24 - k then some k else none

/-- Check 3 of R205: the number of words. -/
def lengthFits (i : ItemId) (words : List Nat) : Bool :=
  match i with
  | .envelopeTable => (partRows words).isSome
  | _ => decide (words.length = itemWords i)

/-- Check 4 of R205 on the eight words of one row: Cold Max exactly for an EXPANDER, Heat Rate exactly for a
COMPRESSOR. -/
def rowKindFits : List Nat → Bool
  | [head, _, _, coldMax, _, _, heatRate, _] =>
    (decide (coldMax ≠ 65535) == decide (upperOctet head = 1)) &&
    (decide (heatRate ≠ 65535) == decide (upperOctet head = 0))
  | _ => false

/-- The rows of a part of the Envelope Table. -/
def givenRows (words : List Nat) : List (List Nat) := rowsOf ((words.length - 1) / 8) (words.drop 1)

/-- Check 4 of R205. -/
def kindsFit (i : ItemId) (words : List Nat) : Bool :=
  match i with
  | .envelopeTable => (givenRows words).all rowKindFits
  | _ => true

/-- The value a CONFIGURE gives an item: for the Envelope Table the rows of the part, from its First Selector on. -/
def readConfigure (i : ItemId) (words : List Nat) : Option ConfigItem :=
  match i with
  | .envelopeTable => (readDescriptors (givenRows words)).map (ConfigItem.envelopeTable (words.headD 0))
  | _ => readPlain i words

/-- Check 5 of R205: the checks of R204, and for the Characteristic the thresholds in force within its pressures. -/
def configureSound (s : State) (i : ConfigItem) : Bool :=
  itemSound s.cavern.characteristic i &&
  (match i with
   | .characteristic points => thresholdsWithin points s.cavern.thresholds
   | _ => true)

/-- Check 6 of R205: the in-use condition of R143 or R177, with its refusal. -/
def configureInUse (s : State) : ConfigItem → Option Status
  | .tankCapacities c =>
    if allTanks.any fun t => decide ((s.tank t).capacity ≠ c.get t) && tankInUse s t then some .tankInUse else none
  | .bindings b =>
    if allTrains.any fun t => decide ((s.train t).boundTank ≠ (b.get t).1) && inUse (s.train t).state then
      some .wrongState
    else none
  | _ => none

/-- Whether rows of the Envelope Table hold given descriptors from a Selector on. -/
def rowsHold (rows : List EnvelopeRow) (first : Nat) (given : List Descriptor) : Bool :=
  decide (((rows.drop first).take given.length).map EnvelopeRow.descriptor = given)

/-- The bindings and selectors in force: those of the Train Contexts (log 19). -/
def bindingsInForce (s : State) : PerTrain (Tank × Option Nat) :=
  s.trains.map fun c => (c.boundTank, c.selection.map Selection.selector)

/-- Whether an item equals the value in force (R205). -/
def inForce (s : State) : ConfigItem → Bool
  | .characteristic points => decide (points = s.cavern.characteristic)
  | .thresholds th => decide (th = s.cavern.thresholds)
  | .rateLimit v => decide (v = s.loader.rateLimit)
  | .plantRates r => decide (r = s.loader.rates)
  | .heatConstants k => decide (k = s.loader.heat)
  | .tankCapacities c => decide (c = s.tanks.map TankState.capacity)
  | .creditWindow w => decide (w = s.loader.creditWindow)
  | .gateLead g => decide (g = s.clock.gateLead)
  | .silenceTimeout ms => decide (ms = s.loader.silenceTimeout)
  | .dutyRotations compressor expander =>
    decide (compressor = s.dispatcher.compressorRotation.phases) &&
    decide (expander = s.dispatcher.expanderRotation.phases)
  | .envelopeTable first rows => rowsHold s.tables.envelopes first rows
  | .bindings b => decide (b = bindingsInForce s)

/-- The body of every answer to a CONFIGURE: the Item Validity and the Operating Mode after the request (R205). -/
def configureBody (s : State) : List Octet := u16 s.loader.validity.toNat ++ u8 (modeCode s.dispatcher.mode)

/-- An answer to a CONFIGURE from the state after it. -/
def configureReply (status : Status) (s : State) : Reply × State := (.withBody status (configureBody s), s)

/-- CONFIGURE of a named item (R205): checks 3 to 6, then the taking. -/
def configureItem (i : ItemId) (words : List Nat) (s : State) : Reply × State :=
  if lengthFits i words then
    if kindsFit i words then
      match readConfigure i words with
      | none => configureReply .outOfRange (setSticky .configItemInvalid s)
      | some item =>
        if configureSound s item then
          match configureInUse s item with
          | some status => configureReply status s
          | none =>
            if s.loader.validity &&& validityBit i ≠ 0 ∧ inForce s item = true then configureReply .doneUnchanged s
            else configureReply .done (configured (takeValid item s))
        else configureReply .outOfRange (setSticky .configItemInvalid s)
    else configureReply .wrongKind (setSticky .configItemInvalid s)
  else configureReply .outOfRange s

/-- CONFIGURE (R205, R206): checks 1 and 2, then the item; identifier 0x00 writes nothing. -/
def configureOwner (request : Nat × List Nat) (s : State) : Reply × State :=
  match s.dispatcher.mode with
  | .dispatching => configureReply .wrongState s
  | .stopping => configureReply .wrongState s
  | _ =>
    if request.1 = 0 then
      if request.2 = [] then configureReply .doneUnchanged s else configureReply .outOfRange s
    else
      match itemNamed request.1 with
      | none => configureReply .outOfRange s
      | some i => configureItem i request.2 s

end Sys2Proof.Machine
end

