-- ==== Sys2Proof/Machine/TimeCommands.lean ====
section
/-!
DEFINITION. The commands of power, of the configuration load and of time: POWER_ON, LOAD_END, CONFIG_ITEM_TAKEN,
CONFIGURE, CLOCK_ADVANCE, SET_TIME, and the two timer expiries.
-/
namespace Sys2Proof.Machine

/-! ### Power and the load -/

/-- POWER_ON (R9): every block takes its power-on state; the commands and line events still to come are kept (log 22). -/
def execPowerOn (s : State) : Host.Outcome State Fault Refusal :=
  .next ((State.reset.setArrivals s.arrivals).setPending s.pending)

/-- LOAD_END (R201 to R203): while the load has not been judged, the image is read and judged (R32, log 18). -/
def execLoadEnd (memory : List Octet) (s : State) : Host.Outcome State Fault Refusal :=
  .next (if s.loader.loadState = .loading ∧ s.loader.judged = false then judgeLoad memory s else s)

/-- The handed item a CONFIG_ITEM_TAKEN takes: the bindings only once no Envelope Table item is still handed (R203). -/
def pickItem (raised : List Raised) (i : ItemId) (r : Raised) : Option ConfigItem :=
  match handedItem r with
  | none => none
  | some item =>
    if item.itemId = i ∧
        (i ≠ .bindings ∨ (raised.any fun k => (handedItem k).map ConfigItem.itemId == some .envelopeTable) = false)
    then some item else none

/-- CONFIG_ITEM_TAKEN (R203): the owner takes the item, its Item Validity flag is set, and with the last handed item
taken the load ends. -/
def execConfigItemTaken (i : ItemId) (s : State) : Host.Outcome State Fault Refusal :=
  .next (handleRaised (pickItem s.raised i) (fun item k => endLoad (takeValid item k)) s)

/-- CONFIGURE (R205, R206). -/
def execConfigure (frame : Frame) (s : State) : Host.Outcome State Fault Refusal :=
  .next (atOnce 0x44 supervisoryOnly parseConfigure (fun _ => configureOwner) frame s)

/-! ### The Interval Clock (R1 to R8) -/

/-- The Boundary of a forward Step: Day Start is set when the step reaches or passes over an interval of Interval Index 0
(R3). -/
def forwardBoundary (old new : Nat) : Boundary :=
  { newInterval := new, step := .forward (new - old), dayStart := decide (old / 96 ≠ new / 96) }

/-- The Boundary of a backward move: Day Start is set when the Day Number changes (R3). -/
def rebaseBoundary (old new : Nat) : Boundary :=
  { newInterval := new, step := .rebase, dayStart := decide (old / 96 ≠ new / 96) }

/-- Raise a Boundary for its four blocks (R3). -/
def raiseBoundary (b : Boundary) (s : State) : State :=
  raiseAll
    [.boundary .commitmentStore b, .boundary .horizonProjector b, .boundary .heatStoreUnit b,
     .boundary .dispatcher b] s

/-- The time after an advance of one second: the Clock holds at its last second (R2). -/
def advancedTime (c : Clock) : Clock :=
  if c.second = 86399 then
    if c.day = 65535 then c else { c with day := c.day + 1, second := 0 }
  else { c with second := c.second + 1 }

/-- Advance the Clock by one second, with the Boundary of a new interval (R2, R3). -/
def advanceClock (s : State) : State :=
  let c := advancedTime s.clock
  let s1 := s.setClock c
  if s.interval = s1.interval then s1 else raiseBoundary (forwardBoundary s.interval s1.interval) s1

/-- The passing of the rest of a reference second (log 3). -/
def finishSecond (s : State) : State :=
  let s1 := elapse (1000 - s.clock.sinceAdvance) s
  s1.setClock { s1.clock with sinceAdvance := s1.clock.sinceAdvance - 1000 }

/-- CLOCK_ADVANCE (R2): the rest of the reference second passes, and with the Time-Set Flag set the Clock advances; with
it clear the advance is discarded. -/
def execClockAdvance (s : State) : Host.Outcome State Fault Refusal :=
  let s1 := finishSecond s
  .next (if s1.clock.timeSet then advanceClock s1 else s1)

/-- The body of every answer of SET_TIME's owner: the Clock after the request (R5). -/
def clockBody (s : State) : List Octet :=
  u16 s.clock.day ++ u32 s.clock.second ++ u32 s.interval ++ flag s.clock.timeSet

/-- Whether a SET_TIME that passes R5 is taken (R6, R8). -/
def timeAccepted (s : State) (day second : Nat) : Bool :=
  let new := intervalOf day second
  let change : Int := ((day * 86400 + second : Nat) : Int) - ((s.clock.day * 86400 + s.clock.second : Nat) : Int)
  match s.dispatcher.mode with
  | .dispatching => decide (change.natAbs ≤ 60) && decide (s.interval ≤ new)
  | .stopping => decide (change.natAbs ≤ 60) && decide (s.interval ≤ new)
  | _ => decide (s.interval ≤ new) || s.store.commitments.isEmpty

/-- The Boundary a SET_TIME raises, if it moves into another interval (R6, R8). -/
def raiseMove (old new : Nat) (s : State) : State :=
  if old < new then raiseBoundary (forwardBoundary old new) s
  else if new < old then raiseBoundary (rebaseBoundary old new) s
  else s

/-- Set the time (R2, R5): the part of a second elapsed is discarded and the Time-Set Flag set. -/
def setClockTo (day second : Nat) (s : State) : State :=
  raiseMove s.interval (intervalOf day second)
    (s.setClock { s.clock with day := day, second := second, timeSet := true, sinceAdvance := 0 })

/-- SET_TIME's owner (R5, R6, R8). -/
def setTimeOwner (request : Nat × Nat) (s : State) : Reply × State :=
  if 86399 < request.2 then (.withBody .outOfRange (clockBody s), s)
  else if timeAccepted s request.1 request.2 then
    let unchanged := s.clock.timeSet && decide ((request.1, request.2) = (s.clock.day, s.clock.second))
    let s1 := setClockTo request.1 request.2 s
    (.withBody (if unchanged then .doneUnchanged else .done) (clockBody s1), s1)
  else (.withBody .wrongState (clockBody s), s)

/-- SET_TIME (R5 to R8). -/
def execSetTime (frame : Frame) (s : State) : Host.Outcome State Fault Refusal :=
  .next (atOnce 0x40 supervisoryOnly parseTime (fun _ => setTimeOwner) frame s)

/-! ### The train timers (R166, R167) -/

/-- The milliseconds until a train's start limit expires, while it runs (R166). -/
def startDue (s : State) (t : Train) : Option Nat :=
  let c := s.train t
  match c.state, c.selection, c.startTimer with
  | .starting, some sel, some ms => some (sel.descriptor.startLimit * 1000 + 1 - ms)
  | _, _, _ => none

/-- START_LIMIT_EXPIRY (R166): the time until the limit passes, then the expiry with its Train Notice; of a train whose
start limit does not run there is no such event (log 3). -/
def execStartLimitExpiry (t : Train) (s : State) : Host.Outcome State Fault Refusal :=
  .next
    (match startDue s t with
     | none => s
     | some ms => beginIfDue (raise (.train t) (expireStart t (elapse ms s))))

/-- The milliseconds until a train's silence expires, while it runs (R167). -/
def silenceDue (s : State) (t : Train) : Option Nat :=
  let c := s.train t
  if inUse c.state ∨ c.state = .ready then c.silence.map fun ms => s.loader.silenceTimeout - ms else none

/-- SILENCE_TIMEOUT (R167): the time until the silence timeout passes, then the expiry with its Train Notice; of a train
whose silence does not expire there is no such event (log 3). -/
def execSilenceTimeout (t : Train) (s : State) : Host.Outcome State Fault Refusal :=
  .next
    (match silenceDue s t with
     | none => s
     | some ms => beginIfDue (expireSilence t (elapse ms s)))

end Sys2Proof.Machine
end

