-- ==== Sys2Proof/Machine/TrainCommands.lean ====
section
/-!
DEFINITION. The commands of the Train Unit (chapter 9): the outage requests, the lookups, the envelope requests, BIND_TANK,
RESTORE_TRAIN, TRAIN_REPORT and TRAIN_UNIT_RESET.
-/
namespace Sys2Proof.Machine

/-! ### The Outage Table (R179, R180) -/

/-- ENTER_OUTAGE's arrival checks (R179). -/
def outageArrival (q : OutageRequest) (s : State) : Option Status :=
  if s.dispatcher.mode = .unconfigured then some .wrongState
  else if q.derateMax.isSome ≠ decide (q.kind = .derate) then some .wrongKind
  else if q.last < q.first ∨ derateInRange q.train q.derateMax = false then some .outOfRange
  else outageRefusal q s

/-- ENTER_OUTAGE's owner: a request that passes is admitted to the Amendment Queue (R179). -/
def enterOutageOwner (p : Port) (tag : Octet) (q : OutageRequest) (s : State) : State :=
  match outageArrival q s with
  | some status => respond p tag 0x20 (.bare status) s
  | none => admitAmendment p tag 0x20 (.enterOutage q) s

/-- ENTER_OUTAGE (R179). -/
def execEnterOutage (frame : Frame) (s : State) : Host.Outcome State Fault Refusal :=
  .next (takeRequest 0x20 supervisoryOnly parseOutage enterOutageOwner frame s)

/-- The held Outage Record with a Handle. -/
def findOutage (h : Nat) (outages : List Outage) : Option Outage := outages.find? fun o => decide (o.handle = h)

/-- RETIRE_OUTAGE's owner (R180). -/
def retireOutageOwner (p : Port) (tag : Octet) (h : Nat) (s : State) : State :=
  if s.dispatcher.mode = .unconfigured then respond p tag 0x21 (.bare .wrongState) s
  else
    match findOutage h s.tables.outages with
    | none => respond p tag 0x21 (.bare .notFound) s
    | some _ => admitAmendment p tag 0x21 (.retireOutage h) s

/-- RETIRE_OUTAGE (R180). -/
def execRetireOutage (frame : Frame) (s : State) : Host.Outcome State Fault Refusal :=
  .next (takeRequest 0x21 supervisoryOnly parseU8 retireOutageOwner frame s)

/-- The record a LOOKUP_OUTAGE names: with NEXT, the one with the smallest Handle above the one given (R180). -/
def searchOutage (search : Bool × Nat) (outages : List Outage) : Option Outage :=
  if search.1 then outages.find? fun o => decide (search.2 < o.handle) else findOutage search.2 outages

/-- LOOKUP_OUTAGE's answer (R180). -/
def outageAnswer (search : Bool × Nat) (s : State) : Reply :=
  match searchOutage search s.tables.outages with
  | none => .bare .notFound
  | some o => .withBody .done (outageBody o)

/-- LOOKUP_OUTAGE (R180). -/
def execLookupOutage (frame : Frame) (s : State) : Host.Outcome State Fault Refusal :=
  .next (lookup 0x22 parseSearch outageAnswer frame s)

/-! ### Lookups (R170, R171) -/

/-- The Last Report in the Train body (R170, log 7). -/
def reportBody (r : Report) : List Octet :=
  u8 (reportStatusCode r.status) ++ u16 r.power ++ u16 r.massFlow ++ u32 r.heat ++ u16 r.temperature ++
  u16 r.elapsed

/-- The Train body (R170). -/
def trainBody (t : Train) (s : State) : List Octet :=
  let c := s.train t
  u8 (trainIndex t) ++ u8 (trainStateCode c.state) ++
  optional u8 (c.selection.map Selection.selector) ++
  optional (fun sel => descriptorBody sel.descriptor sel.generation) c.selection ++
  optional u16 (c.selection.map Selection.generation) ++
  flag (envelopeStale s t) ++ u8 (tankIndex c.boundTank) ++ optional reportBody c.lastReport ++
  u16 c.setpoint ++ u16 c.share ++ u32 c.reservation ++
  optional (fun at_ => u32 at_.1 ++ u32 at_.2) c.runStart ++
  optional u32 c.silence ++ optional u32 c.startTimer ++ u16 (currentLimit s t)

/-- LOOKUP_TRAIN (R170). -/
def execLookupTrain (frame : Frame) (s : State) : Host.Outcome State Fault Refusal :=
  .next (lookup 0x28 (parseListed trainAt) (fun t k => .withBody .done (trainBody t k)) frame s)

/-- The body of a row of the Envelope Table (R171). -/
def rowOctets (row : EnvelopeRow) : List Octet := descriptorBody row.descriptor row.generation

/-- LOOKUP_ENVELOPE's answer (R171). -/
def envelopeAnswer (n : Nat) (s : State) : Reply :=
  match s.tables.envelopes[n]? with
  | none => .bare .outOfRange
  | some row => .withBody .done (rowOctets row)

/-- LOOKUP_ENVELOPE (R171). -/
def execLookupEnvelope (frame : Frame) (s : State) : Host.Outcome State Fault Refusal :=
  .next (lookup 0x29 parseU8 envelopeAnswer frame s)

/-! ### Envelopes (R172 to R174) -/

/-- SELECT_ENVELOPE's owner (R172). -/
def selectOwner (request : Train × Nat) (s : State) : Reply × State :=
  let t := request.1
  match s.tables.envelopes[request.2]? with
  | none => (.bare .outOfRange, s)
  | some row =>
    if row.descriptor.valid = false then (.bare .wrongState, s)
    else if row.descriptor.kind ≠ trainKind t then (.bare .wrongKind, s)
    else if holdsRow (s.train t) request.2 row then (.withBody .doneUnchanged (trainBody t s), s)
    else
      let s1 := takeRow t request.2 row s
      (.withBody .done (trainBody t s1), beginIfDue (triggerPass (raise (.train t) s1)))

/-- SELECT_ENVELOPE (R172). -/
def execSelectEnvelope (frame : Frame) (s : State) : Host.Outcome State Fault Refusal :=
  .next (atOnce 0x2A supervisoryOnly parseSelect (fun _ => selectOwner) frame s)

/-- The outcome of a RELOAD_ENVELOPES for one context (R174). -/
inductive ReloadOutcome where
  | unselected | current | reloaded | deselected
  deriving DecidableEq, Repr

/-- Position of an outcome (R174, log 7). -/
def outcomeCode : ReloadOutcome → Nat
  | .unselected => 0
  | .current => 1
  | .reloaded => 2
  | .deselected => 3

/-- The outcome a context has coming (R174). Where the Generations agree and the row yet is not Valid or of the other Kind, as
a wrap of the Generation can bring about, the outcome is CURRENT: the model's choice (log 39). -/
def reloadOutcome (s : State) (t : Train) : ReloadOutcome :=
  match (s.train t).selection with
  | none => .unselected
  | some sel =>
    match s.tables.envelopes[sel.selector]? with
    | none => .deselected
    | some row =>
      if row.generation = sel.generation then .current else if rowFits t row then .reloaded else .deselected

/-- The effect of an outcome on a context (R174, R175). -/
def reloadTrain (s : State) (t : Train) : State :=
  match reloadOutcome s t, (s.train t).selection with
  | .reloaded, some sel =>
    (match s.tables.envelopes[sel.selector]? with
     | none => s
     | some row => takeRow t sel.selector row s)
  | .deselected, _ => deselect t s
  | _, _ => s

/-- Whether an outcome changes its context. -/
def reloadChanges (s : State) (t : Train) : Bool :=
  match reloadOutcome s t with
  | .reloaded => true
  | .deselected => true
  | _ => false

/-- RELOAD_ENVELOPES' owner (R174). -/
def reloadOwner (s : State) : Reply × State :=
  let outcomes := counted (fun t => u8 (outcomeCode (reloadOutcome s t))) allTrains
  let changed := allTrains.filter (reloadChanges s)
  if changed = [] then (.withBody .doneUnchanged outcomes, s)
  else (.withBody .done outcomes, beginIfDue (triggerPass (noticeTrains changed (allTrains.foldl reloadTrain s))))

/-- RELOAD_ENVELOPES (R174). -/
def execReloadEnvelopes (frame : Frame) (s : State) : Host.Outcome State Fault Refusal :=
  .next (atOnce 0x2B supervisoryOnly parseEmpty (fun _ _ => reloadOwner) frame s)

/-- AMEND_ENVELOPE's owner (R173). -/
def amendEnvelopeOwner (request : Nat × Descriptor) (s : State) : Reply × State :=
  let d := request.2
  match s.tables.envelopes[request.1]? with
  | none => (.bare .outOfRange, s)
  | some row =>
    if descriptorKindFits d = false then (.bare .wrongKind, s)
    else if descriptorInRange d = false then (.bare .outOfRange, s)
    else if row.descriptor = d then (.withBody .doneUnchanged (rowOctets row), s)
    else
      (.withBody .done (rowOctets (row.write d)),
       beginIfDue (triggerPass (s.setTables
         { s.tables with envelopes := writeRows request.1 [d] s.tables.envelopes })))

/-- AMEND_ENVELOPE (R173). -/
def execAmendEnvelope (frame : Frame) (s : State) : Host.Outcome State Fault Refusal :=
  .next (atOnce 0x2C supervisoryOnly parseAmendEnvelope (fun _ => amendEnvelopeOwner) frame s)

/-! ### Binding and restoring (R168, R176) -/

/-- BIND_TANK's owner (R176). -/
def bindOwner (request : Train × Tank) (s : State) : Reply × State :=
  let t := request.1
  if inUse (s.train t).state then (.bare .wrongState, s)
  else if (s.train t).boundTank = request.2 then (.withBody .doneUnchanged (trainBody t s), s)
  else
    let s1 := onTrain t (fun c => { c with boundTank := request.2 }) s
    (.withBody .done (trainBody t s1), raise (.train t) s1)

/-- BIND_TANK (R176). -/
def execBindTank (frame : Frame) (s : State) : Host.Outcome State Fault Refusal :=
  .next (atOnce 0x2D supervisoryOnly parseBind (fun _ => bindOwner) frame s)

/-- RESTORE_TRAIN's owner (R168). -/
def restoreOwner (t : Train) (s : State) : Reply × State :=
  if (s.train t).state = .tripped then
    let s1 := moveToRest t .offline s
    (.withBody .done (trainBody t s1), beginIfDue (raise (.train t) s1))
  else (.bare .wrongState, s)

/-- RESTORE_TRAIN (R168). -/
def execRestoreTrain (frame : Frame) (s : State) : Host.Outcome State Fault Refusal :=
  .next (atOnce 0x2E supervisoryOnly (parseListed trainAt) (fun _ => restoreOwner) frame s)

/-! ### Train Reports (R161 to R164) -/

/-- The end of the reception of a report frame: the link's intake holds no partial report (R27). -/
def endReport (line : Train) (s : State) : State :=
  s.setTrainLinks (s.trainLinks.set line { s.trainLinks.get line with intake := none })

/-- The parts of a taken report on their way to its neighbours (R162): the Cavern Account takes the flow and elapsed time
as carried, the Heat Store Unit the heat and temperature with the Bound Tank, the Dispatcher the status, the power and the
elapsed time, and the State the report left the train in. -/
def reportParts (line : Train) (raw : ReportFrame) (r : Report) (c : TrainContext) : List Raised :=
  [.mass line raw.massFlow.toNat raw.elapsed.toNat,
   (match trainKind line with
    | .compressor => .deposit line r.heat r.temperature c.boundTank
    | .expander => .draw line r.heat c.boundTank),
   .formation line { status := r.status, power := r.power, elapsed := r.elapsed, left := c.state }]

/-- Take a report (R161 to R164): clamp and record it, restart the Silence Timer, move the State, hand the parts on. -/
def takeReport (line : Train) (raw : ReportFrame) (status : ReportedStatus) (s : State) : State :=
  let r := clampReport line status raw
  let s1 := setStickyIf (reportBeyond line raw) .reportClamped s
  let s2 := onTrain line (fun c => { c with lastReport := some r, silence := some 0 }) s1
  let s3 := applyMove line r.power (reportMove status (s2.train line).state) s2
  beginIfDue (raiseAll (reportParts line raw r (s3.train line)) s3)

/-- A report judged against its line: another train's number, or a status above 5, discards it (R161). -/
def judgeReport (line : Train) (raw : ReportFrame) (s : State) : State :=
  if raw.number.toNat = trainIndex line then
    match listedReportStatus raw.status.toNat with
    | none => s
    | some status => takeReport line raw status s
  else s

/-- TRAIN_REPORT (R27, R161, R162). -/
def execTrainReport (line : Train) (report : ReportFrame) (s : State) : Host.Outcome State Fault Refusal :=
  .next (judgeReport line report (endReport line s))

/-! ### Reset (R169) -/

/-- The raised reset of the Train Unit. -/
def pickTrainReset : Raised → Option Unit
  | .trainReset => some ()
  | _ => none

/-- TRAIN_UNIT_RESET (R169). -/
def execTrainUnitReset (s : State) : Host.Outcome State Fault Refusal :=
  .next (handleRaised pickTrainReset (fun _ => resetTrains) s)

end Sys2Proof.Machine
end

