-- ==== Sys2Proof/Machine/Dispatch.lean ====
section
/-!
DEFINITION. One arm for each command of spec/opcode_table.json, in the table's order: a direct call of its meaning.
-/
namespace Sys2Proof.Machine

/-- The effect of a command on everything but the queue. -/
def exec (i : Instr) (s : State) : Host.Outcome State Fault Refusal :=
  match i with
  | .powerOn => Sys2Proof.Machine.execPowerOn s
  | .loadEnd memory => Sys2Proof.Machine.execLoadEnd memory s
  | .configItemTaken item => Sys2Proof.Machine.execConfigItemTaken item s
  | .clockAdvance => Sys2Proof.Machine.execClockAdvance s
  | .commitmentBoundary => Sys2Proof.Machine.execCommitmentBoundary s
  | .horizonShift => Sys2Proof.Machine.execHorizonShift s
  | .standingLoss => Sys2Proof.Machine.execStandingLoss s
  | .intervalClose => Sys2Proof.Machine.execIntervalClose s
  | .imbalanceDelivery => Sys2Proof.Machine.execImbalanceDelivery s
  | .enter frame => Sys2Proof.Machine.execEnter frame s
  | .amend frame => Sys2Proof.Machine.execAmend frame s
  | .amendPreview frame => Sys2Proof.Machine.execAmendPreview frame s
  | .confirm frame => Sys2Proof.Machine.execConfirm frame s
  | .retire frame => Sys2Proof.Machine.execRetire frame s
  | .deploy frame => Sys2Proof.Machine.execDeploy frame s
  | .lookupCommitment frame => Sys2Proof.Machine.execLookupCommitment frame s
  | .walkFirst frame => Sys2Proof.Machine.execWalkFirst frame s
  | .walkNext frame => Sys2Proof.Machine.execWalkNext frame s
  | .claim frame => Sys2Proof.Machine.execClaim frame s
  | .release frame => Sys2Proof.Machine.execRelease frame s
  | .force frame => Sys2Proof.Machine.execForce frame s
  | .lookupRow frame => Sys2Proof.Machine.execLookupRow frame s
  | .lookupHorizon frame => Sys2Proof.Machine.execLookupHorizon frame s
  | .enterOutage frame => Sys2Proof.Machine.execEnterOutage frame s
  | .retireOutage frame => Sys2Proof.Machine.execRetireOutage frame s
  | .lookupOutage frame => Sys2Proof.Machine.execLookupOutage frame s
  | .lookupTrain frame => Sys2Proof.Machine.execLookupTrain frame s
  | .lookupEnvelope frame => Sys2Proof.Machine.execLookupEnvelope frame s
  | .selectEnvelope frame => Sys2Proof.Machine.execSelectEnvelope frame s
  | .reloadEnvelopes frame => Sys2Proof.Machine.execReloadEnvelopes frame s
  | .amendEnvelope frame => Sys2Proof.Machine.execAmendEnvelope frame s
  | .bindTank frame => Sys2Proof.Machine.execBindTank frame s
  | .restoreTrain frame => Sys2Proof.Machine.execRestoreTrain frame s
  | .lookupCavern frame => Sys2Proof.Machine.execLookupCavern frame s
  | .calibrate frame => Sys2Proof.Machine.execCalibrate frame s
  | .lookupTank frame => Sys2Proof.Machine.execLookupTank frame s
  | .surveyTank frame => Sys2Proof.Machine.execSurveyTank frame s
  | .setTime frame => Sys2Proof.Machine.execSetTime frame s
  | .startDispatch frame => Sys2Proof.Machine.execStartDispatch frame s
  | .stopDispatch frame => Sys2Proof.Machine.execStopDispatch frame s
  | .resetDispatch frame => Sys2Proof.Machine.execResetDispatch frame s
  | .commitmentStoreReset => Sys2Proof.Machine.execCommitmentStoreReset s
  | .projectorReset => Sys2Proof.Machine.execProjectorReset s
  | .heatStoreReset => Sys2Proof.Machine.execHeatStoreReset s
  | .trainUnitReset => Sys2Proof.Machine.execTrainUnitReset s
  | .configure frame => Sys2Proof.Machine.execConfigure frame s
  | .lookupPlant frame => Sys2Proof.Machine.execLookupPlant frame s
  | .lookupConditions frame => Sys2Proof.Machine.execLookupConditions frame s
  | .clearConditions frame => Sys2Proof.Machine.execClearConditions frame s
  | .setAlertMask frame => Sys2Proof.Machine.execSetAlertMask frame s
  | .unknownCode code frame => Sys2Proof.Machine.execUnknownCode code frame s
  | .badCheckFrame via octets => Sys2Proof.Machine.execBadCheckFrame via octets s
  | .taintedFrame octets => Sys2Proof.Machine.execTaintedFrame octets s
  | .linkReset port => Sys2Proof.Machine.execLinkReset port s
  | .spIdleTransaction octets => Sys2Proof.Machine.execSpIdleTransaction octets s
  | .responseSent => Sys2Proof.Machine.execResponseSent s
  | .passCompletion => Sys2Proof.Machine.execPassCompletion s
  | .trainReport line report => Sys2Proof.Machine.execTrainReport line report s
  | .trainFrameDiscarded line octets framingError => Sys2Proof.Machine.execTrainFrameDiscarded line octets framingError s
  | .massIntegration train => Sys2Proof.Machine.execMassIntegration train s
  | .heatDeposit train => Sys2Proof.Machine.execHeatDeposit train s
  | .heatDraw train => Sys2Proof.Machine.execHeatDraw train s
  | .heatCreditGrant train request => Sys2Proof.Machine.execHeatCreditGrant train request s
  | .setpointFormation train => Sys2Proof.Machine.execSetpointFormation train s
  | .activeFirmNotice => Sys2Proof.Machine.execActiveFirmNotice s
  | .bandNotice => Sys2Proof.Machine.execBandNotice s
  | .topNotice tank => Sys2Proof.Machine.execTopNotice tank s
  | .trainNotice train => Sys2Proof.Machine.execTrainNotice train s
  | .startLimitExpiry train => Sys2Proof.Machine.execStartLimitExpiry train s
  | .silenceTimeout train => Sys2Proof.Machine.execSilenceTimeout train s
  | .orderSent line => Sys2Proof.Machine.execOrderSent line s
  | .shortLengthFrame length => Sys2Proof.Machine.execShortLengthFrame length s
  | .trainLinkBreak line => Sys2Proof.Machine.execTrainLinkBreak line s

end Sys2Proof.Machine
end

