-- ==== Sys2Proof/Machine/Idle.lean ====
section
/-!
DEFINITION. What the Controller does by itself while no command waits (log 1): the oldest raised event is taken by its block,
else a timer that is due expires, else a Pass whose rows are all evaluated completes, else a millisecond passes.
-/
namespace Sys2Proof.Machine

/-- The command that takes a raised event (log 2). -/
def Raised.command : Raised → Instr
  | .boundary .commitmentStore _ => .commitmentBoundary
  | .boundary .horizonProjector _ => .horizonShift
  | .boundary .heatStoreUnit _ => .standingLoss
  | .boundary .dispatcher _ => .intervalClose
  | .imbalance _ _ => .imbalanceDelivery
  | .mass t _ _ => .massIntegration t
  | .deposit t _ _ _ => .heatDeposit t
  | .draw t _ _ => .heatDraw t
  | .formation t _ => .setpointFormation t
  | .activeFirm => .activeFirmNotice
  | .band => .bandNotice
  | .top tank => .topNotice tank
  | .train t => .trainNotice t
  | .storeReset => .commitmentStoreReset
  | .projectorReset => .projectorReset
  | .heatReset => .heatStoreReset
  | .trainReset => .trainUnitReset
  | .configItem item => .configItemTaken item.itemId

/-- The first expiry that is due, start limits before silence, in the trains' order (R166, R167). -/
def dueExpiry (s : State) : Option Instr :=
  match allTrains.find? (startExpired s) with
  | some t => some (.startLimitExpiry t)
  | none => (allTrains.find? (silenceExpired s)).map Instr.silenceTimeout

/-- The completion of a Pass in flight whose Working Copy holds every row (R88, log 23). -/
def dueCompletion (s : State) : Option Instr :=
  if s.projector.passState ≠ .idle ∧ s.projector.workingCopy.length = 192 then some .passCompletion else none

/-- The command the Controller takes by itself, if one is at hand (log 1). -/
def ownCommand (s : State) : Option Instr :=
  match s.raised with
  | r :: _ => some r.command
  | [] => (dueExpiry s).or (dueCompletion s)

/-- The Pass in flight evaluates its next row (log 23). -/
def evaluateRow (s : State) : State :=
  match s.projector.start with
  | none => s
  | some st =>
    s.setProjector
      { s.projector with workingCopy := extendedCopy st s.projector.trial s.projector.workingCopy }

/-- One millisecond of the Controller's own time (log 1). -/
def idleTick (s : State) : State := evaluateRow (elapse 1 s)

end Sys2Proof.Machine
end

