-- ==== Sys2Proof/Machine/Intake.lean ====
section
/-!
DEFINITION. The intakes of the links (R14, R15, R27): what arrives on a receive line or in a Supervisory Port transaction is
gathered into frames, octet by octet, and a frame, a break or the end of a transaction becomes the command it stands for;
and what a Supervisory Port transaction shifts out, octet against octet.
-/
namespace Sys2Proof.Machine

/-- A partial frame with one more character (R14, R27). -/
def PartialFrame.take (p : PartialFrame) (c : Character) : PartialFrame :=
  { octets := p.octets ++ [c.octet], tainted := p.tainted || c.framingError }

/-- A partial frame begun by its start octet (log 4). -/
def PartialFrame.started (c : Character) : PartialFrame := { octets := [c.octet], tainted := c.framingError }

/-- What the Market Port intake makes of a partial frame that has grown by a character (R14): a length octet below 3 ends
it, and so does the last octet of its length. -/
def marketFrame (p : PartialFrame) : Option PartialFrame × Option Instr :=
  match p.octets with
  | _ :: len :: rest =>
    if len.toNat < 3 then (none, some (.shortLengthFrame len))
    else if rest.length < len.toNat then (some p, none)
    else (none, some (if p.tainted then .taintedFrame p.octets else frameCommand .mp p.octets))
  | _ => (some p, none)

/-- The Market Port intake takes a character: it hunts for 0xA5 while it holds no partial frame (R14). -/
def marketIntake (c : Character) (held : Option PartialFrame) : Option PartialFrame × Option Instr :=
  match held with
  | none => if c.octet = 0xA5 then (some (PartialFrame.started c), none) else (none, none)
  | some p => marketFrame (p.take c)

/-- What a train link's intake makes of a partial report that has grown by a character: it is judged when the 13 octets
after its start octet have come (R27, log 4). -/
def reportFrame (line : Train) (p : PartialFrame) : Option PartialFrame × Option Instr :=
  if p.octets.length < 14 then (some p, none)
  else (none, some (reportCommand line (p.octets.drop 1) p.tainted))

/-- A train link's intake takes a character: it hunts for 0xC3 while it holds no partial report (R27). -/
def trainIntake (line : Train) (c : Character) (held : Option PartialFrame) : Option PartialFrame × Option Instr :=
  match held with
  | none => if c.octet = 0xC3 then (some (PartialFrame.started c), none) else (none, none)
  | some p => reportFrame line (p.take c)

/-- The octets of a Supervisory Port transaction so far. -/
def clockedOctets (held : Option PartialFrame) : List Octet := (held.map PartialFrame.octets).getD []

/-- A Supervisory Port transaction at its first octet: it shifts out the oldest response, if there is one (R15, log 36). -/
def Transaction.begun (s : State) : Transaction := { response := s.sp.responses.head?, sent := [] }

/-- The octet a transaction shifts out next: the response's frame from its first octet on, then 0x00; 0x00 alone where the
queue was empty (R15). -/
def Transaction.next (tr : Transaction) : Octet :=
  (((tr.response.map Response.frame).getD [])[tr.sent.length]?).getD 0x00

/-- A transaction with one more octet clocked: one octet moves in each direction (R15). -/
def Transaction.clock (tr : Transaction) : Transaction := { tr with sent := tr.sent ++ [tr.next] }

/-- An octet is clocked on the Supervisory Port: the transaction in progress, or one begun by this octet, shifts out its
next octet (R15). -/
def clockTransaction (s : State) : State :=
  s.setTransaction (some (s.transaction.getD (Transaction.begun s)).clock)

/-- Put the command that an arrival has come to at the young end of the queue. -/
def deliver (command : Option Instr) (s : State) : State :=
  match command with
  | none => s
  | some c => s.setPending (s.pending ++ [c])

/-- Replace the Market Port's intake. -/
def setMarketIntake (held : Option PartialFrame) (s : State) : State := s.setMp { s.mp with intake := held }

/-- Replace the Supervisory Port's intake. -/
def setSupervisoryIntake (held : Option PartialFrame) (s : State) : State := s.setSp { s.sp with intake := held }

/-- Replace a train link's intake. -/
def setTrainIntake (line : Train) (held : Option PartialFrame) (s : State) : State :=
  s.setTrainLinks (s.trainLinks.set line { s.trainLinks.get line with intake := held })

/-- The intakes take an arrival (R14, R15, R27): characters and octets grow a partial frame, a break on the Market Port is a
Link Reset, and a break on a train link a TRAIN_LINK_BREAK. An octet of a Supervisory Port transaction moves one octet out
as well, and the release of chip-select becomes the command of the octets shifted in, which ends the transaction. -/
def takeArrival (a : Arrival) (s : State) : State :=
  match a with
  | .marketCharacter c =>
    let taken := marketIntake c s.mp.intake
    deliver taken.2 (setMarketIntake taken.1 s)
  | .marketBreak => deliver (some (.linkReset .mp)) s
  | .supervisoryOctet octet =>
    setSupervisoryIntake (some { octets := clockedOctets s.sp.intake ++ [octet], tainted := false })
      (clockTransaction s)
  | .supervisoryRelease =>
    deliver (some (transactionCommand (clockedOctets s.sp.intake))) (setSupervisoryIntake none s)
  | .trainCharacter line c =>
    let taken := trainIntake line c (s.trainLinks.get line).intake
    deliver taken.2 (setTrainIntake line taken.1 s)
  | .trainBreak line => deliver (some (.trainLinkBreak line)) s

end Sys2Proof.Machine
end

