-- ==== Sys2Proof/Machine/Step.lean ====
section
/-!
DEFINITION. One step: the command at the front of the queue, or, on an empty queue, what the Controller does by itself.
-/
namespace Sys2Proof.Machine

/-- One step. The front command is executed with the queue's rest; on an empty queue the intakes take the oldest line event,
and with none the Controller goes on by itself (log 1). -/
def step (s : State) : Host.Outcome State Fault Refusal :=
  match s.pending with
  | c :: rest => exec c (s.setPending rest)
  | [] =>
    match s.arrivals with
    | a :: rest => .next (takeArrival a (s.setArrivals rest))
    | [] =>
      match ownCommand s with
      | some c => exec c s
      | none => .next (idleTick s)

/-- The state with the command that a word spells at the front of its queue; no word spells one (log 24). -/
def State.withFetchWord (s : State) (nbits w : Nat) : State :=
  match Sys2Proof.decodeTableWord nbits w with
  | none => s
  | some c => s.setPending (c :: s.pending)

end Sys2Proof.Machine
end

