-- ==== Sys2Proof/Safety.lean ====
section
/-!
DEFINITION. The terms in which the statements about the Controller are made: which request a command carries and when it is
admitted, the answers it gives, how a raised event is taken, the octets of request bodies, and the invariants of a safe
run.
-/
namespace Sys2Proof.Machine

/-! ### Requests and their answers -/

/-- What the Link Unit sees of a request: its code and ports by the catalogue (R22), its frame, and what is broken in its
body, if anything is (R16). -/
structure Request where
  code : Octet
  ports : Port → Bool
  frame : Frame
  fault : Option BodyFault

/-- What a scan of a request's body finds broken (R16). -/
def bodyFault {α : Type} (fields : Parser α) (f : Frame) : Option BodyFault :=
  match parseBody fields f.body with
  | .error fault => some fault
  | .ok _ => none

/-- The request a command carries, by the catalogue of R22. -/
def requestOf (c : Instr) : Option Request :=
  match c with
  | .powerOn => none
  | .loadEnd _ => none
  | .configItemTaken _ => none
  | .clockAdvance => none
  | .commitmentBoundary => none
  | .horizonShift => none
  | .standingLoss => none
  | .intervalClose => none
  | .imbalanceDelivery => none
  | .enter f => some { code := 0x01, ports := bothPorts, frame := f, fault := bodyFault parseEnter f }
  | .amend f => some { code := 0x02, ports := bothPorts, frame := f, fault := bodyFault parseAmend f }
  | .amendPreview f => some { code := 0x02, ports := bothPorts, frame := f, fault := bodyFault parseAmend f }
  | .confirm f => some { code := 0x03, ports := bothPorts, frame := f, fault := bodyFault parseU16 f }
  | .retire f => some { code := 0x04, ports := bothPorts, frame := f, fault := bodyFault parseU16 f }
  | .deploy f => some { code := 0x05, ports := marketOnly, frame := f, fault := bodyFault parseDeploy f }
  | .lookupCommitment f => some { code := 0x06, ports := bothPorts, frame := f, fault := bodyFault parseKey f }
  | .walkFirst f => some { code := 0x07, ports := bothPorts, frame := f, fault := bodyFault parseU32 f }
  | .walkNext f => some { code := 0x08, ports := bothPorts, frame := f, fault := bodyFault parseEmpty f }
  | .claim f => some { code := 0x10, ports := bothPorts, frame := f, fault := bodyFault parseEmpty f }
  | .release f => some { code := 0x11, ports := bothPorts, frame := f, fault := bodyFault parseEmpty f }
  | .force f => some { code := 0x12, ports := marketOnly, frame := f, fault := bodyFault parseEmpty f }
  | .lookupRow f => some { code := 0x18, ports := bothPorts, frame := f, fault := bodyFault parseU32 f }
  | .lookupHorizon f => some { code := 0x19, ports := bothPorts, frame := f, fault := bodyFault parseEmpty f }
  | .enterOutage f => some { code := 0x20, ports := supervisoryOnly, frame := f, fault := bodyFault parseOutage f }
  | .retireOutage f => some { code := 0x21, ports := supervisoryOnly, frame := f, fault := bodyFault parseU8 f }
  | .lookupOutage f => some { code := 0x22, ports := bothPorts, frame := f, fault := bodyFault parseSearch f }
  | .lookupTrain f => some { code := 0x28, ports := bothPorts, frame := f, fault := bodyFault (parseListed trainAt) f }
  | .lookupEnvelope f => some { code := 0x29, ports := bothPorts, frame := f, fault := bodyFault parseU8 f }
  | .selectEnvelope f => some { code := 0x2A, ports := supervisoryOnly, frame := f, fault := bodyFault parseSelect f }
  | .reloadEnvelopes f => some { code := 0x2B, ports := supervisoryOnly, frame := f, fault := bodyFault parseEmpty f }
  | .amendEnvelope f => some { code := 0x2C, ports := supervisoryOnly, frame := f, fault := bodyFault parseAmendEnvelope f }
  | .bindTank f => some { code := 0x2D, ports := supervisoryOnly, frame := f, fault := bodyFault parseBind f }
  | .restoreTrain f => some { code := 0x2E, ports := supervisoryOnly, frame := f, fault := bodyFault (parseListed trainAt) f }
  | .lookupCavern f => some { code := 0x30, ports := bothPorts, frame := f, fault := bodyFault parseEmpty f }
  | .calibrate f => some { code := 0x31, ports := supervisoryOnly, frame := f, fault := bodyFault parseU16 f }
  | .lookupTank f => some { code := 0x38, ports := bothPorts, frame := f, fault := bodyFault (parseListed tankAt) f }
  | .surveyTank f => some { code := 0x39, ports := supervisoryOnly, frame := f, fault := bodyFault parseSurvey f }
  | .setTime f => some { code := 0x40, ports := supervisoryOnly, frame := f, fault := bodyFault parseTime f }
  | .startDispatch f => some { code := 0x41, ports := supervisoryOnly, frame := f, fault := bodyFault parseEmpty f }
  | .stopDispatch f => some { code := 0x42, ports := supervisoryOnly, frame := f, fault := bodyFault parseEmpty f }
  | .resetDispatch f => some { code := 0x43, ports := supervisoryOnly, frame := f, fault := bodyFault parseEmpty f }
  | .commitmentStoreReset => none
  | .projectorReset => none
  | .heatStoreReset => none
  | .trainUnitReset => none
  | .configure f => some { code := 0x44, ports := supervisoryOnly, frame := f, fault := bodyFault parseConfigure f }
  | .lookupPlant f => some { code := 0x48, ports := bothPorts, frame := f, fault := bodyFault parseEmpty f }
  | .lookupConditions f => some { code := 0x49, ports := bothPorts, frame := f, fault := bodyFault parseEmpty f }
  | .clearConditions f => some { code := 0x4A, ports := bothPorts, frame := f, fault := bodyFault parseU32 f }
  | .setAlertMask f => some { code := 0x4B, ports := bothPorts, frame := f, fault := bodyFault parseU32 f }
  | .unknownCode _ _ => none
  | .badCheckFrame _ _ => none
  | .taintedFrame _ => none
  | .linkReset _ => none
  | .spIdleTransaction _ => none
  | .responseSent => none
  | .passCompletion => none
  | .trainReport _ _ => none
  | .trainFrameDiscarded _ _ _ => none
  | .massIntegration _ => none
  | .heatDeposit _ => none
  | .heatDraw _ => none
  | .heatCreditGrant _ _ => none
  | .setpointFormation _ => none
  | .activeFirmNotice => none
  | .bandNotice => none
  | .topNotice _ => none
  | .trainNotice _ => none
  | .startLimitExpiry _ => none
  | .silenceTimeout _ => none
  | .orderSent _ => none
  | .shortLengthFrame _ => none
  | .trainLinkBreak _ => none

/-- A request frame is admitted: `r` is the state in which its reception ended, its port may send it, there is room for
an answer, and the configuration load has ended (R15, R17). -/
structure Admitted (ports : Port → Bool) (f : Frame) (s r : State) : Prop where
  reception : r = received f s
  port : ports (viaPort f.via) = true
  room : (r.link (viaPort f.via)).responses.length + (r.link (viaPort f.via)).outstanding < 32
  loaded : r.loader.loadState = .ended

/-- Append an answer with a status and a body, and no result condition, to the port a frame came by (R18, R21). -/
def answered (f : Frame) (code : Octet) (status : Status) (body : List Octet) (s : State) : State :=
  respond (viaPort f.via) f.tag code { status := status, zero := false, saturated := false, body := body } s

/-- Append an answer with result conditions (R18, R21). -/
def answeredWith (f : Frame) (code : Octet) (status : Status) (zero saturated : Bool) (body : List Octet) (s : State) :
    State :=
  respond (viaPort f.via) f.tag code { status := status, zero := zero, saturated := saturated, body := body } s

/-! ### Events between blocks -/

/-- The oldest raised event that a block's selector picks, with the events left once it is taken (log 2). -/
def Oldest {β : Type} (pick : Raised → Option β) (raised : List Raised) (event : β) (left : List Raised) : Prop :=
  ∃ (before : List Raised) (r : Raised) (after : List Raised),
    raised = before ++ r :: after ∧ left = before ++ after ∧ pick r = some event ∧ ∀ q ∈ before, pick q = none

/-- The commands that take a raised event. -/
def takesRaised (c : Instr) : Bool :=
  match c with
  | .powerOn => false
  | .loadEnd _ => false
  | .configItemTaken _ => true
  | .clockAdvance => false
  | .commitmentBoundary => true
  | .horizonShift => true
  | .standingLoss => true
  | .intervalClose => true
  | .imbalanceDelivery => true
  | .enter _ => false
  | .amend _ => false
  | .amendPreview _ => false
  | .confirm _ => false
  | .retire _ => false
  | .deploy _ => false
  | .lookupCommitment _ => false
  | .walkFirst _ => false
  | .walkNext _ => false
  | .claim _ => false
  | .release _ => false
  | .force _ => false
  | .lookupRow _ => false
  | .lookupHorizon _ => false
  | .enterOutage _ => false
  | .retireOutage _ => false
  | .lookupOutage _ => false
  | .lookupTrain _ => false
  | .lookupEnvelope _ => false
  | .selectEnvelope _ => false
  | .reloadEnvelopes _ => false
  | .amendEnvelope _ => false
  | .bindTank _ => false
  | .restoreTrain _ => false
  | .lookupCavern _ => false
  | .calibrate _ => false
  | .lookupTank _ => false
  | .surveyTank _ => false
  | .setTime _ => false
  | .startDispatch _ => false
  | .stopDispatch _ => false
  | .resetDispatch _ => false
  | .commitmentStoreReset => true
  | .projectorReset => true
  | .heatStoreReset => true
  | .trainUnitReset => true
  | .configure _ => false
  | .lookupPlant _ => false
  | .lookupConditions _ => false
  | .clearConditions _ => false
  | .setAlertMask _ => false
  | .unknownCode _ _ => false
  | .badCheckFrame _ _ => false
  | .taintedFrame _ => false
  | .linkReset _ => false
  | .spIdleTransaction _ => false
  | .responseSent => false
  | .passCompletion => false
  | .trainReport _ _ => false
  | .trainFrameDiscarded _ _ _ => false
  | .massIntegration _ => true
  | .heatDeposit _ => true
  | .heatDraw _ => true
  | .heatCreditGrant _ _ => false
  | .setpointFormation _ => true
  | .activeFirmNotice => true
  | .bandNotice => true
  | .topNotice _ => true
  | .trainNotice _ => true
  | .startLimitExpiry _ => false
  | .silenceTimeout _ => false
  | .orderSent _ => false
  | .shortLengthFrame _ => false
  | .trainLinkBreak _ => false

/-! ### The octets of request bodies (R31) -/

/-- A signed quantity fits two octets. -/
def fitsS16 (x : Int) : Prop := -32768 ≤ x ∧ x < 32768

/-- The body of an ENTER (R39). -/
def enterOctets (q : EnterRequest) : List Octet :=
  u8 (kindCode q.kind) ++ u8 (standingCode q.standing) ++ u32 q.start ++ u8 q.length ++ s16 q.power ++ u32 q.reference

/-- The fields of an ENTER fit their octets. -/
def EnterRequest.encodable (q : EnterRequest) : Prop :=
  q.start < 4294967296 ∧ q.length < 256 ∧ fitsS16 q.power ∧ q.reference < 4294967296

/-- Position of an Operation (R41). -/
def operationCode : AmendOperation → Nat
  | .set => 0
  | .add => 1
  | .subtract => 2

/-- The Operand of an AMEND, encoded as the field it names (R41). -/
def operandOctets (field : AmendField) (operand : Int) : List Octet :=
  match field with
  | .power => s16 operand
  | .length => u8 operand.toNat
  | .marketReference => u32 operand.toNat

/-- The body of an AMEND (R41). -/
def amendOctets (q : AmendRequest) : List Octet :=
  u16 q.handle ++ u8 (fieldCode q.field) ++ u8 (operationCode q.operation) ++ flag q.preview ++
  operandOctets q.field q.operand

/-- The fields of an AMEND fit their octets. -/
def AmendRequest.encodable (q : AmendRequest) : Prop :=
  q.handle < 65536 ∧
  match q.field with
  | .power => fitsS16 q.operand
  | .length => 0 ≤ q.operand ∧ q.operand < 256
  | .marketReference => 0 ≤ q.operand ∧ q.operand < 4294967296

/-- The Clock as SET_TIME returns it (R5): Day Number, Second of Day, Current Interval Number, Time-Set Flag. -/
def clockOctets (day second : Nat) (timeSet : Bool) : List Octet :=
  u16 day ++ u32 second ++ u32 (day * 96 + second / 900) ++ flag timeSet

/-- The body of an ENTER_OUTAGE (R179). -/
def outageOctets (q : OutageRequest) : List Octet :=
  u8 (trainIndex q.train) ++ u32 q.first ++ u32 q.last ++ u8 (outageKindCode q.kind) ++ optional u16 q.derateMax

/-- The fields of an ENTER_OUTAGE fit their octets. -/
def OutageRequest.encodable (q : OutageRequest) : Prop :=
  q.first < 4294967296 ∧ q.last < 4294967296 ∧ ∀ m, q.derateMax = some m → m < 65536

/-- An Envelope Descriptor without its Generation (R173). -/
def descriptorOctets (d : Descriptor) : List Octet :=
  u8 (trainKindCode d.kind) ++ flag d.valid ++ u16 d.minLoad ++ u16 d.maxLoad ++ optional u16 d.coldMax ++
  u8 d.rampUp ++ u8 d.rampDown ++ u16 d.startLimit ++ optional u16 d.heatRate ++ flag d.reserveCapable

/-- The fields of a descriptor fit their octets. -/
def Descriptor.encodable (d : Descriptor) : Prop :=
  d.minLoad < 65536 ∧ d.maxLoad < 65536 ∧ (∀ m, d.coldMax = some m → m < 65536) ∧ d.rampUp < 256 ∧
  d.rampDown < 256 ∧ d.startLimit < 65536 ∧ ∀ q, d.heatRate = some q → q < 65536

/-- A layer of a survey (R139). -/
def surveyLayerOctets (l : Nat × Nat) : List Octet := u16 l.1 ++ u32 l.2

/-- The body of a SURVEY_TANK (R139). -/
def surveyOctets (tank : Tank) (layers : List (Nat × Nat)) : List Octet :=
  u8 (tankIndex tank) ++ counted surveyLayerOctets layers

/-- The fields of a SURVEY_TANK fit their octets. -/
def surveyEncodable (layers : List (Nat × Nat)) : Prop :=
  layers.length < 256 ∧ ∀ l ∈ layers, l.1 < 65536 ∧ l.2 < 4294967296

/-- The body of a CONFIGURE (R205). -/
def configureOctets (identifier : Nat) (words : List Nat) : List Octet := u8 identifier ++ counted u16 words

/-- The fields of a CONFIGURE fit their octets. -/
def configureEncodable (identifier : Nat) (words : List Nat) : Prop :=
  identifier < 256 ∧ words.length < 256 ∧ ∀ w ∈ words, w < 65536


/-! ### Envelope descriptors (R171, R173, R204) -/

/-- Check 2 of R173: Cold Max is present exactly for an EXPANDER, Heat Rate exactly for a COMPRESSOR. -/
def Descriptor.KindFits (d : Descriptor) : Prop :=
  (d.coldMax.isSome = true ↔ d.kind = .expander) ∧ (d.heatRate.isSome = true ↔ d.kind = .compressor)

/-- Check 3 of R173: every field lies in its range of R171. -/
def Descriptor.InRange (d : Descriptor) : Prop :=
  1 ≤ d.maxLoad ∧ d.maxLoad ≤ (if d.kind = .compressor then 900 else 1200) ∧ d.minLoad < d.maxLoad ∧
  (∀ m, d.coldMax = some m → m ≤ d.maxLoad) ∧ 1 ≤ d.rampUp ∧ d.rampUp ≤ 200 ∧ 1 ≤ d.rampDown ∧ d.rampDown ≤ 200 ∧
  30 ≤ d.startLimit ∧ d.startLimit ≤ 1800 ∧ ∀ q, d.heatRate = some q → 1 ≤ q ∧ q ≤ 5000

/-- The eight words of a descriptor in the Configuration Image (R204). -/
def descriptorWords (d : Descriptor) : List Nat :=
  [trainKindCode d.kind * 256 + d.valid.toNat, d.minLoad, d.maxLoad, d.coldMax.getD 65535, d.rampUp * 256 + d.rampDown,
   d.startLimit, d.heatRate.getD 65535, d.reserveCapable.toNat]

/-- The fields of a descriptor fit its eight words: 0xFFFF stands for an absent Cold Max or Heat Rate. -/
def Descriptor.spelled (d : Descriptor) : Prop :=
  d.encodable ∧ d.coldMax ≠ some 65535 ∧ d.heatRate ≠ some 65535

/-- The eight words of a row hold an enumeration or a flag without a listed value (R204). -/
def unlistedRow (words : List Nat) : Prop :=
  (∃ head, words[0]? = some head ∧ (2 ≤ head / 256 % 256 ∨ 2 ≤ head % 256)) ∨ ∃ last, words[7]? = some last ∧ 2 ≤ last

/-! ### Invariants of a run -/

/-- The entries that a port's Outstanding Count counts: its queued ones, and the Entry in Service unless its answer is to be
dropped (R18, R19). -/
def counts (s : State) (p : Port) : Nat :=
  (s.store.queue.filter fun e => decide (e.source = p)).length +
  match s.store.inService with
  | none => 0
  | some e => if e.source = p ∧ (s.link p).dropped = false then 1 else 0

/-- The Amendment Queue and the ports agree: at most 16 entries in Arrival Order, none passed over more than four times,
the Entry in Service not among them; each Outstanding Count is the number of entries it counts, at most 12, and with the
waiting responses at most 32; a Dropped Answer mark stands only for an Entry in Service of its port (R13, R17 to R19,
R67 to R71). -/
def QueueSound (s : State) : Prop :=
  s.store.queue.length ≤ 16 ∧ s.store.queue.Pairwise (fun a b => a.arrival < b.arrival) ∧
  (∀ e ∈ s.store.queue, e.arrival < s.store.nextArrival ∧ e.passing ≤ 4) ∧
  (∀ e, s.store.inService = some e →
    e.arrival < s.store.nextArrival ∧ ∀ k ∈ s.store.queue, k.arrival ≠ e.arrival) ∧
  ∀ p,
    (s.link p).outstanding = counts s p ∧ (s.link p).outstanding ≤ 12 ∧
    (s.link p).responses.length + (s.link p).outstanding ≤ 32 ∧
    ((s.link p).dropped = true → ∃ e, s.store.inService = some e ∧ e.source = p)

/-- Points of a Characteristic: nine, strictly increasing in mass and pressure, each mass in its four octets (R107). -/
def PointsSound (points : List (Nat × Nat)) : Prop :=
  points.length = 9 ∧ points.Pairwise (fun a b => a.1 < b.1 ∧ a.2 < b.2) ∧ ∀ a ∈ points, a.1 ≤ 4294967295

/-- Thresholds in order (R107). -/
def Thresholds.Ordered (th : Thresholds) : Prop :=
  th.lowLimit < th.lowWarn ∧ th.lowWarn < th.highWarn ∧ th.highWarn < th.highLimit

/-- The Cavern Account agrees with itself: the Pressure is the forward interpolation of the Mass Inventory, the Residue is
below a kilogram, no Band transition is left to apply, and the Characteristic and the thresholds, those handed and not
yet taken included, are in order (R106, R107, R111, R113, R114). -/
def CavernSound (s : State) : Prop :=
  let c := s.cavern
  c.pressure = forwardPressure c.characteristic c.mass ∧ c.mass ≤ 4294967295 ∧ -9999 ≤ c.residue ∧ c.residue ≤ 9999 ∧
  bandStep c.thresholds c.pressure c.band = none ∧ PointsSound c.characteristic ∧ c.thresholds.Ordered ∧
  (∀ points, .configItem (.characteristic points) ∈ s.raised → PointsSound points) ∧
  ∀ th, .configItem (.thresholds th) ∈ s.raised → th.Ordered

/-- The Tanks and the Reservations agree: every Layer Stack holds at most eight layers, none hotter than the one above it,
each of at least 1 MJ and above T_ref up to 8,000; an unsurveyed Tank has none; Stored plus Reserved Energy is within the
Capacity; only a compressor in STARTING, RUNNING or UNLOADING holds a Reservation; during the load no Tank is surveyed and
nothing is reserved, and only then are configuration items on their way (R124 to R126, R149, R203). -/
def TanksSound (s : State) : Prop :=
  (∀ tank,
    let v := s.tank tank
    v.layers.length ≤ 8 ∧ v.layers.Pairwise (fun a b => b.temperature ≤ a.temperature) ∧
    (∀ l ∈ v.layers, 1 ≤ l.energy ∧ s.loader.heat.tRef < l.temperature ∧ l.temperature ≤ 8000) ∧
    (v.surveyed = false → v.layers = []) ∧
    storedEnergy v.layers + reservedEnergy s.trains tank ≤ v.capacity) ∧
  (∀ t, (s.train t).reservation = 0 ∨ (trainKind t = .compressor ∧ inUse (s.train t).state = true)) ∧
  (s.loader.loadState = .loading → (∀ tank, (s.tank tank).surveyed = false) ∧ ∀ t, (s.train t).reservation = 0) ∧
  (∀ t heat temperature tank, .deposit t heat temperature tank ∈ s.raised →
    trainKind t = .compressor ∧ temperature ≤ 8000) ∧
  ∀ item, .configItem item ∈ s.raised → s.loader.loadState = .loading

/-- The Setpoints agree: a train at rest, fallen out or unselected has none, any other one up to the max load of its Cached
Descriptor, and never do a compressor and an expander both hold one; each Duty Rotation, one handed and not yet taken
included, names trains of its own kind (R187, R192). -/
def SetpointsSound (s : State) : Prop :=
  (∀ t,
    let c := s.train t
    (inUse c.state = false ∨ c.selection = none → c.setpoint = 0) ∧
    ∀ sel, c.selection = some sel → c.setpoint ≤ sel.descriptor.maxLoad) ∧
  (∀ t k, trainKind t = .compressor → trainKind k = .expander → (s.train t).setpoint = 0 ∨ (s.train k).setpoint = 0) ∧
  (∀ k, ∀ t ∈ (s.dispatcher.rotation k).phases, trainKind t = k) ∧
  ∀ compressor expander, .configItem (.dutyRotations compressor expander) ∈ s.raised →
    (∀ t ∈ compressor, trainKind t = .compressor) ∧ ∀ t ∈ expander, trainKind t = .expander

end Sys2Proof.Machine
end

