-- ==== Sys2Proof/Certificates/Slice0/Obligations.lean ====
section
/-!
DEFINITION. The statements about the Controller, one `Obligations.<Name>` each, in the order of the spec's chapters.
-/
open Sys2Proof Sys2Proof.Machine

/-! ### The machine as a whole -/

/-- One step takes the command at the front of the queue and answers what its execution answers on the state with the
queue's rest. -/
def Obligations.StepTakesTheFrontCommand : Prop :=
  ∀ (c : Instr) (rest : List Instr) (s : State),
    step { s with pending := c :: rest } = exec c { s with pending := rest }

/-- Every command answers a next state, in every state, and leaves the queue of commands as it is: no request is without
an answer or a discard, and no frame stops the Controller. -/
def Obligations.EveryCommandCompletes : Prop :=
  ∀ (c : Instr) (s : State), ∃ t, exec c s = .next t ∧ t.pending = s.pending

/-- The state right after power-on: the values that the chapters give each block. POWER_ON brings every block to it and
keeps the commands and line events still to come, which is the model's choice (log 22). -/
def Obligations.PowerOnGivesEveryBlockItsValues : Prop :=
  let s := State.reset
  (∀ u : State, exec .powerOn u = .next { State.reset with arrivals := u.arrivals, pending := u.pending }) ∧
  s.dispatcher.mode = .unconfigured ∧
  s.clock.day = 0 ∧ s.clock.second = 0 ∧ s.clock.timeSet = false ∧ s.clock.gateLead = 4 ∧ s.interval = 0 ∧
  (∀ p, (s.link p).intake = none ∧ (s.link p).responses = [] ∧ (s.link p).outstanding = 0 ∧
    (s.link p).dropped = false ∧ (s.link p).cursor = none) ∧ s.transaction = none ∧
  (∀ i < 26, s.sp.alertMask.getLsbD i = true) ∧
  (∀ i < 26, s.mp.alertMask.getLsbD i = true ↔ i = 0 ∨ i = 1 ∨ i = 2 ∨ i = 4) ∧
  s.store.commitments = [] ∧ s.store.nextHandle = 1 ∧ s.store.authority = .market ∧ s.store.queue = [] ∧
  s.store.inService = none ∧ s.store.lastImbalance = 0 ∧ s.store.dayImbalance = 0 ∧
  s.projector.horizon = (List.range 192).map (fun i =>
    { interval := i, net := 0, up := 0, down := 0, genCapacity := 0, chgCapacity := 0, reserveGen := 0, reserveChg := 0,
      endMass := 0, endPressure := 0, endUsable := 0, endFree := 0, verdict := .unprojected }) ∧
  s.projector.current = false ∧ s.projector.passState = .idle ∧ s.projector.passPending = true ∧
  s.projector.trial = none ∧ s.projector.start = none ∧ s.projector.workingCopy = [] ∧
  s.cavern.mass = 0 ∧ s.cavern.residue = 0 ∧ s.cavern.pressure = 4300 ∧ s.cavern.band = .lowLimit ∧
  s.cavern.calibrated = false ∧ s.cavern.lastCalibration = none ∧
  s.cavern.characteristic =
    [(14000000, 4300), (15250000, 4660), (16500000, 5030), (17750000, 5410), (19000000, 5800), (20250000, 6200),
     (21500000, 6610), (22750000, 7030), (24000000, 7460)] ∧
  s.cavern.thresholds = { lowLimit := 4600, lowWarn := 4800, highWarn := 7100, highLimit := 7300 } ∧
  (∀ i < 26, s.sticky.getLsbD i = true ↔ i = 5) ∧
  (∀ tank, s.tank tank =
    { capacity := 1200000, layers := [], surveyed := false, spillTotal := 0, lastUnderdraw := none }) ∧
  (∀ t, (s.train t).state = .offline ∧ (s.train t).selection = none ∧ (s.train t).lastReport = none ∧
    (s.train t).setpoint = 0 ∧ (s.train t).share = 0 ∧ (s.train t).reservation = 0 ∧ (s.train t).runStart = none ∧
    (s.train t).silence = none ∧ (s.train t).startTimer = none ∧ (s.train t).released = false ∧
    (s.train t).creditLimit = false) ∧
  (s.trains.k1.boundTank = .t1 ∧ s.trains.x1.boundTank = .t1 ∧ s.trains.k2.boundTank = .t2 ∧
    s.trains.x2.boundTank = .t2 ∧ s.trains.k3.boundTank = .t3 ∧ s.trains.x3.boundTank = .t3) ∧
  (s.tables.envelopes.length = 24 ∧ ∀ row ∈ s.tables.envelopes, row.generation = 0 ∧ row.descriptor =
    { kind := .compressor, valid := false, minLoad := 0, maxLoad := 1, coldMax := none, rampUp := 1, rampDown := 1,
      startLimit := 30, heatRate := some 1, reserveCapable := false }) ∧
  s.tables.outages = [] ∧ s.tables.nextOutage = 1 ∧ s.tables.millis = 0 ∧
  s.dispatcher.direction = .idle ∧ s.dispatcher.target = 0 ∧ s.dispatcher.scheduleValue = 0 ∧
  s.dispatcher.generationCap = 0 ∧ s.dispatcher.chargeCap = 0 ∧
  s.dispatcher.compressorRotation =
    { phases := [.k1, .k2, .k3, .k1, .k2, .k3, .k1, .k2, .k3, .k1, .k2, .k3], pointer := 0 } ∧
  s.dispatcher.expanderRotation =
    { phases := [.x1, .x2, .x3, .x1, .x2, .x3, .x1, .x2, .x3, .x1, .x2, .x3], pointer := 0 } ∧
  s.dispatcher.openInterval = 0 ∧ s.dispatcher.delivered = 0 ∧ s.dispatcher.scheduled = 0 ∧
  s.dispatcher.scheduledMark = 0 ∧
  s.loader.loadState = .loading ∧ s.loader.validity = 0 ∧ s.loader.rateLimit = 250 ∧
  s.loader.rates = { genMass := 4700, chgMass := 5200, genHeat := 1900, chgHeat := 2100 } ∧
  s.loader.heat = { tRef := 500, tUse := 4500, tNom := 5800, band := 150, loss := 2 } ∧
  s.loader.creditWindow = 600 ∧ s.loader.silenceTimeout = 3000 ∧
  s.raised = [] ∧ s.arrivals = [] ∧ s.pending = [] ∧
  (∀ t, s.trainLinks.get t = { intake := none, sending := none, waiting := none })

/-- A command by which a block takes a raised event changes nothing when no such event is raised (log 2). With no command
and no line event waiting, a step takes the oldest raised event by its block's command, else a timer that is due, start
limits before silence timeouts and each in the trains' order, else the completion of a Pass with all its rows, else a
millisecond passes, in which a Pass in flight evaluates its next row. All of this is the model's choice (logs 1, 2, 23). -/
def Obligations.RaisedEventsAreTakenAndTimePasses : Prop :=
  (∀ (c : Instr) (s : State), takesRaised c = true → (∀ r ∈ s.raised, r.command ≠ c) → exec c s = .next s) ∧
  (∀ s : State, s.pending = [] → s.arrivals = [] →
    let limitPassed (t : Train) : Prop := (s.train t).state = .starting ∧
      ∃ sel ms, (s.train t).selection = some sel ∧ (s.train t).startTimer = some ms ∧
        sel.descriptor.startLimit * 1000 < ms
    let silent (t : Train) : Prop :=
      ((s.train t).state = .ready ∨ (s.train t).state = .starting ∨ (s.train t).state = .running ∨
        (s.train t).state = .unloading) ∧ ∃ ms, (s.train t).silence = some ms ∧ s.loader.silenceTimeout ≤ ms
    let first (of : Train → Prop) (t : Train) : Prop := of t ∧ ∀ k, trainIndex k < trainIndex t → ¬ of k
    let p := s.projector
    let complete := p.passState ≠ .idle ∧ p.workingCopy.length = 192
    (∀ r rest, s.raised = r :: rest → step s = exec r.command s) ∧
    (s.raised = [] →
      (∀ t, first limitPassed t → step s = exec (.startLimitExpiry t) s) ∧
      ((∀ k, ¬ limitPassed k) →
        (∀ t, first silent t → step s = exec (.silenceTimeout t) s) ∧
        ((∀ k, ¬ silent k) →
          (complete → step s = exec .passCompletion s) ∧
          (¬ complete →
            (p.start = none ∨ 192 ≤ p.workingCopy.length → step s = .next (elapse 1 s)) ∧
            (∀ st, p.start = some st → p.workingCopy.length < 192 →
              ∃ start : RowStart,
                (p.workingCopy = [] →
                  start = { mass := st.mass, pressure := st.pressure, usable := st.usable, free := st.free }) ∧
                (∀ front last, p.workingCopy = front ++ [last] →
                  start = { mass := last.endMass, pressure := last.endPressure, usable := last.endUsable,
                            free := last.endFree }) ∧
                step s = .next
                  { elapse 1 s with
                    projector :=
                      { p with workingCopy := p.workingCopy ++
                          [evalRow st (overlay p.trial st.commitments) p.workingCopy.length start] } })))))) ∧
  (∀ (b : Boundary) (t : Train) (tank : Tank) (flow heat temperature closed elapsed : Nat) (kwh : Int)
    (part : ReportPart) (item : ConfigItem),
    (Raised.boundary .commitmentStore b).command = .commitmentBoundary ∧
    (Raised.boundary .horizonProjector b).command = .horizonShift ∧
    (Raised.boundary .heatStoreUnit b).command = .standingLoss ∧
    (Raised.boundary .dispatcher b).command = .intervalClose ∧
    (Raised.imbalance closed kwh).command = .imbalanceDelivery ∧
    (Raised.mass t flow elapsed).command = .massIntegration t ∧
    (Raised.deposit t heat temperature tank).command = .heatDeposit t ∧
    (Raised.draw t heat tank).command = .heatDraw t ∧ (Raised.formation t part).command = .setpointFormation t ∧
    Raised.activeFirm.command = .activeFirmNotice ∧ Raised.band.command = .bandNotice ∧
    (Raised.top tank).command = .topNotice tank ∧ (Raised.train t).command = .trainNotice t ∧
    Raised.storeReset.command = .commitmentStoreReset ∧ Raised.projectorReset.command = .projectorReset ∧
    Raised.heatReset.command = .heatStoreReset ∧ Raised.trainReset.command = .trainUnitReset ∧
    (Raised.configItem item).command = .configItemTaken item.itemId)

/-! ### The Link Unit (chapter 2) -/

/-- How a request is turned away before it reaches its owner: no room discards it, a broken body is answered BAD_REQUEST
with its Fault Detail and Offset, the wrong port NOT_PERMITTED and the load WRONG_STATE, both with an empty body; in each
case it has no other effect. That the room test comes before BAD_REQUEST is the model's choice (log 5). -/
def Obligations.RequestsAreTurnedAwayInOrder : Prop :=
  ∀ (c : Instr) (q : Request) (s r : State), requestOf c = some q → r = received q.frame s →
    let p := viaPort q.frame.via
    (32 ≤ (r.link p).responses.length + (r.link p).outstanding → exec c s = .next r) ∧
    ((r.link p).responses.length + (r.link p).outstanding < 32 →
      (∀ fault, q.fault = some fault →
        exec c s = .next (answered q.frame q.code .badRequest (u8 (faultCode fault.detail) ++ u8 fault.offset) r)) ∧
      (q.fault = none → q.ports p = false → exec c s = .next (answered q.frame q.code .notPermitted [] r)) ∧
      (q.fault = none → q.ports p = true → r.loader.loadState = .loading →
        exec c s = .next (answered q.frame q.code .wrongState [] r)))

/-- BAD_REQUEST. A request with a code outside the catalogue is answered with the Fault Detail UNKNOWN_CODE (position 0) and
Offset 0, whatever its body; without room it is discarded, which for this answer is the model's choice (log 5). The faults
of a body, on requests that hold every kind of field: LOOKUP_TRAIN an enumeration, AMEND a flag and an Operand by its
Field, ENTER_OUTAGE a presence octet with the field it announces, SURVEY_TANK and CONFIGURE a list with its count. A value
beyond a listing is BAD_ENCODING at its octet, a body that ends early BODY_SHORT at its length, an octet too many BODY_LONG
at the first of them; the first fault in a scan is returned. The masks of CLEAR_CONDITIONS and SET_ALERT_MASK, the only
sets in a request, are judged by their owner. -/
def Obligations.BrokenRequestsAreAnsweredBadRequest : Prop :=
  (∀ (code : Octet) (f : Frame) (s r : State), r = received f s →
    let p := viaPort f.via
    ((r.link p).responses.length + (r.link p).outstanding < 32 →
      exec (.unknownCode code f) s = .next (answered f code .badRequest [0, 0] r)) ∧
    (32 ≤ (r.link p).responses.length + (r.link p).outstanding → exec (.unknownCode code f) s = .next r)) ∧
  (∀ (f : Frame) (s r : State), Admitted bothPorts f s r →
    (f.body = [] → exec (.lookupTrain f) s = .next (answered f 0x28 .badRequest [1, 0] r)) ∧
    (∀ o rest, f.body = o :: rest → 6 ≤ o.toNat →
      exec (.lookupTrain f) s = .next (answered f 0x28 .badRequest [3, 0] r)) ∧
    (∀ o x rest, f.body = o :: x :: rest → o.toNat < 6 →
      exec (.lookupTrain f) s = .next (answered f 0x28 .badRequest [2, 1] r))) ∧
  (∀ (f : Frame) (h : Nat) (field operation preview : Octet) (operand : List Octet) (s r : State),
    Admitted bothPorts f s r → f.body = u16 h ++ [field, operation, preview] ++ operand →
    let width := if field = 0 then 2 else if field = 1 then 1 else 4
    let broken (body : List Octet) : Prop :=
      exec (.amend f) s = .next (answered f 0x02 .badRequest body r) ∧
      exec (.amendPreview f) s = .next (answered f 0x02 .badRequest body r)
    (3 ≤ field.toNat → broken [3, 2]) ∧
    (field.toNat < 3 → 3 ≤ operation.toNat → broken [3, 3]) ∧
    (field.toNat < 3 → operation.toNat < 3 → 2 ≤ preview.toNat → broken [3, 4]) ∧
    (field.toNat < 3 → operation.toNat < 3 → preview.toNat < 2 →
      (operand.length < width → broken (1 :: u8 (5 + operand.length))) ∧
      (width < operand.length → broken (2 :: u8 (5 + width))))) ∧
  (∀ (f : Frame) (train kind presence : Octet) (first last : Nat) (derate : List Octet) (s r : State),
    Admitted supervisoryOnly f s r → f.body = train :: u32 first ++ u32 last ++ kind :: presence :: derate →
    let broken (body : List Octet) : Prop := exec (.enterOutage f) s = .next (answered f 0x20 .badRequest body r)
    (6 ≤ train.toNat → broken [3, 0]) ∧
    (train.toNat < 6 → 2 ≤ kind.toNat → broken [3, 9]) ∧
    (train.toNat < 6 → kind.toNat < 2 → 2 ≤ presence.toNat → broken [3, 10]) ∧
    (train.toNat < 6 → kind.toNat < 2 → presence = 0 → derate ≠ [] → broken [2, 11]) ∧
    (train.toNat < 6 → kind.toNat < 2 → presence = 1 →
      (derate.length < 2 → broken (1 :: u8 (11 + derate.length))) ∧ (2 < derate.length → broken [2, 13]))) ∧
  (∀ (f : Frame) (head count : Octet) (items : List Octet) (s r : State), Admitted supervisoryOnly f s r →
    f.body = head :: count :: items →
    let layers (body : List Octet) : Prop := exec (.surveyTank f) s = .next (answered f 0x39 .badRequest body r)
    let words (body : List Octet) : Prop := exec (.configure f) s = .next (answered f 0x44 .badRequest body r)
    (3 ≤ head.toNat → layers [3, 0]) ∧
    (head.toNat < 3 →
      (items.length < 6 * count.toNat → layers (1 :: u8 (2 + items.length))) ∧
      (6 * count.toNat < items.length → layers (2 :: u8 (2 + 6 * count.toNat)))) ∧
    (items.length < 2 * count.toNat → words (1 :: u8 (2 + items.length))) ∧
    (2 * count.toNat < items.length → words (2 :: u8 (2 + 2 * count.toNat))))

/-- Line events that carry no request, Supervisory Port transactions and Link Reset. A transaction shifts out the oldest
response: it leaves the queue when every octet of its frame was shifted out, else it stays, whether the transaction is idle,
has a frame whose check fails, or carries a request that is still to be judged. A response that was not there at the first
octet of the transaction was not shifted out and stays; a transaction that comes as one command has the queue as it stands
at its first octet (log 36). Market
Port frames whose check fails, that are tainted or whose length octet is below 3 are discarded and the intake hunts again;
the Market Port's oldest response leaves its queue when it is sent; a discarded report or a break clears one train link's
intake; at the end of an order the waiting one starts. An order issued is sent at once on an idle link, else it becomes the
waiting order in place of any other. At a Link Reset the port's
partial frame, its waiting responses and its queued entries go, its Outstanding Count becomes 0 and its cursor unset, its
Dropped Answer mark follows the Entry in Service. Nothing else changes. That the Market Port's response in transmission
stays at the head of the queue is the model's (log 4). -/
def Obligations.TransactionsLineEventsAndLinkResetsActOnTheirLink : Prop :=
  (∀ (octets : List Octet) (extra : Nat) (f : Frame) (s : State),
    let after (clocked : Nat) (responses : List Response) : State → Prop := fun t =>
      (s.sp.responses = [] → responses = []) ∧
      (∀ head rest, s.sp.responses = head :: rest →
        let shifted := ∀ tr, s.transaction = some tr → tr.response = some head
        (shifted → head.reply.body.length + 7 ≤ clocked → responses = rest) ∧
        (¬ shifted ∨ clocked < head.reply.body.length + 7 → responses = head :: rest)) ∧
      t = { s with sp := { s.sp with intake := none, responses := responses }, transaction := none }
    (∃ t, exec (.spIdleTransaction octets) s = .next t ∧ after octets.length t.sp.responses t) ∧
    (∃ t, exec (.badCheckFrame (.sp extra) octets) s = .next t ∧ after (octets.length + extra) t.sp.responses t) ∧
    (f.via = .sp extra → after (f.body.length + 5 + extra) (received f s).sp.responses (received f s))) ∧
  (∀ (octets : List Octet) (length : Octet) (s : State),
    let t : State := { s with mp := { s.mp with intake := none } }
    exec (.badCheckFrame .mp octets) s = .next t ∧ exec (.taintedFrame octets) s = .next t ∧
    exec (.shortLengthFrame length) s = .next t) ∧
  (∀ (t : Train) (octets : List Octet) (framing : Bool) (s : State),
    let l := s.trainLinks.get t
    let cleared : State := { s with trainLinks := s.trainLinks.set t { l with intake := none } }
    let sent : TrainLink := { l with sending := l.waiting, waiting := none }
    exec .responseSent s = .next { s with mp := { s.mp with responses := s.mp.responses.tail } } ∧
    exec (.orderSent t) s = .next { s with trainLinks := s.trainLinks.set t sent } ∧
    exec (.trainFrameDiscarded t octets framing) s = .next cleared ∧
    exec (.trainLinkBreak t) s = .next cleared) ∧
  (∀ (t u : Train) (o : Order) (s : State),
    ((s.trainLinks.get t).sending = none →
      ((issueOrder t o s).trainLinks.get t) = { s.trainLinks.get t with sending := some o }) ∧
    (∀ present, (s.trainLinks.get t).sending = some present →
      ((issueOrder t o s).trainLinks.get t) =
        { s.trainLinks.get t with sending := some present, waiting := some o }) ∧
    (u ≠ t → (issueOrder t o s).trainLinks.get u = s.trainLinks.get u) ∧
    issueOrder t o s = { s with trainLinks := (issueOrder t o s).trainLinks }) ∧
  (∀ s : State,
     let served (p : Port) : Bool := decide (∃ e ∈ s.store.inService, e.source = p)
     let store (p : Port) : Store := { s.store with queue := s.store.queue.filter fun e => decide (e.source ≠ p) }
     exec (.linkReset .sp) s = .next
       { s with
         sp := { s.sp with intake := none, responses := [], outstanding := 0, dropped := served .sp, cursor := none }
         transaction := none
         store := store .sp } ∧
     let sending := s.mp.responses.take 1
     exec (.linkReset .mp) s = .next
       { s with
         mp := { s.mp with intake := none, responses := sending, outstanding := 0, dropped := served .mp, cursor := none }
         store := store .mp })

/-- The intakes. With no command waiting, a step takes the oldest line event. The Market Port intake ignores what is not
0xA5, then takes the length octet and L further octets; a length below 3 ends the frame, and a framing error taints it. A
train link's intake does the same from 0xC3 with 13 further octets. Each octet of a Supervisory Port transaction moves one
octet out: of the frame of the response that was the oldest at the first octet, from its first octet on, then 0x00, and
0x00 alone if the queue was empty then; the transaction is judged at its end by its first octets. Nothing but the intake,
the transaction in progress and the queue of commands changes. That line events come before what the Controller does by
itself, that a start octet with a framing error starts a tainted frame, that the response is settled at the first octet
and that a transaction without any octet is idle, is the model's choice (logs 1, 4, 36). -/
def Obligations.IntakesGatherOctetsIntoFrames : Prop :=
  let octetsOf (those : List Character) : List Octet := those.map Character.octet
  let tainted (those : List Character) : Bool := those.any Character.framingError
  let partly (those : List Character) : Option PartialFrame :=
    some { octets := octetsOf those, tainted := tainted those }
  let takeAll (those : List Arrival) (s : State) : State := those.foldl (fun k a => takeArrival a k) s
  (∀ (a : Arrival) (rest : List Arrival) (s : State), s.pending = [] → s.arrivals = a :: rest →
    step s = .next (takeArrival a { s with arrivals := rest })) ∧
  (∀ s : State, s.mp.intake = none →
    let market (those : List Character) : State := takeAll (those.map .marketCharacter) s
    let left (held : Option PartialFrame) (commands : List Instr) : State :=
      { s with mp := { s.mp with intake := held }, pending := s.pending ++ commands }
    (∀ c, c.octet ≠ 0xA5 → market [c] = s) ∧
    (∀ start len rest, start.octet = 0xA5 →
      market [start] = left (partly [start]) [] ∧
      (len.octet.toNat < 3 → market [start, len] = left none [.shortLengthFrame len.octet]) ∧
      (3 ≤ len.octet.toNat → rest.length < len.octet.toNat →
        market (start :: len :: rest) = left (partly (start :: len :: rest)) []) ∧
      (3 ≤ len.octet.toNat → rest.length = len.octet.toNat →
        let frame := octetsOf (start :: len :: rest)
        market (start :: len :: rest) = left none
          [if tainted (start :: len :: rest) = true then .taintedFrame frame else frameCommand .mp frame]))) ∧
  (∀ (line : Train) (s : State), (s.trainLinks.get line).intake = none →
    let heard (those : List Character) : State := takeAll (those.map (.trainCharacter line)) s
    let left (held : Option PartialFrame) (commands : List Instr) : State :=
      { s with
        trainLinks := s.trainLinks.set line { s.trainLinks.get line with intake := held }
        pending := s.pending ++ commands }
    (∀ c, c.octet ≠ 0xC3 → heard [c] = s) ∧
    (∀ start rest, start.octet = 0xC3 →
      (rest.length < 13 → heard (start :: rest) = left (partly (start :: rest)) []) ∧
      (rest.length = 13 →
        heard (start :: rest) = left none [reportCommand line (octetsOf rest) (tainted (start :: rest))]))) ∧
  (∀ (line : Train) (s : State),
    takeArrival .marketBreak s = { s with pending := s.pending ++ [.linkReset .mp] } ∧
    takeArrival (.trainBreak line) s = { s with pending := s.pending ++ [.trainLinkBreak line] }) ∧
  (∀ (octet : Octet) (s : State),
    let held := (s.sp.intake.map PartialFrame.octets).getD []
    let tr := s.transaction.getD { response := s.sp.responses.head?, sent := [] }
    let frame := (tr.response.map Response.frame).getD []
    ∃ out, (∀ k, frame[tr.sent.length]? = some k → out = k) ∧ (frame.length ≤ tr.sent.length → out = 0x00) ∧
      takeArrival (.supervisoryOctet octet) s =
        { s with
          sp := { s.sp with intake := some { octets := held ++ [octet], tainted := false } }
          transaction := some { tr with sent := tr.sent ++ [out] } }) ∧
  (∀ (octets : List Octet) (s : State), s.sp.intake = none → s.transaction = none →
    let clocked := takeAll (octets.map .supervisoryOctet) s
    let frame := (s.sp.responses.head?.map Response.frame).getD []
    let shiftedOut := (frame ++ List.replicate (octets.length - frame.length) 0x00).take octets.length
    let released : State := { clocked with sp := { clocked.sp with intake := none } }
    clocked =
      { s with
        sp := { s.sp with intake := if octets = [] then none else some { octets := octets, tainted := false } }
        transaction := if octets = [] then none else some { response := s.sp.responses.head?, sent := shiftedOut } } ∧
    takeArrival .supervisoryRelease clocked =
      { released with pending := s.pending ++ [transactionCommand octets] }) ∧
  (∀ (start len : Octet) (more frame extra : List Octet),
    transactionCommand [] = .spIdleTransaction [] ∧
    (start ≠ 0xA5 → transactionCommand (start :: more) = .spIdleTransaction (start :: more)) ∧
    transactionCommand [0xA5] = .linkReset .sp ∧
    (len.toNat < 3 → transactionCommand (0xA5 :: len :: more) = .spIdleTransaction (0xA5 :: len :: more)) ∧
    (3 ≤ len.toNat → more.length < len.toNat → transactionCommand (0xA5 :: len :: more) = .linkReset .sp) ∧
    (3 ≤ len.toNat → frame.length = len.toNat →
      transactionCommand (0xA5 :: len :: frame ++ extra) = frameCommand (.sp extra.length) (0xA5 :: len :: frame)))

/-- Requests and reports are spelled by their octets. The frame of every well-formed request, from its start octet to its
check octet, is read as that request, and a frame with a code outside the catalogue as UNKNOWN_CODE; a complete frame
whose octets sum to zero is the frame of just one code, tag and body, and one whose sum is not zero is no request. The
octets of a Train Report are read as that report, and with a sum that is not zero or a framing error it is discarded. A
response frame is the octets of its layout, its check octet bringing their sum from the length octet on to zero. A Setpoint
Order's frame is the start octet, the train number, the command, the setpoint, the top temperature and a check octet
bringing their sum from the train number on to zero. -/
def Obligations.FramesAndReportsAreSpelledByTheirOctets : Prop :=
  (∀ (c : Instr) (q : Request), requestOf c = some q → c.wellFormed = true →
    frameCommand q.frame.via (frameOctets q.code q.frame) = c) ∧
  (∀ (code : Octet) (f : Frame),
    frameCommand f.via (frameOctets code f) = requestFor code f ∧
    (code ∉ catalogueCodes → requestFor code f = .unknownCode code f) ∧
    (code ∈ catalogueCodes → ∃ q, requestOf (requestFor code f) = some q ∧ q.code = code ∧ q.frame = f)) ∧
  (∀ (via : Via) (octets : List Octet), completeFrame octets = true →
    (octetSum (octets.drop 1) ≠ 0 → frameCommand via octets = .badCheckFrame via octets) ∧
    (octetSum (octets.drop 1) = 0 → ∃ code f, f.via = via ∧ f.wellFormed = true ∧ frameOctets code f = octets ∧
      frameCommand via octets = requestFor code f ∧
      ∀ other g, g.via = via → frameOctets other g = octets → other = code ∧ g = f)) ∧
  (∀ (line : Train) (r : ReportFrame), reportCommand line (reportOctets r) false = .trainReport line r) ∧
  (∀ (line : Train) (octets : List Octet) (framing : Bool), octets.length = 13 →
    (framing = true ∨ octetSum octets ≠ 0 →
      reportCommand line octets framing = .trainFrameDiscarded line octets framing) ∧
    (framing = false → octetSum octets = 0 → ∃ r, reportOctets r = octets ∧
      reportCommand line octets framing = .trainReport line r)) ∧
  (∀ r : Response, ∃ check : Octet,
    let conditions : Octet := (if r.reply.zero then 1 else 0) + (if r.reply.saturated then 2 else 0)
    let checked := u8 (r.reply.body.length + 5) ++ [r.tag, r.code] ++ u8 (statusCode r.reply.status) ++ [conditions] ++
      r.reply.body ++ [check]
    r.frame = 0x5A :: checked ∧ octetSum checked = 0 ∧ r.frame.length = r.reply.body.length + 7) ∧
  (∀ (o : Order) (t : Train), ∃ check : Octet,
    let number : Octet :=
      match t with
      | .k1 => 0
      | .k2 => 1
      | .k3 => 2
      | .x1 => 3
      | .x2 => 4
      | .x3 => 5
    let command : Octet :=
      match o.command with
      | .hold => 0
      | .start => 1
      | .run => 2
      | .stop => 3
    let checked := [number, command] ++ u16 o.setpoint ++ u16 o.topTemperature ++ [check]
    o.frame t = 0x3C :: checked ∧ octetSum checked = 0 ∧ (o.frame t).length = 8)

/-- The lookups without a key, LOOKUP_PLANT, LOOKUP_CONDITIONS, LOOKUP_CAVERN and LOOKUP_HORIZON, answer the fields the
rules list, in their order, and change nothing but the port's responses. The orders of the fields of LOOKUP_PLANT and
LOOKUP_CONDITIONS are the model's (log 7). LOOKUP_HORIZON's row 0 and the First Failing Row's index are those of the table
as it stands; that they are so also between the Clock's move and the Projector's shift is the model's choice (log 40). -/
def Obligations.LookupsWithoutAKeyAnswerTheirFields : Prop :=
  ∀ (f : Frame) (s r : State), Admitted bothPorts f s r → f.body = [] →
    exec (.lookupPlant f) s = .next
      (answered f 0x48 .done
        (u16 r.clock.day ++ u32 r.clock.second ++ u32 (r.clock.day * 96 + r.clock.second / 900) ++
         flag r.clock.timeSet ++ u8 r.clock.gateLead ++ u8 (modeCode r.dispatcher.mode) ++
         u8 (authorityCode r.store.authority) ++ u8 r.store.queue.length ++
         u8 (r.link (viaPort f.via)).outstanding ++ u8 r.store.commitments.length ++
         u8 (directionCode r.dispatcher.direction) ++ s16 r.dispatcher.target ++ s32 r.store.lastImbalance ++
         s32 r.store.dayImbalance) r) ∧
    exec (.lookupConditions f) s = .next
      (answered f 0x49 .done
        (u32 r.sticky.toNat ++ u32 (liveSet r).toNat ++ u8 (bandCode r.cavern.band) ++ u32 r.mp.alertMask.toNat ++
         u32 r.sp.alertMask.toNat ++ flag (alertLine r .mp) ++ flag (alertLine r .sp)) r) ∧
    exec (.lookupCavern f) s = .next
      (answered f 0x30 .done
        (u32 r.cavern.mass ++ s16 r.cavern.residue ++ u16 r.cavern.pressure ++ u8 (bandCode r.cavern.band) ++
         flag r.cavern.calibrated ++
         optional (fun c => u16 c.day ++ u32 c.second ++ u16 c.applied ++ s64 c.correction) r.cavern.lastCalibration ++
         u16 r.cavern.thresholds.lowLimit ++ u16 r.cavern.thresholds.lowWarn ++ u16 r.cavern.thresholds.highWarn ++
         u16 r.cavern.thresholds.highLimit ++ r.cavern.characteristic.flatMap fun p => u32 p.1 ++ u16 p.2) r) ∧
    (∀ first rest, r.projector.horizon = first :: rest →
      let failing := r.projector.horizon.filter Row.failing
      exec (.lookupHorizon f) s = .next
        (answered f 0x19 .done
          (u32 first.interval ++ u8 (if r.projector.current then 0 else 1) ++ flag r.projector.passPending ++
           u8 (passCode r.projector.passState) ++ u8 failing.length ++
           optional
             (fun row => u8 (r.projector.horizon.findIdx Row.failing) ++ u32 row.interval ++ failureSet row.failures)
             failing.head?) r))

/-- Each live condition is shown while its owner's state holds, and each port's alert line is asserted while a sticky
condition is both set and enabled in the port's mask. -/
def Obligations.LiveConditionsAndAlertLinesFollowTheState : Prop :=
  ∀ (s : State) (p : Port),
    (liveSet s).getLsbD 0 = decide (s.dispatcher.mode = .unconfigured) ∧
    (liveSet s).getLsbD 1 = !s.clock.timeSet ∧
    (liveSet s).getLsbD 2 = !s.cavern.calibrated ∧
    (∀ tank, (liveSet s).getLsbD (3 + tankIndex tank) = !(s.tank tank).surveyed) ∧
    (∀ t, trainKind t = .compressor → (liveSet s).getLsbD (6 + trainIndex t) = (s.train t).creditLimit) ∧
    (∀ t, (liveSet s).getLsbD (9 + trainIndex t) = true ↔
      ∃ sel row, (s.train t).selection = some sel ∧ s.tables.envelopes[sel.selector]? = some row ∧
        sel.generation ≠ row.generation) ∧
    (∀ t, envelopeStale s t = (liveSet s).getLsbD (9 + trainIndex t)) ∧
    (liveSet s).getLsbD 15 = !s.projector.current ∧
    (alertLine s p = true ↔
      ∃ i, i < 26 ∧ s.sticky.getLsbD i = true ∧ (s.link p).alertMask.getLsbD i = true)

/-- CLEAR_CONDITIONS and SET_ALERT_MASK. A mask beyond position 25 is refused and changes nothing. CLEAR_CONDITIONS clears
every marked condition that is set; the answer is DONE if one was set and DONE_UNCHANGED if none was, and it carries the
Sticky Set afterwards. SET_ALERT_MASK replaces the requesting port's mask, and the answer carries it with the level of the
port's alert line after the change. -/
def Obligations.ConditionsAreClearedAndMasksReplaced : Prop :=
  (∀ (f : Frame) (n : Nat) (s r : State), Admitted bothPorts f s r → f.body = u32 n → n < 4294967296 →
     (67108864 ≤ n → exec (.clearConditions f) s = .next (answered f 0x4A .outOfRange [] r)) ∧
     (n < 67108864 →
       ∃ sticky : BitVec 26,
         (∀ i, sticky.getLsbD i = (r.sticky.getLsbD i && !n.testBit i)) ∧
         liveSet { r with sticky := sticky } = liveSet r ∧
         exec (.clearConditions f) s = .next
           (answered f 0x4A
             (if (List.range 26).any (fun i => r.sticky.getLsbD i && n.testBit i) then .done else .doneUnchanged)
             (u32 sticky.toNat) { r with sticky := sticky }))) ∧
  (∀ (f : Frame) (n : Nat) (s r : State), Admitted bothPorts f s r → f.body = u32 n → n < 4294967296 →
     let p := viaPort f.via
     let status : Status := if (r.link p).alertMask.toNat = n then .doneUnchanged else .done
     (67108864 ≤ n → exec (.setAlertMask f) s = .next (answered f 0x4B .outOfRange [] r)) ∧
     (n < 67108864 →
       (p = .mp →
         let t : State := { r with mp := { r.mp with alertMask := BitVec.ofNat 26 n } }
         exec (.setAlertMask f) s = .next (answered f 0x4B status (u32 n ++ flag (alertLine t .mp)) t)) ∧
       (p = .sp →
         let t : State := { r with sp := { r.sp with alertMask := BitVec.ofNat 26 n } }
         exec (.setAlertMask f) s = .next (answered f 0x4B status (u32 n ++ flag (alertLine t .sp)) t))))

/-! ### Time and modes (chapter 1) -/

/-- CLOCK_ADVANCE: with the Time-Set Flag clear, or at the last second the Clock can hold, the advance is discarded; else the
Second of Day rises by one, at the turn of a day to 0 with the next Day Number, and a multiple of 900 raises one Interval
Boundary of Step 1 for each of the four blocks. With each advance the rest of its reference second has passed on the
millisecond time base and on the trains' running timers, which is the model's (log 3). Nothing else changes. -/
def Obligations.ClockAdvanceCountsOneSecond : Prop :=
  ∀ s : State, s.clock.second ≤ 86399 →
    let k := finishSecond s
    let boundary : Boundary :=
      { newInterval := s.interval + 1, step := .forward 1, dayStart := decide (s.clock.second = 86399) }
    let raisedAll : List Raised :=
      [.boundary .commitmentStore boundary, .boundary .horizonProjector boundary, .boundary .heatStoreUnit boundary,
       .boundary .dispatcher boundary]
    let held := s.clock.day = 65535 ∧ s.clock.second = 86399
    let rest := 1000 - s.clock.sinceAdvance
    let run (timer : Option Nat) : Option Nat := timer.map fun ms => min (ms + rest) 4294967295
    k = { s with
          clock := { s.clock with sinceAdvance := s.clock.sinceAdvance - 1000 }
          trains := s.trains.map fun c => { c with silence := run c.silence, startTimer := run c.startTimer }
          tables := { s.tables with millis := s.tables.millis + rest } } ∧
    (s.clock.timeSet = false ∨ held → exec .clockAdvance s = .next k) ∧
    (s.clock.timeSet = true → s.clock.second < 86399 → (s.clock.second + 1) % 900 ≠ 0 →
      exec .clockAdvance s = .next { k with clock := { k.clock with second := s.clock.second + 1 } }) ∧
    (s.clock.timeSet = true → s.clock.second < 86399 → (s.clock.second + 1) % 900 = 0 →
      exec .clockAdvance s = .next
        { k with clock := { k.clock with second := s.clock.second + 1 }, raised := s.raised ++ raisedAll }) ∧
    (s.clock.timeSet = true → s.clock.second = 86399 → s.clock.day < 65535 →
      exec .clockAdvance s = .next
        { k with
          clock := { k.clock with day := s.clock.day + 1, second := 0 }, raised := s.raised ++ raisedAll })

/-- SET_TIME: a Second of Day beyond 86,399 is OUT_OF_RANGE. In UNCONFIGURED and STANDBY a time is taken unless it lies in an
earlier interval while the Commitment Table is not empty; in DISPATCHING and STOPPING when it changes the time by at
most 60 s and lies in no earlier interval; else it is WRONG_STATE. A time taken is set at once with the Time-Set Flag,
raises one Boundary if its interval differs, and is DONE, or DONE_UNCHANGED for the time already held. Every answer
carries the Clock after the request. The Day Start of a Boundary is set for a forward move when the New Interval has
Interval Index 0 or the Step passes over such an interval, and for a REBASE when the Day Number changes. -/
def Obligations.SetTimeIsJudgedByTheMode : Prop :=
  (∀ (f : Frame) (day second : Nat) (s r : State), Admitted supervisoryOnly f s r → f.body = u16 day ++ u32 second →
    day < 65536 → second < 4294967296 → r.clock.second ≤ 86399 →
    let new := day * 96 + second / 900
    let change : Int := ((day * 86400 + second : Nat) : Int) - ((r.clock.day * 86400 + r.clock.second : Nat) : Int)
    let slew := r.dispatcher.mode = .dispatching ∨ r.dispatcher.mode = .stopping
    let taken :=
      (¬ slew ∧ (r.interval ≤ new ∨ r.store.commitments = [])) ∨
      (slew ∧ -60 ≤ change ∧ change ≤ 60 ∧ r.interval ≤ new)
    let refusedBody := clockOctets r.clock.day r.clock.second r.clock.timeSet
    let boundary : Boundary := if r.interval < new then forwardBoundary r.interval new else rebaseBoundary r.interval new
    let raisedAll : List Raised :=
      [.boundary .commitmentStore boundary, .boundary .horizonProjector boundary, .boundary .heatStoreUnit boundary,
       .boundary .dispatcher boundary]
    let clock : Clock := { r.clock with day := day, second := second, timeSet := true, sinceAdvance := 0 }
    let status : Status := if r.clock.timeSet = true ∧ change = 0 then .doneUnchanged else .done
    (86399 < second → exec (.setTime f) s = .next (answered f 0x40 .outOfRange refusedBody r)) ∧
    (second ≤ 86399 → ¬ taken → exec (.setTime f) s = .next (answered f 0x40 .wrongState refusedBody r)) ∧
    (second ≤ 86399 → taken → new = r.interval →
      exec (.setTime f) s = .next
        (answered f 0x40 status (clockOctets day second true) { r with clock := clock })) ∧
    (second ≤ 86399 → taken → new ≠ r.interval →
      exec (.setTime f) s = .next
        (answered f 0x40 status (clockOctets day second true)
          { r with clock := clock, raised := r.raised ++ raisedAll }))) ∧
  (∀ old new : Nat,
    (old < new →
      ((forwardBoundary old new).dayStart = true ↔ ∃ k, old < k ∧ k ≤ new ∧ k % 96 = 0) ∧
      (forwardBoundary old new).step = .forward (new - old) ∧ (forwardBoundary old new).newInterval = new) ∧
    (new < old →
      ((rebaseBoundary old new).dayStart = true ↔ new / 96 ≠ old / 96) ∧
      (rebaseBoundary old new).step = .rebase ∧ (rebaseBoundary old new).newInterval = new))

/-- START_DISPATCH and STOP_DISPATCH. START_DISPATCH: DONE_UNCHANGED in DISPATCHING; otherwise the first unmet prerequisite
is named in the body of WRONG_STATE and nothing changes; with all met the mode becomes DISPATCHING, the target is
evaluated, the Projector's pass-pending set, and the answer is DONE. STOP_DISPATCH: in DISPATCHING it is DONE, and the mode
becomes STANDBY if every setpoint is 0 and no train is in STARTING, RUNNING or UNLOADING, else STOPPING, with an evaluation
in that mode; in any other mode it is DONE_UNCHANGED and changes nothing. That the DONE and DONE_UNCHANGED answers have an
empty body is the model's choice (log 34). -/
def Obligations.DispatchStartsAndStopsUnderItsConditions : Prop :=
  (∀ (f : Frame) (s r : State), Admitted supervisoryOnly f s r → f.body = [] →
     let refused (body : List Octet) : Prop :=
       exec (.startDispatch f) s = .next (answered f 0x41 .wrongState body r)
     let standby := r.dispatcher.mode = .standby
     let ready : State := { r with dispatcher := { r.dispatcher with mode := .dispatching } }
     let someReady := ∃ t, (r.train t).state = .ready
     (r.dispatcher.mode = .dispatching → exec (.startDispatch f) s = .next (answered f 0x41 .doneUnchanged [] r)) ∧
     (r.dispatcher.mode = .unconfigured → refused [0, 1, 0]) ∧
     (r.dispatcher.mode = .stopping → refused [0, 1, 3]) ∧
     (standby → r.clock.timeSet = false → refused [1, 0]) ∧
     (standby → r.clock.timeSet = true → r.cavern.calibrated = false → refused [2, 0]) ∧
     (standby → r.clock.timeSet = true → r.cavern.calibrated = true →
       (r.tanks.t1.surveyed = false → refused [3, 1, 0]) ∧
       (r.tanks.t1.surveyed = true → r.tanks.t2.surveyed = false → refused [3, 1, 1]) ∧
       (r.tanks.t1.surveyed = true → r.tanks.t2.surveyed = true → r.tanks.t3.surveyed = false → refused [3, 1, 2]) ∧
       (r.tanks.t1.surveyed = true → r.tanks.t2.surveyed = true → r.tanks.t3.surveyed = true →
         (¬ someReady → refused [4, 0]) ∧
         (someReady →
           let e := evaluate ready
           e.dispatcher.mode = .dispatching ∧
           exec (.startDispatch f) s = .next (answered f 0x41 .done []
             (beginIfDue { e with projector := { e.projector with passPending := true } })))))) ∧
  (∀ (f : Frame) (s r : State), Admitted supervisoryOnly f s r → f.body = [] →
     let stopped := ∀ t, (r.train t).setpoint = 0 ∧ (r.train t).state ≠ .starting ∧ (r.train t).state ≠ .running ∧
       (r.train t).state ≠ .unloading
     let standby : State := { r with dispatcher := { r.dispatcher with mode := .standby } }
     let stopping : State := { r with dispatcher := { r.dispatcher with mode := .stopping } }
     (r.dispatcher.mode ≠ .dispatching → exec (.stopDispatch f) s = .next (answered f 0x42 .doneUnchanged [] r)) ∧
     (r.dispatcher.mode = .dispatching →
       (stopped → exec (.stopDispatch f) s = .next (answered f 0x42 .done [] (evaluate standby))) ∧
       (¬ stopped → exec (.stopDispatch f) s = .next (answered f 0x42 .done [] (evaluate stopping)))))

/-- RESET_DISPATCH: WRONG_STATE in UNCONFIGURED, with nothing changed; in every other mode DONE. The mode becomes STANDBY at
once, the Direction IDLE, the Target and every Share 0 and the Released flags clear; the Dispatcher evaluates in that state;
HEAT_CREDIT_LIMIT is shown for no compressor afterwards; and the reset is on its way to the Commitment Store, the Projector,
the Heat Store Unit and the Train Unit. The Open Interval, Delivered, the Duty Rotations, the Clock, the Commitment Store,
the Projector, the Cavern Account, the Tanks, the tables, the Loader, the conditions and the ports stay as they are; the
Schedule Value, Scheduled and the Scheduled Mark are as the evaluation leaves them. That the reset evaluates with the
Direction set to IDLE, and that no condition is shown again by its evaluation, is log 28; that DONE has an empty body is the
model's choice (log 34). -/
def Obligations.ResetDispatchSetsStandby : Prop :=
  ∀ (f : Frame) (s r : State), Admitted supervisoryOnly f s r → f.body = [] →
    (r.dispatcher.mode = .unconfigured → exec (.resetDispatch f) s = .next (answered f 0x43 .wrongState [] r)) ∧
    (r.dispatcher.mode ≠ .unconfigured →
      let standby : Dispatcher := { r.dispatcher with mode := .standby, direction := .idle, target := 0 }
      let k : State := evaluate
        { r with
          trains := r.trains.map fun c => { c with share := 0, released := false }
          dispatcher := standby }
      let t : State :=
        { k with
          trains := k.trains.map fun c => { c with creditLimit := false }
          raised := r.raised ++ [.storeReset, .projectorReset, .heatReset, .trainReset] }
      exec (.resetDispatch f) s = .next (answered f 0x43 .done [] t) ∧
      t.dispatcher.mode = .standby ∧ t.dispatcher.target = 0 ∧
      (∀ k, (t.train k).share = 0 ∧ (t.train k).released = false ∧ (t.train k).creditLimit = false) ∧
      (∀ k, trainKind k = .compressor → (liveSet t).getLsbD (6 + trainIndex k) = false) ∧
      t.raised = r.raised ++ [.storeReset, .projectorReset, .heatReset, .trainReset] ∧
      t.dispatcher.openInterval = r.dispatcher.openInterval ∧ t.dispatcher.delivered = r.dispatcher.delivered ∧
      t.dispatcher.compressorRotation = r.dispatcher.compressorRotation ∧
      t.dispatcher.expanderRotation = r.dispatcher.expanderRotation ∧
      t.clock = r.clock ∧ t.store = r.store ∧ t.projector = r.projector ∧ t.cavern = r.cavern ∧ t.tanks = r.tanks ∧
      t.tables = r.tables ∧ t.loader = r.loader ∧ t.sticky = r.sticky ∧ t.mp = r.mp ∧ t.sp = r.sp ∧
      t.arrivals = r.arrivals ∧ t.pending = r.pending)

/-! ### The Commitment Table and the Amendment Queue (chapters 3 and 4) -/

/-- ENTER. Its arrival checks in order: the mode, the port's right, Length and Power, the past, the Gate, the horizon, the
Market Reference and the room in the table; a refusal is answered at once and changes nothing. One that passes them while
nothing waits, no Pass is in flight and no reset is still to reach the Projector (log 6): a FIRM one is in the table at once,
at the place its key gives it, answered DONE with its Commitment Body, and a Pass begins; a TENTATIVE one becomes the Entry
in Service with a Trial under a Pass, unanswered, and the table stays. The Handle is the first value from the Next-Handle
Counter upward, wrapping from 4,095 to 1, that no held record carries. -/
def Obligations.EnterIsRefusedOrDecided : Prop :=
  (∀ (f : Frame) (q : EnterRequest) (s r : State), Admitted bothPorts f s r → f.body = enterOctets q → q.encodable →
    let refused (status : Status) (body : List Octet) : Prop :=
      exec (.enter f) s = .next (answered f 0x01 status body r)
    let right := if q.standing = .firm then viaPort f.via = .mp ∨ r.store.authority = .supervisory
      else viaPort f.via = .mp ∧ r.store.authority ≠ .supervisory
    let inBounds := 1 ≤ q.length ∧ q.length ≤ 192 ∧
      (if q.kind = .energy then -2700 ≤ q.power ∧ q.power ≤ 3600 ∧ q.power ≠ 0 else 1 ≤ q.power ∧ q.power ≤ 1200)
    let late := q.standing = .firm ∧ q.start ≤ r.interval
    let gated := q.standing = .tentative ∧ q.start < r.interval + r.clock.gateLead
    let beyond := r.interval + 191 < q.start + q.length - 1
    let duplicate := q.reference ≠ 0 ∧ ∃ c ∈ r.store.commitments, c.reference = q.reference
    (r.dispatcher.mode = .unconfigured → refused .wrongState []) ∧
    (r.dispatcher.mode ≠ .unconfigured →
      (¬ right → refused .noAuthority (u8 (authorityCode r.store.authority))) ∧
      (right → ¬ inBounds → refused .outOfRange []) ∧
      (right → inBounds →
        (late → refused .pastInterval []) ∧
        (gated → refused .gateClosed []) ∧
        (¬ late → ¬ gated →
          (beyond → refused .outOfRange []) ∧
          (¬ beyond → duplicate → refused .duplicateReference []) ∧
          (¬ beyond → ¬ duplicate → 64 ≤ r.store.commitments.length → refused .tableFull []))))) ∧
  (∀ (f : Frame) (q : EnterRequest) (s r : State), Admitted bothPorts f s r → f.body = enterOctets q → q.encodable →
    r.dispatcher.mode ≠ .unconfigured → hasRight r.store.authority (viaPort f.via) (.enter q) = true →
    enterInRange q = true → enterRefusal q r = none → (r.link (viaPort f.via)).outstanding < 12 →
    r.store.queue = [] → r.store.inService = none → r.projector.passState = .idle → behindReset r = false →
    let handle := freshHandle r.store
    let record : Commitment :=
      { handle := handle, reference := q.reference, kind := q.kind, standing := q.standing, phase := .pending,
        start := q.start, length := q.length, power := q.power, deployed := 0, atRisk := none, source := viaPort f.via }
    let entered : Store :=
      { r.store with
        commitments := insertRecord record r.store.commitments
        nextHandle := if handle < 4095 then handle + 1 else 1
        nextArrival := r.store.nextArrival + 1 }
    let entry : Entry :=
      { cls := .tentative, source := viaPort f.via, tag := f.tag, code := 0x01, amendment := .enter q,
        arrival := r.store.nextArrival, passing := 0 }
    let served : Store := { r.store with nextArrival := r.store.nextArrival + 1, inService := some entry }
    let link : PortLink := { r.link (viaPort f.via) with outstanding := (r.link (viaPort f.via)).outstanding + 1 }
    let screening : Projector :=
      { r.projector with
        passState := .screening, trial := some (.enter record), start := some (sampleStart r), workingCopy := [] }
    (q.standing = .firm →
      exec (.enter f) s =
        .next (beginPass (answered f 0x01 .done (commitmentBody record) { r with store := entered }))) ∧
    (q.standing = .tentative →
      exec (.enter f) s = .next (({ r with store := served, projector := screening } : State).setLink
        (viaPort f.via) link))) ∧
  (∀ st : Store, 1 ≤ st.nextHandle → st.nextHandle ≤ 4095 → st.commitments.length ≤ 64 →
    let value (n : Nat) : Nat := (st.nextHandle - 1 + n) % 4095 + 1
    let held (h : Nat) : Prop := ∃ c ∈ st.commitments, c.handle = h
    ∃ n, n ≤ 64 ∧ freshHandle st = value n ∧ ¬ held (value n) ∧ ∀ m, m < n → held (value m)) ∧
  (∀ (r : Commitment) (records : List Commitment),
    let before (x y : Commitment) : Prop := x.start < y.start ∨ (x.start = y.start ∧ x.handle < y.handle)
    ∃ front back : List Commitment, records = front ++ back ∧ insertRecord r records = front ++ r :: back ∧
      (∀ c ∈ front, ¬ before r c) ∧ ∀ c ∈ back.head?, before r c)

/-- The results of an AMEND. POWER of ENERGY: 0 retires the record with ZERO, else the result is held in −2,700..+3,600; of a
reserve it is held in 1..1,200. LENGTH is brought into 1..192 and then held so that the span ends by the Current
Interval Number + 191, and for an ACTIVE record not before the Current Interval Number. SATURATED shows each clamp or
hold. MARKET_REFERENCE is taken as it is. A result is refused on arrival with DUPLICATE_REFERENCE for a reference another
record carries, and of a TENTATIVE record with GATE_CLOSED when an interval it changes lies before the Gate. A preview is
answered at once, DONE or DONE_UNCHANGED with the conditions and the result value of the amendment, or with the refusal the
amendment would meet on arrival; nothing else changes. That for an ACTIVE record past its last interval and not settled yet
the hold at the Current Interval Number wins over R33's 192 is the model's choice (log 38). -/
def Obligations.AmendResultsAreFormedJudgedAndForetold : Prop :=
  (∀ (now : Nat) (c : Commitment) (q : AmendRequest),
    let present : Int := if q.field = .power then c.power else if q.field = .length then c.length else c.reference
    let raw : Int := if q.operation = .set then q.operand
      else if q.operation = .add then present + q.operand else present - q.operand
    let result := amendResult now c q
    (q.field = .power → c.kind = .energy →
      (raw = 0 → result = { value := 0, zero := true, saturated := false }) ∧
      (raw ≠ 0 → result.value = max (-2700) (min 3600 raw) ∧ result.zero = false ∧
        (result.saturated = true ↔ raw < -2700 ∨ 3600 < raw))) ∧
    (q.field = .power → c.kind ≠ .energy →
      result.value = max 1 (min 1200 raw) ∧ result.zero = false ∧
      (result.saturated = true ↔ raw < 1 ∨ 1200 < raw)) ∧
    (q.field = .length → c.start ≤ now + 191 → (c.isActive = true → c.start ≤ now ∧ now < c.start + 192) →
      let bounded : Int := max 1 (min 192 raw)
      let atHorizon : Int := min bounded (now + 192 - c.start)
      let held : Int := if c.isActive = true then max atHorizon (now + 1 - c.start) else atHorizon
      result.value = held ∧ result.zero = false ∧ 1 ≤ held ∧ held ≤ 192 ∧
      (result.saturated = true ↔ bounded ≠ raw ∨ atHorizon ≠ bounded ∨ held ≠ atHorizon) ∧
      c.start + held - 1 ≤ now + 191 ∧ (c.isActive = true → (now : Int) ≤ c.start + held - 1)) ∧
    (q.field = .length → c.isActive = true → c.start + 192 ≤ now →
      result = { value := (now + 1 - c.start : Nat), zero := false, saturated := true }) ∧
    (q.field = .marketReference → result = { value := raw, zero := false, saturated := false })) ∧
  (∀ (c : Commitment) (q : AmendRequest) (s : State), 1 ≤ c.length →
    let result := amendResult s.interval c q
    let gate := s.interval + s.clock.gateLead
    let duplicate := q.field = .marketReference ∧ result.value ≠ 0 ∧
      ∃ k ∈ s.store.commitments, k.handle ≠ c.handle ∧ (k.reference : Int) = result.value
    let last := c.start + c.length - 1
    let newLast := c.start + result.value.toNat - 1
    let changes (i : Nat) : Prop :=
      (q.field = .power ∧ c.start ≤ i ∧ i ≤ last) ∨ (q.field = .length ∧ min last newLast < i ∧ i ≤ max last newLast)
    let closed := ∃ i, changes i ∧ i < gate
    let refusal := amendArrivalRefusal c q result s
    (duplicate → refusal = some .duplicateReference) ∧
    (¬ duplicate → c.standing = .tentative → closed → refusal = some .gateClosed) ∧
    (¬ duplicate → c.standing = .firm ∨ ¬ closed → refusal = none)) ∧
  (∀ (f : Frame) (q : AmendRequest) (s r : State), Admitted bothPorts f s r → f.body = amendOctets q → q.encodable →
    q.preview = true →
    let status (k : Status) (body : List Octet) : Prop := exec (.amendPreview f) s = .next (answered f 0x02 k body r)
    let right := hasRight r.store.authority (viaPort f.via) (.amend q)
    (r.dispatcher.mode = .unconfigured → status .wrongState []) ∧
    (r.dispatcher.mode ≠ .unconfigured →
      (right = false → status .noAuthority (u8 (authorityCode r.store.authority))) ∧
      (right = true →
        ((∀ c ∈ r.store.commitments, c.handle ≠ q.handle) → status .notFound []) ∧
        (∀ c, findHandle q.handle r.store.commitments = some c →
          let result := amendResult r.interval c q
          let present : Int := if q.field = .power then c.power else if q.field = .length then c.length else c.reference
          let reference := q.field = .marketReference ∧ q.operation ≠ .set
          (reference → status .outOfRange []) ∧
          (¬ reference →
            (∀ refusal, amendArrivalRefusal c q result r = some refusal → status refusal []) ∧
            (amendArrivalRefusal c q result r = none →
              exec (.amendPreview f) s =
                .next (answeredWith f 0x02 (if result.zero = false ∧ result.value = present then .doneUnchanged else .done)
                  result.zero result.saturated
                  (u16 q.handle ++ u8 (fieldCode q.field) ++ operandOctets q.field result.value) r)))))))

/-- AMEND. Its arrival checks in order: the mode, the port's right, the Handle, the Operation on a MARKET_REFERENCE, and the
judgement of its result. One that passes while nothing waits, no Pass is in flight and no reset is still to reach the
Projector (log 6) is decided by its result and the record's Standing: unchanged, a Market Reference, a zero result, a change
of a FIRM record, and a change of a TENTATIVE record, which becomes the Entry in Service, with the next Arrival Order and a
Passing Count of 0, and is screened. -/
def Obligations.AmendIsRefusedOrDecided : Prop :=
  (∀ (f : Frame) (q : AmendRequest) (s r : State), Admitted bothPorts f s r → f.body = amendOctets q → q.encodable →
    q.preview = false →
    let refused (status : Status) (body : List Octet) : Prop :=
      exec (.amend f) s = .next (answered f 0x02 status body r)
    let right := if viaPort f.via = .mp then r.store.authority ≠ .supervisory else r.store.authority = .supervisory
    (r.dispatcher.mode = .unconfigured → refused .wrongState []) ∧
    (r.dispatcher.mode ≠ .unconfigured →
      (¬ right → refused .noAuthority (u8 (authorityCode r.store.authority))) ∧
      (right →
        ((∀ c ∈ r.store.commitments, c.handle ≠ q.handle) → refused .notFound []) ∧
        (∀ c, findHandle q.handle r.store.commitments = some c →
          let reference := q.field = .marketReference ∧ q.operation ≠ .set
          (reference → refused .outOfRange []) ∧
          (¬ reference → ∀ status, amendArrivalRefusal c q (amendResult r.interval c q) r = some status →
            refused status []))))) ∧
  (∀ (f : Frame) (q : AmendRequest) (c : Commitment) (s r : State), Admitted bothPorts f s r → f.body = amendOctets q →
    q.encodable → q.preview = false → r.dispatcher.mode ≠ .unconfigured →
    hasRight r.store.authority (viaPort f.via) (.amend q) = true → findHandle q.handle r.store.commitments = some c →
    (q.field = .marketReference → q.operation = .set) → (c.standing = .tentative → r.interval < c.start) →
    amendArrivalRefusal c q (amendResult r.interval c q) r = none → (r.link (viaPort f.via)).outstanding < 12 →
    r.store.queue = [] → r.store.inService = none → r.projector.passState = .idle → behindReset r = false →
    let result := amendResult r.interval c q
    let present : Int := if q.field = .power then c.power else if q.field = .length then c.length else c.reference
    let changed := amendedRecord r.interval q result c
    let counted : Store := { r.store with nextArrival := r.store.nextArrival + 1 }
    let written : Store :=
      { counted with commitments := changeRecord c.handle (amendedRecord r.interval q result) r.store.commitments }
    let removed : Store := { counted with commitments := removeRecord c.handle r.store.commitments }
    let reply (status : Status) (k : Commitment) : State → State :=
      answeredWith f 0x02 status result.zero result.saturated (commitmentBody k)
    let notice : List Raised := if c.standing = .firm ∧ c.isActive = true then [.activeFirm] else []
    let unchanged := result.zero = false ∧ result.value = present
    (unchanged → exec (.amend f) s = .next (beginIfDue (reply .doneUnchanged c { r with store := counted }))) ∧
    (¬ unchanged →
      (q.field = .marketReference →
        exec (.amend f) s = .next (beginIfDue (reply .done changed { r with store := written }))) ∧
      (result.zero = true →
        exec (.amend f) s =
          .next (beginPass (reply .done c { r with store := removed, raised := r.raised ++ notice }))) ∧
      (q.field ≠ .marketReference → result.zero = false → c.standing = .firm →
        exec (.amend f) s =
          .next (beginPass (reply .done changed { r with store := written, raised := r.raised ++ notice }))) ∧
      (q.field ≠ .marketReference → result.zero = false → c.standing = .tentative →
        let entry : Entry :=
          { cls := .tentative, source := viaPort f.via, tag := f.tag, code := 0x02, amendment := .amend q,
            arrival := r.store.nextArrival, passing := 0 }
        exec (.amend f) s =
          .next ((beginScreen (amendTrial c q result)
            { r with store := { counted with inService := some entry } }).setLink (viaPort f.via)
              { r.link (viaPort f.via) with outstanding := (r.link (viaPort f.via)).outstanding + 1 })))) ∧
  (∀ (now : Nat) (q : AmendRequest) (result : AmendResult) (c : Commitment),
    let changed := amendedRecord now q result c
    let length := result.value.toNat
    (q.field = .power → changed = { c with
      power := result.value, deployed := if c.kind = .energy then c.deployed else min c.deployed result.value.toNat }) ∧
    (q.field = .length → c.phase = .pending → changed = { c with length := length }) ∧
    (∀ remaining, q.field = .length → c.phase = .active remaining →
      changed = { c with length := length, phase := .active (c.start + length - now) }) ∧
    (q.field = .marketReference → changed = { c with reference := result.value.toNat }) ∧
    (q.field = .power → amendTrial c q result = .power c.handle c.start c.length result.value result.saturated) ∧
    (q.field = .length → amendTrial c q result = .length c.handle c.start c.length length result.saturated)) ∧
  (∀ (h : Nat) (f : Commitment → Commitment) (records : List Commitment),
    changeRecord h f records = records.map (fun c => if c.handle = h then f c else c) ∧
    removeRecord h records = records.filter fun c => decide (c.handle ≠ h))

/-- CONFIRM and RETIRE. Their arrival checks in order: the mode, the port's right, the Handle. Of a held record, while nothing
waits, no Pass is in flight and no reset is still to reach the Projector (log 6), CONFIRM makes a TENTATIVE record FIRM
without a Pass, and is DONE_UNCHANGED on a FIRM one; RETIRE removes the record of either Standing, answers with it as it
stood, sends the Active Firm Notice for a FIRM ACTIVE one, and a Pass begins. A Handle no record carries is NOT_FOUND. -/
def Obligations.ConfirmAndRetireAreRefusedOrDecided : Prop :=
  ∀ (f : Frame) (h : Nat) (s r : State), Admitted bothPorts f s r → f.body = u16 h → h < 65536 →
    let right := if viaPort f.via = .mp then r.store.authority ≠ .supervisory else r.store.authority = .supervisory
    let refused (status : Status) (body : List Octet) : Prop :=
      exec (.confirm f) s = .next (answered f 0x03 status body r) ∧
      exec (.retire f) s = .next (answered f 0x04 status body r)
    (r.dispatcher.mode = .unconfigured → refused .wrongState []) ∧
    (r.dispatcher.mode ≠ .unconfigured → ¬ right → refused .noAuthority (u8 (authorityCode r.store.authority))) ∧
    (r.dispatcher.mode ≠ .unconfigured → right →
      ((∀ c ∈ r.store.commitments, c.handle ≠ h) → refused .notFound []) ∧
      ((r.link (viaPort f.via)).outstanding < 12 → r.store.queue = [] → r.store.inService = none →
        r.projector.passState = .idle → behindReset r = false → ∀ c, findHandle h r.store.commitments = some c →
        let counted : Store := { r.store with nextArrival := r.store.nextArrival + 1 }
        let firm : Commitment := { c with standing := .firm }
        let confirmed : Store :=
          { counted with
            commitments := changeRecord c.handle (fun k => { k with standing := .firm }) r.store.commitments }
        let removed : Store := { counted with commitments := removeRecord c.handle r.store.commitments }
        let notice : List Raised := if c.standing = .firm ∧ c.isActive = true then [.activeFirm] else []
        (c.standing = .tentative →
          exec (.confirm f) s =
            .next (beginIfDue (answered f 0x03 .done (commitmentBody firm) { r with store := confirmed }))) ∧
        (c.standing = .firm →
          exec (.confirm f) s =
            .next (beginIfDue (answered f 0x03 .doneUnchanged (commitmentBody c) { r with store := counted }))) ∧
        exec (.retire f) s =
          .next (beginPass (answered f 0x04 .done (commitmentBody c)
            { r with store := removed, raised := r.raised ++ notice }))))

/-- DEPLOY: WRONG_STATE in UNCONFIGURED, NOT_FOUND for an unknown Handle, WRONG_STATE for an ENERGY, TENTATIVE or PENDING
record; on an ACTIVE FIRM reserve record Deployed becomes the Amount, held at the Power with SATURATED, DONE_UNCHANGED
for the Amount already deployed, and a change sends the Active Firm Notice. -/
def Obligations.DeployCallsOnAReserve : Prop :=
  ∀ (f : Frame) (h amount : Nat) (s r : State), Admitted marketOnly f s r → f.body = u16 h ++ u16 amount → h < 65536 →
    amount < 65536 →
    let refused (status : Status) : Prop := exec (.deploy f) s = .next (answered f 0x05 status [] r)
    (r.dispatcher.mode = .unconfigured → refused .wrongState) ∧
    (r.dispatcher.mode ≠ .unconfigured →
      ((∀ c ∈ r.store.commitments, c.handle ≠ h) → refused .notFound) ∧
      (∀ c, findHandle h r.store.commitments = some c →
        (c.kind = .energy ∨ c.standing = .tentative ∨ c.phase = .pending → refused .wrongState) ∧
        (c.kind ≠ .energy → c.standing = .firm → c.phase ≠ .pending →
          let deployed := min amount c.power.toNat
          let status : Status := if amount = c.deployed then .doneUnchanged else .done
          let written : Store :=
            { r.store with
              commitments := r.store.commitments.map fun k =>
                if k.handle = c.handle then { k with deployed := deployed } else k }
          let reply : State → State := answeredWith f 0x05 status false (decide (c.power.toNat < amount))
            (commitmentBody { c with deployed := deployed })
          (c.deployed = deployed → exec (.deploy f) s = .next (reply r)) ∧
          (c.deployed ≠ deployed →
            exec (.deploy f) s = .next (reply { r with store := written, raised := r.raised ++ [.activeFirm] })))))

/-- LOOKUP_COMMITMENT by Handle or by nonzero Market Reference, and LOOKUP_OUTAGE by Handle or from the next Handle on, answer
the record named or NOT_FOUND, and change nothing but the port's responses. WALK_FIRST sets the port's cursor to (From
Interval, 0), WALK_NEXT goes on from the cursor and is WRONG_STATE with it unset; each returns the first record in table
order whose key is greater, whose key the cursor takes, or NOT_FOUND with the cursor at the key it went on from. -/
def Obligations.RecordsAreLookedUpAndWalked : Prop :=
  (∀ (f : Frame) (key : Nat) (s r : State), Admitted bothPorts f s r →
     let commitment (k : Bool) (status : Status) (body : List Octet) : Prop :=
       f.body = flag k ++ u32 key → exec (.lookupCommitment f) s = .next (answered f 0x06 status body r)
     let outage (k : Bool) (status : Status) (body : List Octet) : Prop :=
       f.body = flag k ++ u8 key → exec (.lookupOutage f) s = .next (answered f 0x22 status body r)
     (key < 4294967296 →
       ((∀ c ∈ r.store.commitments, c.handle ≠ key) → commitment false .notFound []) ∧
       (key = 0 ∨ (∀ c ∈ r.store.commitments, c.reference ≠ key) → commitment true .notFound []) ∧
       (∀ before c after, r.store.commitments = before ++ c :: after →
         (c.handle = key → (∀ k ∈ before, k.handle ≠ key) → commitment false .done (commitmentBody c)) ∧
         (key ≠ 0 → c.reference = key → (∀ k ∈ before, k.reference ≠ key) →
           commitment true .done (commitmentBody c)))) ∧
     (key < 256 →
       ((∀ o ∈ r.tables.outages, o.handle ≠ key) → outage false .notFound []) ∧
       ((∀ o ∈ r.tables.outages, o.handle ≤ key) → outage true .notFound []) ∧
       (∀ before o after, r.tables.outages = before ++ o :: after →
         (o.handle = key → (∀ k ∈ before, k.handle ≠ key) → outage false .done (outageBody o)) ∧
         (key < o.handle → (∀ k ∈ before, k.handle ≤ key) → outage true .done (outageBody o))))) ∧
  (∀ (f : Frame) (s r : State), Admitted bothPorts f s r →
     let p := viaPort f.via
     let moved (key : Nat × Nat) : State := r.setLink p { r.link p with cursor := some key }
     let beyond (key : Nat × Nat) (c : Commitment) : Prop := key.1 < c.start ∨ (key.1 = c.start ∧ key.2 < c.handle)
     let goesOn (code : Octet) (outcome : Host.Outcome State Fault Refusal) (key : Nat × Nat) : Prop :=
       ((∀ c ∈ r.store.commitments, ¬ beyond key c) → outcome = .next (answered f code .notFound [] (moved key))) ∧
       (∀ before c after, r.store.commitments = before ++ c :: after → (∀ k ∈ before, ¬ beyond key k) → beyond key c →
         outcome = .next (answered f code .done (commitmentBody c) (moved (c.start, c.handle))))
     (∀ start, start < 4294967296 → f.body = u32 start → goesOn 0x07 (exec (.walkFirst f) s) (start, 0)) ∧
     (f.body = [] →
       ((r.link p).cursor = none → exec (.walkNext f) s = .next (answered f 0x08 .wrongState [] r)) ∧
       (∀ key, (r.link p).cursor = some key → goesOn 0x08 (exec (.walkNext f) s) key)))

/-- The Commitment Store's handling of a Boundary, and IMBALANCE_DELIVERY. Every record settles, a lapse sets
COMMITMENT_LAPSED, Day Start zeroes the Day Imbalance Position, and the Active Firm Notice is sent if a FIRM record changed
or left the table; that a lapse alone sends none is read from R53 (log 33). At a Step of 1 an ACTIVE record loses one
interval of its Remaining and completes at 0, and a PENDING one whose Start is the New Interval becomes ACTIVE if FIRM and
lapses if TENTATIVE; a Remaining that an amendment has formed for the New Interval already stays, which is read from R33
and R55 (log 29). A FIRM record that stays is ACTIVE exactly when its span covers the New Interval, and one leaves exactly
when its span has ended. At a larger Step a FIRM record is completed, made ACTIVE or kept by its span, and a TENTATIVE one lapses unless
its Start lies after the New Interval. A delivery sets the Last Interval Imbalance to the value held at its bounds, and the
Day Imbalance Position gains it, held too, if the closed interval belongs to the day the Clock then holds. -/
def Obligations.BoundariesSettleRecordsAndThePosition : Prop :=
  (∀ (b : Boundary) (left : List Raised) (s : State), Oldest (pickBoundary .commitmentStore) s.raised b left →
    let before := s.store.commitments
    let after := before.filterMap (settleRecord b)
    let lapsed := ∃ c ∈ before, c.standing = .tentative ∧ settleRecord b c = none
    let firm (those : List Commitment) : List Commitment := those.filter fun c => decide (c.standing = .firm)
    ∃ t : State, exec .commitmentBoundary s = .next t ∧
      t = { s with
            sticky := t.sticky, raised := t.raised,
            store := { s.store with
                       commitments := after,
                       dayImbalance := if b.dayStart then 0 else s.store.dayImbalance } } ∧
      (firm after ≠ firm before → t.raised = left ++ [.activeFirm]) ∧ (firm after = firm before → t.raised = left) ∧
      (∀ i, t.sticky.getLsbD i = true ↔ s.sticky.getLsbD i = true ∨ (i = 2 ∧ lapsed))) ∧
  (∀ (c : Commitment) (now remaining : Nat) (day : Bool),
    let one : Boundary := { newInterval := now, step := .forward 1, dayStart := day }
    let last := c.start + c.length - 1
    (c.phase = .active remaining → remaining + now = last + 2 →
      (2 ≤ remaining → settleRecord one c = some { c with phase := .active (remaining - 1), deployed := 0 }) ∧
      (remaining ≤ 1 → settleRecord one c = none)) ∧
    (c.phase = .active remaining → remaining + now = last + 1 → 1 ≤ remaining →
      settleRecord one c = some { c with deployed := 0 }) ∧
    (c.phase = .active remaining → now ≤ last →
      settleRecord one c = some { c with phase := .active (last + 1 - now), deployed := 0 }) ∧
    (c.phase = .active remaining → last < now → settleRecord one c = none) ∧
    (c.phase = .pending → now < c.start → settleRecord one c = some c) ∧
    (c.phase = .pending → c.start = now → c.standing = .tentative → settleRecord one c = none) ∧
    (c.phase = .pending → c.start = now → c.standing = .firm → 1 ≤ c.length →
      settleRecord one c = some { c with phase := .active c.length, deployed := 0 })) ∧
  (∀ (c : Commitment) (now step : Nat) (day : Bool), 2 ≤ step →
    let jump : Boundary := { newInterval := now, step := .forward step, dayStart := day }
    let last := c.start + c.length - 1
    (c.standing = .tentative → now < c.start → settleRecord jump c = some c) ∧
    (c.standing = .tentative → c.start ≤ now → settleRecord jump c = none) ∧
    (c.standing = .firm → last < now → settleRecord jump c = none) ∧
    (c.standing = .firm → c.start ≤ now → now ≤ last →
      settleRecord jump c = some { c with phase := .active (last + 1 - now), deployed := 0 }) ∧
    (c.standing = .firm → now < c.start → 1 ≤ c.length → settleRecord jump c = some c)) ∧
  (∀ (c : Commitment) (now step : Nat) (day : Bool), c.standing = .firm → 1 ≤ c.length →
    (c.isActive = true → c.start ≤ now) →
    let forward : Boundary := { newInterval := now, step := .forward step, dayStart := day }
    let last := c.start + c.length - 1
    (settleRecord forward c = none ↔ last < now) ∧
    ∀ k, settleRecord forward c = some k →
      k.start = c.start ∧ k.length = c.length ∧ (k.isActive = true ↔ c.start ≤ now ∧ now ≤ last) ∧
      ∀ remaining, k.phase = .active remaining → remaining + now = last + 1) ∧
  (∀ (closed : Nat) (kwh : Int) (left : List Raised) (s : State), Oldest pickImbalance s.raised (closed, kwh) left →
     let bound : Int := 2000000000
     let held := max (-bound) (min bound kwh)
     let day := if closed / 96 = s.clock.day then max (-bound) (min bound (s.store.dayImbalance + held))
       else s.store.dayImbalance
     exec .imbalanceDelivery s = .next
       { s with raised := left, store := { s.store with lastImbalance := held, dayImbalance := day } })

/-- The outcomes of CLAIM and of RELEASE, by port and Authority State; each answer carries the Authority State after the
request, and the entries already queued are not reached. -/
def Obligations.ClaimAndReleaseFollowTheirTables : Prop :=
  (∀ (f : Frame) (s r : State), Admitted bothPorts f s r → f.body = [] →
    let p := viaPort f.via
    let outcome (status : Status) (after : Authority) : Prop :=
      exec (.claim f) s = .next (answered f 0x10 status (u8 (authorityCode after))
        { r with store := { r.store with authority := after } })
    (r.store.authority = .market → p = .mp → outcome .doneUnchanged .market) ∧
    (r.store.authority = .market → p = .sp → outcome .noAuthority .market) ∧
    (r.store.authority = .openState → p = .mp → outcome .done .market) ∧
    (r.store.authority = .openState → p = .sp → outcome .done .supervisory) ∧
    (r.store.authority = .supervisory → p = .mp → outcome .wrongState .supervisory) ∧
    (r.store.authority = .supervisory → p = .sp → outcome .doneUnchanged .supervisory)) ∧
  (∀ (f : Frame) (s r : State), Admitted bothPorts f s r → f.body = [] →
    let p := viaPort f.via
    let outcome (status : Status) (after : Authority) : Prop :=
      exec (.release f) s = .next (answered f 0x11 status (u8 (authorityCode after))
        { r with store := { r.store with authority := after } })
    (p = .mp → r.store.authority = .market → outcome .done .openState) ∧
    (p = .mp → r.store.authority = .openState → outcome .doneUnchanged .openState) ∧
    (p = .mp → r.store.authority = .supervisory → outcome .wrongState .supervisory) ∧
    (p = .sp → r.store.authority = .supervisory → outcome .done .openState) ∧
    (p = .sp → r.store.authority = .market → outcome .doneUnchanged .market) ∧
    (p = .sp → r.store.authority = .openState → outcome .doneUnchanged .openState))

/-- The right of a port to a request that changes the schedule, under each Authority State, and FORCE. FORCE brings the
schedule to the Market Port from every state, sets AUTHORITY_FORCED only from SUPERVISORY, and leaves the queue as it is.
In the state it leaves, the service of an entry of the Supervisory Port that changes a Commitment is answered
AUTHORITY_LOST with the Authority State and changes nothing else. -/
def Obligations.AuthorityGivesTheRightToChangeTheSchedule : Prop :=
  (∀ (f : Frame) (s r : State), Admitted marketOnly f s r → f.body = [] →
    let market : Store := { r.store with authority := .market }
    (r.store.authority = .market → exec (.force f) s = .next (answered f 0x12 .doneUnchanged [0] r)) ∧
    (r.store.authority = .openState → exec (.force f) s = .next (answered f 0x12 .done [0] { r with store := market })) ∧
    (r.store.authority = .supervisory → ∃ sticky : BitVec 26,
      (∀ i, sticky.getLsbD i = true ↔ r.sticky.getLsbD i = true ∨ i = 1) ∧
      exec (.force f) s = .next (answered f 0x12 .done [0] { r with store := market, sticky := sticky }))) ∧
  (∀ (e : Entry) (s : State), s.store.authority = .market → e.source = .sp →
    (∀ q, e.amendment ≠ .enterOutage q) → (∀ h, e.amendment ≠ .retireOutage h) →
    serveEntry e s =
      answerEntry e { status := .authorityLost, zero := false, saturated := false, body := [0] } s) ∧
  (∀ (authority : Authority) (e : EnterRequest) (q : AmendRequest) (h : Nat),
    (∀ a, a = .amend q ∨ a = .confirm h ∨ a = .retire h →
      (hasRight authority .mp a = true ↔ authority ≠ .supervisory) ∧
      (hasRight authority .sp a = true ↔ authority = .supervisory)) ∧
    (e.standing = .firm → hasRight authority .mp (.enter e) = true ∧
      (hasRight authority .sp (.enter e) = true ↔ authority = .supervisory)) ∧
    (e.standing = .tentative → (hasRight authority .mp (.enter e) = true ↔ authority ≠ .supervisory) ∧
      hasRight authority .sp (.enter e) = false))

/-- What the service of a queued entry refuses, with the answer as its only effect. Checks in order: the authority; the
Handle; of an ENTER the past, the Gate, the horizon, the reference and the room; of an AMEND, on the result formed anew,
the reference, the Gate and the past; of the outage requests the past and the room, or the Handle. An ENTER_OUTAGE drops
the Expired records all the same. That the Gate comes before the past for an AMEND is the order of R72's table (log 27). -/
def Obligations.QueuedEntriesAreRefusedAtService : Prop :=
  ∀ (e : Entry) (s : State),
    let answer (status : Status) (body : List Octet) : State → State :=
      answerEntry e { status := status, zero := false, saturated := false, body := body }
    let refused (status : Status) : Prop := serveEntry e s = answer status [] s
    let right := hasRight s.store.authority e.source e.amendment = true
    let gate := s.interval + s.clock.gateLead
    let unknown (h : Nat) : Prop := ∀ c ∈ s.store.commitments, c.handle ≠ h
    (¬ right → serveEntry e s = answer .authorityLost (u8 (authorityCode s.store.authority)) s) ∧
    (∀ q, e.amendment = .enter q → right →
      let late := q.standing = .firm ∧ q.start ≤ s.interval
      let gated := q.standing = .tentative ∧ q.start < gate
      let beyond := s.interval + 191 < q.start + q.length - 1
      let duplicate := q.reference ≠ 0 ∧ ∃ c ∈ s.store.commitments, c.reference = q.reference
      (late → refused .pastInterval) ∧ (gated → refused .gateClosed) ∧
      (¬ late → ¬ gated →
        (beyond → refused .outOfRange) ∧
        (¬ beyond → duplicate → refused .duplicateReference) ∧
        (¬ beyond → ¬ duplicate → 64 ≤ s.store.commitments.length → refused .tableFull))) ∧
    (∀ q, e.amendment = .amend q → right →
      (unknown q.handle → refused .notFound) ∧
      (∀ c, findHandle q.handle s.store.commitments = some c →
        let onArrival := amendArrivalRefusal c q (amendResult s.interval c q) s
        (∀ status, onArrival = some status → refused status) ∧
        (onArrival = none → c.standing = .tentative → c.start ≤ s.interval → refused .pastInterval))) ∧
    (∀ h, e.amendment = .confirm h ∨ e.amendment = .retire h → right → unknown h → refused .notFound) ∧
    (∀ q, e.amendment = .enterOutage q →
      let kept := s.tables.outages.filter fun o => s.interval ≤ o.last
      let lost (t : Train) : Bool := s.tables.outages.any fun o => decide (o.train = t ∧ o.last < s.interval)
      let refusedClearing (status : Status) : Prop :=
        serveEntry e s = answer status []
          { s with
            tables := { s.tables with outages := kept }
            raised := s.raised ++ (allTrains.filter lost).map .train }
      (q.last < s.interval → refusedClearing .pastInterval) ∧
      (s.interval ≤ q.last → 16 ≤ kept.length → refusedClearing .tableFull)) ∧
    (∀ h, e.amendment = .retireOutage h → (∀ o ∈ s.tables.outages, o.handle ≠ h) → refused .notFound)

/-- How an entry of the Amendment Queue is answered, whatever its status: its response, which echoes its tag and its code, is
appended to the Response Queue of its own port, and that port's Outstanding Count falls by one. The answer of the Entry in
Service, while its port's Dropped Answer mark is set, is discarded instead: the mark is cleared, and the Outstanding Count
is left as it is. Nothing else changes. -/
def Obligations.EntriesAreAnsweredOnTheirOwnPort : Prop :=
  (∀ (e : Entry) (reply : Reply) (s : State),
    let link := s.link e.source
    let response : Response := { tag := e.tag, code := e.code, reply := reply }
    let taken : State := s.setLink e.source
      { link with responses := link.responses ++ [response], outstanding := link.outstanding - 1 }
    answerEntry e reply s = taken ∧
    (link.dropped = false → answerInService e reply s = taken) ∧
    (link.dropped = true → answerInService e reply s = s.setLink e.source { link with dropped := false })) ∧
  (∀ (f : Frame) (code : Octet) (status : Status) (zero saturated : Bool) (body : List Octet) (s : State),
    let link := s.link (viaPort f.via)
    let reply : Reply := { status := status, zero := zero, saturated := saturated, body := body }
    answeredWith f code status zero saturated body s = s.setLink (viaPort f.via)
      { link with responses := link.responses ++ [{ tag := f.tag, code := code, reply := reply }] } ∧
    answered f code status body s = answeredWith f code status false false body s) ∧
  (∀ (l : PortLink) (s : State), s.setLink .mp l = { s with mp := l } ∧ s.setLink .sp l = { s with sp := l } ∧
    s.link .mp = s.mp ∧ s.link .sp = s.sp)

/-- The Amendment Queue. A request for an amendment that passes its owner's arrival checks is admitted, whatever the queue
holds and the Projector does: its command answers the state that admission makes. Admission: PORT_LIMIT at an Outstanding Count of 12, QUEUE_FULL at 16 entries, both with nothing
changed; else the amendment joins the queue's young end with Passing Count 0, and the Outstanding Count rises by one, and
while an entry is in service, a Pass is in flight or a reset is still to reach the Projector (log 6) it waits there, else the
queue is served. The Class follows the request, and the Standing it names or its record has on arrival. Selection: the oldest entry at a Passing Count of 4,
else the oldest of Class AVAILABILITY, else the oldest FIRM one, else the oldest; and with it the Passing Count of every
older entry that stays rises by one. The selected entry is served in the same event, and the next selection follows as long
as the queue holds an entry, none is in service and no Pass is in flight. -/
def Obligations.TheQueueAdmitsSelectsAndServes : Prop :=
  (∀ (p : Port) (tag code : Octet) (a : Amendment) (s : State),
    let refused (status : Status) : State :=
      respond p tag code { status := status, zero := false, saturated := false, body := [] } s
    let entry : Entry :=
      { cls := classOf a s.store.commitments, source := p, tag := tag, code := code, amendment := a,
        arrival := s.store.nextArrival, passing := 0 }
    let queued : Store :=
      { s.store with queue := s.store.queue ++ [entry], nextArrival := s.store.nextArrival + 1 }
    (12 ≤ (s.link p).outstanding → admitAmendment p tag code a s = refused .portLimit) ∧
    ((s.link p).outstanding < 12 → 16 ≤ s.store.queue.length → admitAmendment p tag code a s = refused .queueFull) ∧
    ((s.link p).outstanding < 12 → s.store.queue.length < 16 →
      s.store.inService ≠ none ∨ s.projector.passState ≠ .idle ∨ behindReset s = true →
      admitAmendment p tag code a s =
        ({ s with store := queued } : State).setLink p
          { s.link p with outstanding := (s.link p).outstanding + 1 }) ∧
    ((s.link p).outstanding < 12 → s.store.queue.length < 16 →
      admitAmendment p tag code a s =
        serveQueue (({ s with store := queued } : State).setLink p
          { s.link p with outstanding := (s.link p).outstanding + 1 }))) ∧
  (∀ (f : Frame) (s r : State), r.dispatcher.mode ≠ .unconfigured →
    let p := viaPort f.via
    let admitted (c : Instr) (code : Octet) (a : Amendment) : Prop :=
      exec c s = .next (admitAmendment p f.tag code a r)
    let right := if p = .mp then r.store.authority ≠ .supervisory else r.store.authority = .supervisory
    (∀ q : EnterRequest, Admitted bothPorts f s r → f.body = enterOctets q → q.encodable →
      (if q.standing = .firm then p = .mp ∨ r.store.authority = .supervisory
       else p = .mp ∧ r.store.authority ≠ .supervisory) →
      1 ≤ q.length → q.length ≤ 192 →
      (if q.kind = .energy then -2700 ≤ q.power ∧ q.power ≤ 3600 ∧ q.power ≠ 0 else 1 ≤ q.power ∧ q.power ≤ 1200) →
      (q.standing = .firm → r.interval < q.start) →
      (q.standing = .tentative → r.interval + r.clock.gateLead ≤ q.start) →
      q.start + q.length - 1 ≤ r.interval + 191 →
      (q.reference = 0 ∨ ∀ c ∈ r.store.commitments, c.reference ≠ q.reference) → r.store.commitments.length < 64 →
      admitted (.enter f) 0x01 (.enter q)) ∧
    (∀ (q : AmendRequest) (c : Commitment), Admitted bothPorts f s r → f.body = amendOctets q → q.encodable →
      q.preview = false → right → findHandle q.handle r.store.commitments = some c →
      (q.field = .marketReference → q.operation = .set) →
      amendArrivalRefusal c q (amendResult r.interval c q) r = none →
      admitted (.amend f) 0x02 (.amend q)) ∧
    (∀ h, Admitted bothPorts f s r → f.body = u16 h → h < 65536 → right →
      (∃ c ∈ r.store.commitments, c.handle = h) →
      admitted (.confirm f) 0x03 (.confirm h) ∧ admitted (.retire f) 0x04 (.retire h)) ∧
    (∀ q : OutageRequest, Admitted supervisoryOnly f s r → f.body = outageOctets q → q.encodable →
      (q.derateMax.isSome = true ↔ q.kind = .derate) → q.first ≤ q.last →
      (∀ m, q.derateMax = some m → 1 ≤ m ∧ m ≤ (if trainKind q.train = .compressor then 900 else 1200)) →
      r.interval ≤ q.last → (r.tables.outages.filter fun o => r.interval ≤ o.last).length < 16 →
      admitted (.enterOutage f) 0x20 (.enterOutage q)) ∧
    (∀ h, Admitted supervisoryOnly f s r → f.body = u8 h → h < 256 → (∃ o ∈ r.tables.outages, o.handle = h) →
      admitted (.retireOutage f) 0x21 (.retireOutage h))) ∧
  (∀ (queue : List Entry) (e : Entry), queue.Pairwise (fun a b => a.arrival < b.arrival) →
    (∀ k ∈ queue, k.passing ≤ 4) → pickEntry queue = some e →
    let oldest (those : Entry → Prop) : Prop :=
      e ∈ queue ∧ those e ∧ ∀ k ∈ queue, those k → e.arrival ≤ k.arrival
    let guarded := ∃ k ∈ queue, k.passing = 4
    let available := ∃ k ∈ queue, k.cls = .availability
    let firm := ∃ k ∈ queue, k.cls = .firm
    (guarded → oldest fun k => k.passing = 4) ∧
    (¬ guarded → available → oldest fun k => k.cls = .availability) ∧
    (¬ guarded → ¬ available → firm → oldest fun k => k.cls = .firm) ∧
    (¬ guarded → ¬ available → ¬ firm → oldest fun _ => True) ∧
    (∀ k, k ∈ withoutSelected e.arrival queue ↔
      ∃ j ∈ queue, j ≠ e ∧ k = { j with passing := if j.arrival < e.arrival then j.passing + 1 else j.passing })) ∧
  (∀ (a : Amendment) (records : List Commitment),
    let cls := classOf a records
    (∀ q h, a = .enterOutage q ∨ a = .retireOutage h → cls = .availability) ∧
    (∀ h, a = .confirm h ∨ a = .retire h → cls = .firm) ∧
    (∀ q, a = .enter q → cls = if q.standing = .firm then .firm else .tentative) ∧
    (∀ q c, a = .amend q → findHandle q.handle records = some c →
      cls = if c.standing = .firm then .firm else .tentative)) ∧
  (∀ s : State,
    let waits := s.store.queue = [] ∨ s.store.inService ≠ none ∨ s.projector.passState ≠ .idle ∨ behindReset s = true
    (waits → serveQueue s = s) ∧
    (¬ waits → s.store.queue.Pairwise (fun a b => a.arrival < b.arrival) →
      ∃ e ∈ s.store.queue, pickEntry s.store.queue = some e ∧
        serveQueue s = serveQueue (beginIfDue (serveEntry e
          { s with store := { s.store with queue := withoutSelected e.arrival s.store.queue } })))) ∧
  (∀ s : State, behindReset s = true ↔
    (s.raised.filter fun r => decide (r = .storeReset)).length <
      (s.raised.filter fun r => decide (r = .projectorReset)).length)

/-! ### The Horizon Projector (chapter 5) -/

/-- The Projector's handling of a Boundary: the table is shifted, the Horizon Status STALE and pass-pending set. With no Pass in
flight one begins if due; a Pass in flight sets PASS_RESTARTED and is restarted from a new Start State, with its Trial if
that passes the judgement of its own fields, else without it and with the Entry in Service, if there is one, answered. The
shift drops the rows before the New Interval and adds UNPROJECTED ones; a REBASE makes every row new. -/
def Obligations.ABoundaryShiftsTheHorizonAndRestartsThePass : Prop :=
  (∀ (b : Boundary) (left : List Raised) (s : State), Oldest (pickBoundary .horizonProjector) s.raised b left →
    let shifted : Projector :=
      { s.projector with horizon := shiftHorizon b s.projector.horizon, current := false, passPending := true }
    let quiet : State := { s with raised := left, projector := shifted }
    let restarted : State := { quiet with sticky := s.sticky ||| 8#26 }
    (s.projector.passState = .idle → exec .horizonShift s = .next (beginIfDue quiet)) ∧
    (s.projector.passState ≠ .idle →
      (s.projector.trial = none → exec .horizonShift s = .next (beginPass restarted)) ∧
      (∀ trial, s.projector.trial = some trial →
        (trialRefusal trial s = none → exec .horizonShift s = .next (beginScreen trial restarted)) ∧
        (∀ status, trialRefusal trial s = some status → s.store.inService = none →
          exec .horizonShift s = .next (beginPass restarted)) ∧
        (∀ status e, trialRefusal trial s = some status → s.store.inService = some e →
          exec .horizonShift s = .next (beginPass (answerInService e
            { status := status, zero := false, saturated := false, body := [] }
            { restarted with store := { s.store with inService := none } })))))) ∧
  (∀ (now step base : Nat) (day : Bool) (rows : List Row), rows.map Row.interval = (List.range 192).map (base + ·) →
    base + step = now →
    shiftHorizon { newInterval := now, step := .forward step, dayStart := day } rows =
      rows.drop step ++ (List.range (min step 192)).map (fun i => Row.unprojected (now + (192 - min step 192) + i)) ∧
    shiftHorizon { newInterval := now, step := .rebase, dayStart := day } rows =
      (List.range 192).map fun i => Row.unprojected (now + i)) ∧
  (∀ (r : Commitment) (h start old new : Nat) (power : Int) (b : Bool) (s : State),
    let gate := s.interval + s.clock.gateLead
    (trialRefusal (.enter r) s = some .gateClosed ↔ r.start < gate) ∧
    (trialRefusal (.enter r) s = some .outOfRange ↔ gate ≤ r.start ∧ s.interval + 191 < r.start + r.length - 1) ∧
    (trialRefusal (.power h start old power b) s = some .pastInterval ↔ start ≤ s.interval) ∧
    (trialRefusal (.power h start old power b) s = some .gateClosed ↔ s.interval < start ∧ start < gate) ∧
    (trialRefusal (.length h start old new b) s = some .pastInterval ↔ start ≤ s.interval) ∧
    (1 ≤ old → 1 ≤ new →
      (trialRefusal (.length h start old new b) s = some .gateClosed ↔
        s.interval < start ∧ ∃ i, min (start + old - 1) (start + new - 1) < i ∧
          i ≤ max (start + old - 1) (start + new - 1) ∧ i < gate)))

/-- How Passes begin. A trigger sets pass-pending. A Pass without a Trial makes the Pass State PROJECTING and clears
pass-pending, one with a Trial makes it SCREENING and leaves pass-pending; either samples a Start State and has an empty
Working Copy. A pending Pass begins just when the Projector is idle and the mode is not UNCONFIGURED. Each sampled item is
its owner's as it stands: the heat totals over surveyed Tanks, the seconds left in the interval, the trains neither TRIPPED
nor LOST with their cached descriptors, the tables and the constants. A Trial of an ENTER adds its record to the sampled
ones, one of an AMEND replaces Power or Length of the record it names. -/
def Obligations.PassesBeginFromTheSampledState : Prop :=
  (∀ (trial : Trial) (s : State),
    let p := s.projector
    let due := p.passPending = true ∧ p.passState = .idle ∧ s.dispatcher.mode ≠ .unconfigured
    triggerPass s = { s with projector := { p with passPending := true } } ∧
    beginPass s = { s with projector :=
      { p with passState := .projecting, trial := none, start := some (sampleStart s), workingCopy := [],
               passPending := false } } ∧
    beginScreen trial s = { s with projector :=
      { p with passState := .screening, trial := some trial, start := some (sampleStart s), workingCopy := [] } } ∧
    (due → beginIfDue s = beginPass s) ∧ (¬ due → beginIfDue s = s)) ∧
  (∀ s : State,
    let energy (layers : List Layer) : Nat := (layers.map Layer.energy).sum
    let surveyed : List TankState := [s.tanks.t1, s.tanks.t2, s.tanks.t3].filter TankState.surveyed
    let warm (v : TankState) : Nat := energy (v.layers.filter fun l => decide (s.loader.heat.tUse ≤ l.temperature))
    let held (tank : Tank) : Nat :=
      (([s.trains.k1, s.trains.k2, s.trains.k3].filter fun c => decide (c.boundTank = tank)).map
        TrainContext.reservation).sum
    let room (tank : Tank) : Nat :=
      if (s.tank tank).surveyed = true then
        (s.tank tank).capacity - energy (s.tank tank).layers - held tank
      else 0
    let st := sampleStart s
    st.mass = s.cavern.mass ∧ st.pressure = s.cavern.pressure ∧
    st.usable = (surveyed.map warm).sum ∧
    st.free = room .t1 + room .t2 + room .t3 ∧
    st.remaining = 900 - s.clock.second % 900 ∧
    st.base = s.clock.day * 96 + s.clock.second / 900 ∧
    (∀ t, ((st.trains.get t).available = true ↔ (s.train t).state ≠ .tripped ∧ (s.train t).state ≠ .lost) ∧
      (st.trains.get t).descriptor = (s.train t).selection.map Selection.descriptor) ∧
    st.outages = s.tables.outages ∧ st.commitments = s.store.commitments ∧
    st.rates = s.loader.rates ∧ st.heat = s.loader.heat ∧ st.characteristic = s.cavern.characteristic ∧
    st.thresholds = s.cavern.thresholds ∧ st.rateLimit = s.loader.rateLimit) ∧
  (∀ (r : Commitment) (h start old n : Nat) (p : Int) (held : Bool) (records : List Commitment),
    overlay none records = records ∧
    overlay (some (.enter r)) records = records ++ [r] ∧
    overlay (some (.power h start old p held)) records =
      records.map (fun c => if c.handle = h then { c with power := p } else c) ∧
    overlay (some (.length h start old n held)) records =
      records.map (fun c => if c.handle = h then { c with length := n } else c))

/-- PASS_COMPLETION. Without a Trial the rows of the Pass become the Horizon Table, CURRENT, and every At Risk mark is
rewritten, SCHEDULE_AT_RISK set when a clear mark becomes set. With a Trial it is refused, INFEASIBLE, when a row fails
over a FEASIBLE row of the table, with the first such row in
the order of the rows and their count, else it is written, the rows adopted and the entry answered DONE with its record;
without an Entry in Service it is discarded. The Projector is then idle, a Pass begins if one is pending, and the queue is
served. With no Pass in flight nothing happens. An accepted Trial of an ENTER enters its record, whose Handle moves the
Next-Handle Counter on; one of an AMEND replaces Power or Length of the record it names. That a completion between the two
handlings of a Boundary writes a record of an ENTER whose Start the Boundary has reached is the model's choice (log 37). -/
def Obligations.ACompletedPassIsAdoptedOrJudged : Prop :=
  (∀ s : State,
    let rows := finishedRows s.projector
    let ended (p : Projector) : Projector :=
      { p with passState := .idle, trial := none, start := none, workingCopy := [] }
    let current : Projector := { s.projector with horizon := rows, current := true }
    let pending : Projector := { s.projector with passPending := true }
    let base := (rows.head?.map Row.interval).getD s.interval
    let marked (records : List Commitment) : List Commitment :=
      records.map fun c => { c with atRisk := atRiskMark rows base c }
    let newly (records : List Commitment) : Bool :=
      records.any fun c => decide (c.atRisk = none ∧ atRiskMark rows base c ≠ none)
    let breaking := breakingRows s.projector.horizon rows
    let goOn (t : State) : State := serveQueue (beginIfDue t)
    (s.projector.passState = .idle → exec .passCompletion s = .next s) ∧
    (s.projector.passState ≠ .idle → s.projector.trial = none →
      exec .passCompletion s = .next (goOn
        { s with
          projector := ended current
          store := { s.store with commitments := marked s.store.commitments }
          sticky := if newly s.store.commitments then s.sticky ||| 1#26 else s.sticky })) ∧
    (s.projector.passState ≠ .idle → s.projector.trial ≠ none → s.store.inService = none →
      exec .passCompletion s = .next (goOn { s with projector := ended pending })) ∧
    (∀ trial e, s.projector.passState ≠ .idle → s.projector.trial = some trial → s.store.inService = some e →
      (∀ first more, breaking = first :: more →
        let refused : Reply :=
          { status := .infeasible, zero := false, saturated := false,
            body := u32 first.interval ++ failureSet first.failures ++ u8 breaking.length }
        exec .passCompletion s = .next (goOn (answerInService e refused
          { s with projector := ended s.projector, store := { s.store with inService := none } }))) ∧
      (breaking = [] →
        let written := (writeTrial trial s).store
        ∀ c, findHandle trial.handle (marked written.commitments) = some c →
          let accepted : Reply :=
            { status := .done, zero := false, saturated := trial.saturated, body := commitmentBody c }
          exec .passCompletion s = .next (goOn (answerInService e accepted
            { s with
              projector := ended current
              store := { written with commitments := marked written.commitments, inService := none }
              sticky := if newly written.commitments then s.sticky ||| 1#26 else s.sticky }))))) ∧
  (∀ (r : Commitment) (h start old n : Nat) (p : Int) (held : Bool) (s : State),
    let written (records : List Commitment) : State := { s with store := { s.store with commitments := records } }
    let powered (c : Commitment) : Commitment :=
      { c with power := p, deployed := if c.kind = .energy then c.deployed else min c.deployed p.toNat }
    let lengthened (c : Commitment) : Commitment :=
      match c.phase with
      | .pending => { c with length := n }
      | .active _ => { c with length := n, phase := .active (c.start + n - s.interval) }
    writeTrial (.enter r) s =
      { s with store :=
          { s.store with
            commitments := insertRecord r s.store.commitments
            nextHandle := if r.handle < 4095 then r.handle + 1 else 1 } } ∧
    writeTrial (.power h start old p held) s =
      written (s.store.commitments.map fun c => if c.handle = h then powered c else c) ∧
    writeTrial (.length h start old n held) s =
      written (s.store.commitments.map fun c => if c.handle = h then lengthened c else c)) ∧
  (∀ (horizon rows : List Row) (r : Row), r ∈ breakingRows horizon rows ↔
    r ∈ rows ∧ r.failing = true ∧ ∃ h ∈ horizon, h.interval = r.interval ∧ h.verdict = .feasible) ∧
  (∀ horizon rows : List Row,
    (breakingRows horizon rows).Sublist rows ∧
    breakingRows horizon rows = rows.filter fun r =>
      decide (r.failing = true ∧ ∃ h ∈ horizon, h.interval = r.interval ∧ h.verdict = .feasible)) ∧
  (∀ (rows : List Row) (base i : Nat) (c : Commitment), rows.Pairwise (fun a b => a.interval < b.interval) →
    (atRiskMark rows base c = some i ↔
      ¬ (c.standing = .tentative ∧ c.start ≤ base) ∧
      (∃ r ∈ rows, r.interval = i ∧ r.failing = true ∧ c.start ≤ i ∧ i ≤ c.start + c.length - 1) ∧
      ∀ r ∈ rows, r.failing = true → c.start ≤ r.interval → r.interval ≤ c.start + c.length - 1 → i ≤ r.interval))

/-- The bodies that several answers share, field by field: the Commitment Body, with Remaining while ACTIVE, Deployed on an
ACTIVE FIRM reserve record and the First Failing Interval while At Risk; the Outage Body; a descriptor with its Generation;
a Layer, an Underdraw and a Last Report; the Train body and the Tank body. Quantities are sent most significant octet first,
signed ones as two's complement; an optional field is its presence octet and the field, a list its count octet and the
items, an enumeration a position in its listing, a status its value in R21, a Failure Set one position for each failure and tag. The widths of the
fields of a Last Report and of a Run Start, and the Generation behind the Cached Descriptor, are the model's (log 7). -/
def Obligations.SharedBodiesAreSpelled : Prop :=
  (∀ (n : Nat) (x : Int) (f : Nat → List Octet) (items : List Nat),
    let octet (k : Nat) : Octet := BitVec.ofNat 8 (n / 256 ^ k)
    u8 n = [octet 0] ∧ u16 n = [octet 1, octet 0] ∧ u32 n = [octet 3, octet 2, octet 1, octet 0] ∧
    (0 ≤ x → s16 x = u16 x.toNat ∧ s32 x = u32 x.toNat ∧ s64 x = u64 x.toNat) ∧
    (-32768 ≤ x → x < 0 → s16 x = u16 (65536 + x).toNat) ∧
    (-2147483648 ≤ x → x < 0 → s32 x = u32 (4294967296 + x).toNat) ∧
    (-9223372036854775808 ≤ x → x < 0 → s64 x = u64 (18446744073709551616 + x).toNat) ∧
    u64 n = [octet 7, octet 6, octet 5, octet 4, octet 3, octet 2, octet 1, octet 0] ∧
    flag false = [0] ∧ flag true = [1] ∧ optional f none = [0] ∧ optional f (some n) = 1 :: f n ∧
    counted f items = u8 items.length ++ (items.map f).flatten) ∧
  (∀ c : Commitment,
    let body (phase : Octet) (remaining deployed : Option Nat) : List Octet :=
      u16 c.handle ++ u32 c.reference ++ u8 (kindCode c.kind) ++ u8 (standingCode c.standing) ++ [phase] ++
      u32 c.start ++ u8 c.length ++ optional u8 remaining ++ s16 c.power ++ optional u16 deployed ++
      flag c.atRisk.isSome ++ optional u32 c.atRisk ++ u8 (portCode c.source)
    (c.phase = .pending → commitmentBody c = body 0 none none) ∧
    (∀ remaining, c.phase = .active remaining →
      (c.standing = .firm → c.kind ≠ .energy → commitmentBody c = body 1 (some remaining) (some c.deployed)) ∧
      (c.standing = .tentative ∨ c.kind = .energy → commitmentBody c = body 1 (some remaining) none))) ∧
  (∀ (o : Outage) (d : Descriptor) (generation : Nat) (l : Layer) (u : Underdraw) (r : Report),
    outageBody o = u8 o.handle ++ u8 (trainIndex o.train) ++ u32 o.first ++ u32 o.last ++
      u8 (outageKindCode o.kind) ++ optional u16 o.derateMax ∧
    descriptorBody d generation = descriptorOctets d ++ u16 generation ∧
    descriptorOctets d = u8 (trainKindCode d.kind) ++ flag d.valid ++ u16 d.minLoad ++ u16 d.maxLoad ++
      optional u16 d.coldMax ++ u8 d.rampUp ++ u8 d.rampDown ++ u16 d.startLimit ++ optional u16 d.heatRate ++
      flag d.reserveCapable ∧
    layerBody l = u16 l.temperature ++ u32 l.energy ++ u8 (originCode l.origin) ++ u32 l.entry ∧
    underdrawBody u = u32 u.amount ++ u8 (trainIndex u.train) ++ u32 u.interval ∧
    reportBody r = u8 (reportStatusCode r.status) ++ u16 r.power ++ u16 r.massFlow ++ u32 r.heat ++
      u16 r.temperature ++ u16 r.elapsed) ∧
  (∀ (s : State) (t : Train) (tank : Tank),
    let c := s.train t
    let v := s.tank tank
    trainBody t s =
      u8 (trainIndex t) ++ u8 (trainStateCode c.state) ++ optional u8 (c.selection.map Selection.selector) ++
      optional (fun sel => descriptorBody sel.descriptor sel.generation) c.selection ++
      optional u16 (c.selection.map Selection.generation) ++ flag (envelopeStale s t) ++ u8 (tankIndex c.boundTank) ++
      optional reportBody c.lastReport ++ u16 c.setpoint ++ u16 c.share ++ u32 c.reservation ++
      optional (fun at_ => u32 at_.1 ++ u32 at_.2) c.runStart ++ optional u32 c.silence ++
      optional u32 c.startTimer ++ u16 (currentLimit s t) ∧
    tankBody tank s =
      u8 (tankIndex tank) ++ flag v.surveyed ++ u32 v.capacity ++ u32 (v.layers.map Layer.energy).sum ++
      u32 (reservedEnergy s.trains tank) ++
      u32 (v.capacity - (v.layers.map Layer.energy).sum - reservedEnergy s.trains tank) ++
      u32 ((v.layers.filter fun l => s.loader.heat.tUse ≤ l.temperature).map Layer.energy).sum ++
      optional u16 (v.layers.head?.map Layer.temperature) ++ u8 (standingPosition (topStanding s tank)) ++
      u32 v.spillTotal ++ optional underdrawBody v.lastUnderdraw ++ counted layerBody v.layers ∧
    (v.layers = [] → standingPosition (topStanding s tank) = 2) ∧
    (∀ top below, v.layers = top :: below → standingPosition (topStanding s tank) =
      if s.loader.heat.tUse ≤ top.temperature then 0 else 1)) ∧
  ([CommitmentKind.energy, .reserveUp, .reserveDown].map kindCode = [0, 1, 2] ∧
    [Standing.tentative, .firm].map standingCode = [0, 1] ∧ [Port.mp, .sp].map portCode = [0, 1] ∧
    [Train.k1, .k2, .k3, .x1, .x2, .x3].map trainIndex = [0, 1, 2, 3, 4, 5] ∧
    [Tank.t1, .t2, .t3].map tankIndex = [0, 1, 2] ∧ [OutageKind.full, .derate].map outageKindCode = [0, 1] ∧
    [TrainKind.compressor, .expander].map trainKindCode = [0, 1] ∧
    [Origin.k1, .k2, .k3, .survey].map originCode = [0, 1, 2, 3] ∧
    [ReportedStatus.off, .ready, .starting, .running, .stopping, .tripped].map reportStatusCode =
      [0, 1, 2, 3, 4, 5] ∧
    [TrainState.offline, .ready, .starting, .running, .unloading, .tripped, .lost].map trainStateCode =
      [0, 1, 2, 3, 4, 5, 6] ∧
    [Status.done, .doneUnchanged].map statusCode = [0x00, 0x01] ∧
    [Status.badRequest, .notPermitted, .noAuthority, .authorityLost, .notFound, .tableFull, .queueFull, .portLimit,
      .gateClosed, .pastInterval, .outOfRange, .infeasible, .duplicateReference, .wrongKind, .wrongState, .tankInUse,
      .aborted].map statusCode =
      [0x10, 0x11, 0x12, 0x13, 0x14, 0x15, 0x16, 0x17, 0x18, 0x19, 0x1A, 0x1B, 0x1C, 0x1D, 0x1E, 0x1F, 0x20] ∧
    [FaultDetail.unknownCode, .bodyShort, .bodyLong, .badEncoding].map faultCode = [0, 1, 2, 3] ∧
    [Mode.unconfigured, .standby, .dispatching, .stopping].map modeCode = [0, 1, 2, 3] ∧
    [Authority.market, .openState, .supervisory].map authorityCode = [0, 1, 2] ∧
    [Direction.idle, .charging, .generating, .reversing].map directionCode = [0, 1, 2, 3] ∧
    [Band.normal, .lowWarn, .lowLimit, .highWarn, .highLimit].map bandCode = [0, 1, 2, 3, 4] ∧
    [PassState.idle, .projecting, .screening].map passCode = [0, 1, 2] ∧
    verdictCode .unprojected = 0 ∧ verdictCode .feasible = 1 ∧ (∀ failures, verdictCode (.failing failures) = 2) ∧
    [AmendField.power, .length, .marketReference].map fieldCode = [0, 1, 2] ∧
    [AmendOperation.set, .add, .subtract].map operationCode = [0, 1, 2] ∧
    [OrderCommand.hold, .start, .run, .stop].map commandCode = [0, 1, 2, 3]) ∧
  (∀ members : List (Failure × PointTag), ∃ n, n < 262144 ∧ failureSet members = u8 (n / 65536) ++ u16 n ∧
    ∀ (k j : Nat) (f : Failure) (tag : PointTag),
      [Failure.capacity, .pressureLow, .pressureHigh, .rate, .heatShort, .heatFull][k]? = some f →
      [PointTag.scheduled, .upPoint, .downPoint][j]? = some tag →
      (n.testBit (3 * k + j) = true ↔ (f, tag) ∈ members))

/-- The lookups by interval, train, Selector and Tank: LOOKUP_ROW answers the row of the interval, NOT_FOUND outside the current
interval and the 191 after it, with sums held within their encodings and SATURATED; LOOKUP_TRAIN, LOOKUP_ENVELOPE and
LOOKUP_TANK answer their records. Nothing but the port's responses changes. The widths of the fields of the Last Report in
LOOKUP_TRAIN's body are the model's (log 7). Between the Clock's move and the Projector's shift the row of LOOKUP_ROW is found
by its Interval Number and its index counts from the new Current Interval Number, which is the model's choice (log 40). -/
def Obligations.RowsTrainsTanksAndEnvelopesAreLookedUp : Prop :=
  ∀ (f : Frame) (s r : State), Admitted bothPorts f s r →
    (∀ n, n < 4294967296 → f.body = u32 n →
      (n < r.interval ∨ r.interval + 191 < n → exec (.lookupRow f) s = .next (answered f 0x18 .notFound [] r)) ∧
      (∀ before row after, r.interval ≤ n → n ≤ r.interval + 191 → r.projector.horizon = before ++ row :: after →
        row.interval = n → (∀ k ∈ before, k.interval ≠ n) →
        let net := max (-32768) (min 32767 row.net)
        let up := min row.up 65535
        let down := min row.down 65535
        exec (.lookupRow f) s = .next
          (answeredWith f 0x18 .done false (decide (net ≠ row.net ∨ up ≠ row.up ∨ down ≠ row.down))
            (u32 n ++ u8 (n - r.interval) ++ s16 net ++ u16 up ++ u16 down ++ u16 row.genCapacity ++
             u16 row.chgCapacity ++ u16 row.reserveGen ++ u16 row.reserveChg ++ u32 row.endMass ++
             u16 row.endPressure ++ u32 row.endUsable ++ u32 row.endFree ++ u8 (verdictCode row.verdict) ++
             failureSet row.failures) r))) ∧
    (∀ t, f.body = u8 (trainIndex t) →
      let c := r.train t
      exec (.lookupTrain f) s = .next
        (answered f 0x28 .done
          (u8 (trainIndex t) ++ u8 (trainStateCode c.state) ++ optional u8 (c.selection.map Selection.selector) ++
           optional (fun sel => descriptorBody sel.descriptor sel.generation) c.selection ++
           optional u16 (c.selection.map Selection.generation) ++ flag (envelopeStale r t) ++
           u8 (tankIndex c.boundTank) ++ optional reportBody c.lastReport ++ u16 c.setpoint ++ u16 c.share ++
           u32 c.reservation ++ optional (fun at_ => u32 at_.1 ++ u32 at_.2) c.runStart ++ optional u32 c.silence ++
           optional u32 c.startTimer ++ u16 (currentLimit r t)) r)) ∧
    (∀ n, n < 256 → f.body = u8 n →
      (r.tables.envelopes.length ≤ n → exec (.lookupEnvelope f) s = .next (answered f 0x29 .outOfRange [] r)) ∧
      (∀ row, r.tables.envelopes[n]? = some row →
        exec (.lookupEnvelope f) s = .next
          (answered f 0x29 .done (descriptorOctets row.descriptor ++ u16 row.generation) r))) ∧
    (∀ tank, f.body = u8 (tankIndex tank) →
      let v := r.tank tank
      let stored := (v.layers.map Layer.energy).sum
      let usable := ((v.layers.filter fun l => r.loader.heat.tUse ≤ l.temperature).map Layer.energy).sum
      let reserved := reservedEnergy r.trains tank
      exec (.lookupTank f) s = .next
        (answered f 0x38 .done
          (u8 (tankIndex tank) ++ flag v.surveyed ++ u32 v.capacity ++ u32 stored ++ u32 reserved ++
           u32 (v.capacity - stored - reserved) ++ u32 usable ++ optional u16 (v.layers.head?.map Layer.temperature) ++
           u8 (standingPosition (topStanding r tank)) ++ u32 v.spillTotal ++ optional underdrawBody v.lastUnderdraw ++
           counted layerBody v.layers) r))

/-- RESET_DISPATCH at the four blocks. The Commitment Store answers every queued entry and the Entry in Service ABORTED, in
Arrival Order, each on its own port and each lowering its Outstanding Count; the answer of an Entry in Service whose port's
Dropped Answer mark is set is discarded and the mark cleared. The Pass in flight is abandoned, pass-pending set and a Pass
begins if due; every Reservation is returned; STARTING, RUNNING and UNLOADING trains move to UNLOADING with a STOP order,
every Setpoint, Share and Reservation is 0, and the Dispatcher gets a Train Notice of each train. That a HEAT_CREDIT_LIMIT
shown again since the Dispatcher's own handling of the reset stays shown at the Heat Store Unit's and
the Train Unit's is the model's choice (log 41). -/
def Obligations.TheBlocksHandleTheReset : Prop :=
  (∀ (left : List Raised) (s : State), Oldest pickStoreReset s.raised () left →
     s.store.queue.Pairwise (fun a b => a.arrival < b.arrival) →
     (∀ e, s.store.inService = some e → ∀ k ∈ s.store.queue, k.arrival ≠ e.arrival) →
     ∃ (t : State) (aborted : List Entry), exec .commitmentStoreReset s = .next t ∧
       aborted.Pairwise (fun a b => a.arrival < b.arrival) ∧
       (∀ e, e ∈ aborted ↔
         e ∈ s.store.queue ∨ (s.store.inService = some e ∧ (s.link e.source).dropped = false)) ∧
       (∀ p,
         let own := aborted.filter fun e => decide (e.source = p)
         t.link p =
           { s.link p with
             responses := (s.link p).responses ++ own.map fun e =>
               { tag := e.tag, code := e.code,
                 reply := { status := .aborted, zero := false, saturated := false, body := [] } },
             outstanding := (s.link p).outstanding - own.length,
             dropped := (s.link p).dropped && !(s.store.inService.any fun e => decide (e.source = p)) }) ∧
       t.store = { s.store with queue := [], inService := none } ∧
       t = { s with mp := t.mp, sp := t.sp, store := t.store, raised := left }) ∧
  (∀ (left : List Raised) (s : State),
     (Oldest pickProjectorReset s.raised () left →
       let idle : Projector :=
         { s.projector with passState := .idle, trial := none, start := none, workingCopy := [], passPending := true }
       exec .projectorReset s = .next (beginIfDue { s with raised := left, projector := idle })) ∧
     (Oldest pickHeatReset s.raised () left →
       exec .heatStoreReset s = .next
         { s with raised := left, trains := s.trains.map fun c => { c with reservation := 0 } }) ∧
     (Oldest pickTrainReset s.raised () left →
       let rest (c : TrainContext) : TrainContext := { c with setpoint := 0, share := 0, reservation := 0 }
       let unloading (c : TrainContext) : TrainContext :=
         { rest c with state := .unloading, startTimer := none, released := false }
       ∃ t : State, exec .trainUnitReset s = .next t ∧
         (∀ k, inUse (s.train k).state = true → t.train k = unloading (s.train k) ∧
           (let stop : Order := { command := .stop, setpoint := 0, topTemperature := orderTemperature s k }
            t.trainLinks.get k = (s.trainLinks.get k).issue stop)) ∧
         (∀ k, inUse (s.train k).state = false →
           t.train k = rest (s.train k) ∧ t.trainLinks.get k = s.trainLinks.get k) ∧
         t = { s with
               trains := t.trains, trainLinks := t.trainLinks,
               raised := left ++ [.train .k1, .train .k2, .train .k3, .train .x1, .train .x2, .train .x3] }))

/-- The row arithmetic of a Pass. A row counts the records whose span covers its interval, lapsing ones apart, and the limits of
the available trains. Steps 2 to 4 move mass and heat at the Net, rounded half up, for the seconds ahead; Step 5 takes the
standing loss from the usable heat. The Failure Set holds just the failures of the scheduled point and, where Up or Down is
above 0, of the extreme points; the row is FEASIBLE when it is empty. A row starts from the End values of the row before,
row 0 from the sampled values. -/
def Obligations.RowsAreEvaluatedStepByStep : Prop :=
  (∀ (st : StartState) (records : List Commitment) (r : Nat) (start : RowStart), start.mass ≤ 4294967295 →
    let row := evalRow st records r start
    let interval := st.base + r
    let seconds := if r = 0 then st.remaining else 900
    let sum (k : CommitmentKind) : Int :=
      ((records.filter fun c => decide (c.kind = k ∧ c.start ≤ interval ∧ interval ≤ c.start + c.length - 1 ∧
        ¬ (c.standing = .tentative ∧ c.start ≤ st.base))).map Commitment.power).foldr (· + ·) 0
    let limit := sampledLimit st interval
    let capable (t : Train) : Nat :=
      if ((st.trains.get t).descriptor.map Descriptor.reserveCapable) = some true then limit t else 0
    let massAt (p : Int) : Nat :=
      if 0 < p then start.mass - carried p.natAbs st.rates.genMass seconds
      else min (start.mass + carried p.natAbs st.rates.chgMass seconds) 4294967295
    let pressureAt (p : Int) : Nat := forwardPressure st.characteristic (massAt p)
    let demand (p : Int) : Nat := carried p.natAbs st.rates.genHeat seconds
    let deposit (p : Int) : Nat := carried p.natAbs st.rates.chgHeat seconds
    let allowance := st.rateLimit * seconds / 900
    let fails (p : Int) : Failure → Prop
      | .capacity => False
      | .pressureLow => pressureAt p < st.thresholds.lowLimit
      | .pressureHigh => st.thresholds.highLimit < pressureAt p
      | .rate => allowance + start.pressure < pressureAt p ∨ allowance + pressureAt p < start.pressure
      | .heatShort => 0 < p ∧ start.usable < demand p
      | .heatFull => p < 0 ∧ start.free < deposit p
    let drawn := if 0 < row.net then min (demand row.net) start.usable else 0
    let taken := if row.net < 0 then min (deposit row.net) start.free else 0
    let usable := start.usable - drawn + if st.heat.tUse ≤ st.heat.tNom then taken else 0
    row.interval = interval ∧ row.net = sum .energy ∧ row.up = (sum .reserveUp).toNat ∧
    row.down = (sum .reserveDown).toNat ∧
    row.genCapacity = limit .x1 + limit .x2 + limit .x3 ∧ row.chgCapacity = limit .k1 + limit .k2 + limit .k3 ∧
    row.reserveGen = capable .x1 + capable .x2 + capable .x3 ∧
    row.reserveChg = capable .k1 + capable .k2 + capable .k3 ∧
    row.endMass = massAt row.net ∧ (row.net = 0 → row.endMass = start.mass) ∧ row.endPressure = pressureAt row.net ∧
    row.endUsable = usable * (1000 - st.heat.loss) / 1000 ∧
    row.endFree = start.free + drawn - taken + (usable - row.endUsable) ∧
    (∀ f, (f, .scheduled) ∈ row.failures ↔ fails row.net f ∨
      (f = .capacity ∧ ((row.genCapacity : Int) < row.net ∨ (row.chgCapacity : Int) < -row.net))) ∧
    (∀ f, (f, .upPoint) ∈ row.failures ↔ 0 < row.up ∧ (fails (row.net + row.up) f ∨
      (f = .capacity ∧ ((row.genCapacity : Int) < row.net + row.up ∨ row.reserveGen < row.up)))) ∧
    (∀ f, (f, .downPoint) ∈ row.failures ↔ 0 < row.down ∧ (fails (row.net - row.down) f ∨
      (f = .capacity ∧ ((row.chgCapacity : Int) < row.down - row.net ∨
        max row.net 0 + (row.reserveChg : Int) < row.down)))) ∧
    (row.verdict = .feasible ∨ row.verdict = .failing row.failures) ∧
    (row.verdict = .feasible ↔ row.failures = [])) ∧
  (∀ power rate seconds : Nat,
    72000 * carried power rate seconds ≤ 2 * (power * rate * seconds) + 36000 ∧
    2 * (power * rate * seconds) + 36000 < 72000 * (carried power rate seconds + 1)) ∧
  (∀ (st : StartState) (interval : Nat) (t : Train),
    let k := st.trains.get t
    let limit := sampledLimit st interval t
    let outages := st.outages.filter fun o => decide (o.train = t ∧ o.first ≤ interval ∧ interval ≤ o.last)
    (k.available = false ∨ k.descriptor = none → limit = 0) ∧
    (∀ d, k.available = true → k.descriptor = some d →
      ((∃ o ∈ outages, o.kind = .full) → limit = 0) ∧
      ((∀ o ∈ outages, o.kind = .derate) →
        limit ≤ d.maxLoad ∧ (∀ o ∈ outages, ∀ m, o.derateMax = some m → limit ≤ m) ∧
        (limit = d.maxLoad ∨ ∃ o ∈ outages, o.derateMax = some limit)))) ∧
  (∀ (st : StartState) (trial : Option Trial),
    let rows := completedCopy st trial []
    let records := overlay trial st.commitments
    rows.length = 192 ∧
    rows.head? = some (evalRow st records 0
      { mass := st.mass, pressure := st.pressure, usable := st.usable, free := st.free }) ∧
    (∀ r a b, rows[r]? = some a → rows[r + 1]? = some b →
      b = evalRow st records (r + 1)
        { mass := a.endMass, pressure := a.endPressure, usable := a.endUsable, free := a.endFree }))

/-! ### Trains, envelopes and outages (chapter 9) -/

/-- ENTER_OUTAGE and RETIRE_OUTAGE. ENTER_OUTAGE's checks in order: the mode, the Derate Max by Kind, the ranges, the past,
the room among records not Expired. With nothing waiting, no Pass in flight and no reset still to reach the Projector (log 6)
one that passes drops the Expired records
and enters its record in ascending order of Handle, the Handle being the first value from the Next-Outage Counter upward,
wrapping from 255 to 1, that no kept record carries; RETIRE_OUTAGE removes the record. Either is answered DONE with the
Outage Body, sends its Train Notices and begins a Pass. -/
def Obligations.OutagesAreEnteredAndRetired : Prop :=
  (∀ (f : Frame) (q : OutageRequest) (s r : State), Admitted supervisoryOnly f s r → f.body = outageOctets q →
    q.encodable →
    let refused (status : Status) : Prop := exec (.enterOutage f) s = .next (answered f 0x20 status [] r)
    let largest := if trainKind q.train = .compressor then 900 else 1200
    let kindFits := q.derateMax.isSome = true ↔ q.kind = .derate
    let fits := q.first ≤ q.last ∧ ∀ m, q.derateMax = some m → 1 ≤ m ∧ m ≤ largest
    let kept := r.tables.outages.filter fun o => r.interval ≤ o.last
    (r.dispatcher.mode = .unconfigured → refused .wrongState) ∧
    (r.dispatcher.mode ≠ .unconfigured →
      (¬ kindFits → refused .wrongKind) ∧
      (kindFits → ¬ fits → refused .outOfRange) ∧
      (kindFits → fits → q.last < r.interval → refused .pastInterval) ∧
      (kindFits → fits → r.interval ≤ q.last → 16 ≤ kept.length → refused .tableFull) ∧
      (kindFits → fits → r.interval ≤ q.last → kept.length < 16 → 1 ≤ r.tables.nextOutage →
        r.tables.nextOutage ≤ 255 → (r.link (viaPort f.via)).outstanding < 12 → r.store.queue = [] →
        r.store.inService = none → r.projector.passState = .idle → behindReset r = false →
        let value (n : Nat) : Nat := (r.tables.nextOutage - 1 + n) % 255 + 1
        let held (h : Nat) : Prop := ∃ o ∈ kept, o.handle = h
        let noticed (t : Train) : Bool :=
          decide (t = q.train) || r.tables.outages.any fun o => decide (o.train = t ∧ o.last < r.interval)
        ∃ (n : Nat) (before after : List Outage),
          let record : Outage :=
            { handle := value n, train := q.train, first := q.first, last := q.last, kind := q.kind,
              derateMax := q.derateMax }
          let entered : State :=
            { r with
              store := { r.store with nextArrival := r.store.nextArrival + 1 }
              tables := { r.tables with outages := before ++ record :: after, nextOutage := value n % 255 + 1 }
              raised := r.raised ++ (allTrains.filter noticed).map .train }
          n ≤ 15 ∧ ¬ held (value n) ∧ (∀ m, m < n → held (value m)) ∧ before ++ after = kept ∧
          (∀ o ∈ before, o.handle ≤ value n) ∧ (∀ o ∈ after.head?, value n < o.handle) ∧
          exec (.enterOutage f) s = .next (beginPass (answered f 0x20 .done (outageBody record) entered))))) ∧
  (∀ (f : Frame) (h : Nat) (s r : State), Admitted supervisoryOnly f s r → f.body = u8 h → h < 256 →
    let refused (status : Status) : Prop := exec (.retireOutage f) s = .next (answered f 0x21 status [] r)
    (r.dispatcher.mode = .unconfigured → refused .wrongState) ∧
    (r.dispatcher.mode ≠ .unconfigured →
      ((∀ o ∈ r.tables.outages, o.handle ≠ h) → refused .notFound) ∧
      (∀ before o after, r.tables.outages = before ++ o :: after → (∀ k ∈ before ++ after, k.handle ≠ h) → o.handle = h →
        (r.link (viaPort f.via)).outstanding < 12 → r.store.queue = [] → r.store.inService = none →
        r.projector.passState = .idle → behindReset r = false →
        exec (.retireOutage f) s = .next (beginPass (answered f 0x21 .done (outageBody o)
          { r with
            store := { r.store with nextArrival := r.store.nextArrival + 1 }
            tables := { r.tables with outages := before ++ after }
            raised := r.raised ++ [.train o.train] })))))

/-- SELECT_ENVELOPE and RELOAD_ENVELOPES, with what the replacement of a Cached Descriptor and the loss of the selection do
to a train. SELECT_ENVELOPE's checks: the Selector, Valid, the Kind; a train that holds the row's Generation is unchanged;
any other takes a copy. RELOAD_ENVELOPES judges every train in order and returns the six outcomes. The body of a SELECT's
DONE_UNCHANGED is the model's choice (log 34), and so are the count octet and the outcome codes of RELOAD_ENVELOPES
(UNSELECTED 0, CURRENT 1, RELOADED 2, DESELECTED 3; log 7). That equal Generations are CURRENT even of a row not Valid or of
the other Kind is the model's choice (log 39). That a replaced descriptor lowers the Setpoint to the new Train Limit is
read from R193 in section 10.5, where R172 names the max load (log 10), and that the lowering's order goes out before the
STOP of a start limit that has passed is the model's choice (log 30). -/
def Obligations.EnvelopesAreSelectedAndReloaded : Prop :=
  (∀ (f : Frame) (t : Train) (n : Nat) (s r : State), Admitted supervisoryOnly f s r →
    f.body = u8 (trainIndex t) ++ u8 n → n < 256 →
    let refused (status : Status) : Prop := exec (.selectEnvelope f) s = .next (answered f 0x2A status [] r)
    (r.tables.envelopes.length ≤ n → refused .outOfRange) ∧
    (∀ row, r.tables.envelopes[n]? = some row →
      let holds := ∃ sel, (r.train t).selection = some sel ∧ sel.selector = n ∧ sel.generation = row.generation
      let k := takeRow t n row r
      (row.descriptor.valid = false → refused .wrongState) ∧
      (row.descriptor.valid = true → row.descriptor.kind ≠ trainKind t → refused .wrongKind) ∧
      (row.descriptor.valid = true → row.descriptor.kind = trainKind t → holds →
        exec (.selectEnvelope f) s = .next (answered f 0x2A .doneUnchanged (trainBody t r) r)) ∧
      (row.descriptor.valid = true → row.descriptor.kind = trainKind t → ¬ holds →
        exec (.selectEnvelope f) s = .next (answered f 0x2A .done (trainBody t k)
          (beginIfDue
            { k with projector := { k.projector with passPending := true }, raised := r.raised ++ [.train t] }))))) ∧
  (∀ (f : Frame) (s r : State), Admitted supervisoryOnly f s r → f.body = [] →
    let outcome (t : Train) : Nat :=
      match (r.train t).selection with
      | none => 0
      | some sel =>
        match r.tables.envelopes[sel.selector]? with
        | none => 3
        | some row =>
          if row.generation = sel.generation then 1
          else if row.descriptor.valid = true ∧ row.descriptor.kind = trainKind t then 2 else 3
    let octets := u8 6 ++ allTrains.flatMap fun t => u8 (outcome t)
    ((∀ t, outcome t ≤ 1) → exec (.reloadEnvelopes f) s = .next (answered f 0x2B .doneUnchanged octets r)) ∧
    ((∃ t, 2 ≤ outcome t) → ∃ k : State,
      exec (.reloadEnvelopes f) s = .next (answered f 0x2B .done octets (beginIfDue
        { k with
          projector := { r.projector with passPending := true }
          raised := r.raised ++ (allTrains.filter fun t => decide (2 ≤ outcome t)).map .train })) ∧
      (∀ t, outcome t ≤ 1 → k.train t = r.train t ∧ k.trainLinks.get t = r.trainLinks.get t) ∧
      (∀ t sel row, outcome t = 2 → (r.train t).selection = some sel →
        r.tables.envelopes[sel.selector]? = some row →
        k.train t = (takeRow t sel.selector row r).train t ∧
        k.trainLinks.get t = (takeRow t sel.selector row r).trainLinks.get t) ∧
      (∀ t, outcome t = 3 →
        k.train t = (deselect t r).train t ∧ k.trainLinks.get t = (deselect t r).trainLinks.get t) ∧
      (∀ i, k.sticky.getLsbD i = true ↔ r.sticky.getLsbD i = true ∨
        ∃ t, i = 12 + trainIndex t ∧ (r.train t).state = .starting ∧ (k.train t).state = .tripped) ∧
      k = { r with trains := k.trains, trainLinks := k.trainLinks, sticky := k.sticky, projector := k.projector })) ∧
  (∀ (t : Train) (n : Nat) (row : EnvelopeRow) (s : State),
    let c := s.train t
    let taken := s.setTrain t
      { c with selection := some { selector := n, descriptor := row.descriptor, generation := row.generation } }
    let lowered :=
      if trainLimit taken t < c.setpoint then lowerSetpoint t (trainLimit taken t) taken else taken
    let late := c.state = .starting ∧ ∃ ms, c.startTimer = some ms ∧ row.descriptor.startLimit * 1000 < ms
    (¬ late → takeRow t n row s = lowered) ∧ (late → takeRow t n row s = expireStart t lowered)) ∧
  (∀ (t : Train) (s : State),
    let c := s.train t
    let stop : Order := { command := .stop, setpoint := 0, topTemperature := orderTemperature s t }
    (inUse c.state = false → deselect t s = s.setTrain t { c with selection := none, released := false }) ∧
    (inUse c.state = true → deselect t s =
      ({ s with trainLinks := s.trainLinks.set t ((s.trainLinks.get t).issue stop) } : State).setTrain t
        { c with
          state := .unloading, selection := none, setpoint := 0, startTimer := none, released := false,
          creditLimit := false,
          reservation := if trainKind t = .compressor then c.reservation % 100 else c.reservation }))

/-- AMEND_ENVELOPE, BIND_TANK and RESTORE_TRAIN. An amendment is checked for its Selector, its fields by Kind and their ranges;
a changed row takes the given fields and the next Generation and no Train Context changes. A train at rest or fallen out
takes another Tank; a TRIPPED train is restored to OFFLINE. The body of a BIND's and an amendment's DONE_UNCHANGED is the
model's choice (log 34). -/
def Obligations.EnvelopesAreAmendedTrainsBoundAndRestored : Prop :=
  (∀ (f : Frame) (n : Nat) (d : Descriptor) (s r : State), Admitted supervisoryOnly f s r →
    f.body = u8 n ++ descriptorOctets d → n < 256 → d.encodable →
    let refused (status : Status) : Prop := exec (.amendEnvelope f) s = .next (answered f 0x2C status [] r)
    let kindFits := (d.coldMax.isSome = true ↔ d.kind = .expander) ∧ (d.heatRate.isSome = true ↔ d.kind = .compressor)
    let fits := 1 ≤ d.maxLoad ∧ d.maxLoad ≤ (if d.kind = .compressor then 900 else 1200) ∧ d.minLoad < d.maxLoad ∧
      (∀ m, d.coldMax = some m → m ≤ d.maxLoad) ∧ 1 ≤ d.rampUp ∧ d.rampUp ≤ 200 ∧ 1 ≤ d.rampDown ∧ d.rampDown ≤ 200 ∧
      30 ≤ d.startLimit ∧ d.startLimit ≤ 1800 ∧ ∀ q, d.heatRate = some q → 1 ≤ q ∧ q ≤ 5000
    (r.tables.envelopes.length ≤ n → refused .outOfRange) ∧
    (∀ row, r.tables.envelopes[n]? = some row →
      let generation := (row.generation + 1) % 65536
      (¬ kindFits → refused .wrongKind) ∧
      (kindFits → ¬ fits → refused .outOfRange) ∧
      (kindFits → fits → row.descriptor = d →
        exec (.amendEnvelope f) s =
          .next (answered f 0x2C .doneUnchanged (descriptorOctets d ++ u16 row.generation) r)) ∧
      (kindFits → fits → row.descriptor ≠ d →
        exec (.amendEnvelope f) s = .next (answered f 0x2C .done (descriptorOctets d ++ u16 generation) (beginIfDue
          { r with
            tables := { r.tables with
                        envelopes := r.tables.envelopes.set n { descriptor := d, generation := generation } }
            projector := { r.projector with passPending := true } }))))) ∧
  (∀ (f : Frame) (t : Train) (tank : Tank) (s r : State), Admitted supervisoryOnly f s r →
    f.body = u8 (trainIndex t) ++ u8 (tankIndex tank) →
    let c := r.train t
    let bound := r.setTrain t { c with boundTank := tank }
    let working := c.state = .starting ∨ c.state = .running ∨ c.state = .unloading
    (working → exec (.bindTank f) s = .next (answered f 0x2D .wrongState [] r)) ∧
    (¬ working → c.boundTank = tank →
      exec (.bindTank f) s = .next (answered f 0x2D .doneUnchanged (trainBody t r) r)) ∧
    (¬ working → c.boundTank ≠ tank →
      exec (.bindTank f) s =
        .next (answered f 0x2D .done (trainBody t bound) { bound with raised := r.raised ++ [.train t] }))) ∧
  (∀ (f : Frame) (t : Train) (s r : State), Admitted supervisoryOnly f s r → f.body = u8 (trainIndex t) →
    let c := r.train t
    let pending : State := { r with projector := { r.projector with passPending := true } }
    let restored := pending.setTrain t
      { c with
        state := .offline, setpoint := 0, share := 0, reservation := 0, runStart := none, startTimer := none,
        released := false, creditLimit := false }
    (c.state ≠ .tripped → exec (.restoreTrain f) s = .next (answered f 0x2E .wrongState [] r)) ∧
    (c.state = .tripped →
      exec (.restoreTrain f) s = .next (answered f 0x2E .done (trainBody t restored)
        (beginIfDue { restored with raised := r.raised ++ [.train t] }))))

/-- TRAIN_REPORT. A report of another train or with a status above 5 is discarded. Any other is brought into range, with
REPORT_CLAMPED for a value beyond it, recorded, restarts the Silence Timer, moves the State by the table of the rule with
the entry effects, and hands its parts to the three neighbours, the State it left the train in among the Dispatcher's. -/
def Obligations.ATrainReportIsRecordedJudgedAndHandedOn : Prop :=
  ∀ (line : Train) (raw : ReportFrame) (s : State),
    let heard : State := { s with trainLinks := s.trainLinks.set line { s.trainLinks.get line with intake := none } }
    (raw.number.toNat ≠ trainIndex line ∨ 5 < raw.status.toNat → exec (.trainReport line raw) s = .next heard) ∧
    (∀ status : ReportedStatus, raw.number.toNat = trainIndex line → raw.status.toNat = reportStatusCode status →
      let c := s.train line
      let largest := if trainKind line = .compressor then 900 else 1200
      let report : Report :=
        { status := status, power := min raw.power.toNat largest, massFlow := min raw.massFlow.toNat 6000,
          heat := raw.heat.toNat, temperature := min raw.temperature.toNat 8000, elapsed := min raw.elapsed.toNat 5000 }
      let beyond := largest < raw.power.toNat ∨ 6000 < raw.massFlow.toNat ∨ 8000 < raw.temperature.toNat ∨
        5000 < raw.elapsed.toNat
      let recorded : TrainContext := { c with lastReport := some report, silence := some 0 }
      let heat : Raised :=
        if trainKind line = .compressor then .deposit line report.heat report.temperature c.boundTank
        else .draw line report.heat c.boundTank
      let table : List TrainState :=
        match status with
        | .off => [.offline, .offline, .starting, .ready, .ready, .tripped, .ready]
        | .ready => [.ready, .ready, .starting, .ready, .ready, .tripped, .ready]
        | .starting => [.unloading, .unloading, .starting, .running, .unloading, .tripped, .unloading]
        | .running => [.unloading, .unloading, .running, .running, .unloading, .tripped, .unloading]
        | .stopping => [.offline, .ready, .unloading, .unloading, .unloading, .tripped, .unloading]
        | .tripped => [.tripped, .tripped, .tripped, .tripped, .tripped, .tripped, .tripped]
      let otherHolds := ∃ k, trainKind k ≠ trainKind line ∧ 0 < (s.train k).setpoint
      ∃ (t : State) (after : TrainContext),
        exec (.trainReport line raw) s = .next (beginIfDue t) ∧
        t = { heard with
              trains := s.trains.set line after
              sticky := t.sticky
              projector := { s.projector with passPending := t.projector.passPending }
              raised := s.raised ++
                [.mass line raw.massFlow.toNat raw.elapsed.toNat, heat,
                 .formation line { status := status, power := report.power, elapsed := report.elapsed,
                                   left := after.state }] } ∧
        (∀ i, t.sticky.getLsbD i = true ↔ s.sticky.getLsbD i = true ∨ (i = 24 ∧ beyond) ∨
          (i = 12 + trainIndex line ∧ c.state ≠ .tripped ∧ after.state = .tripped)) ∧
        (t.projector.passPending = true ↔ s.projector.passPending = true ∨
          (c.state ≠ after.state ∧ (c.state = .lost ∨ after.state = .tripped))) ∧
        table[trainStateCode c.state]? = some after.state ∧
        (after.state = c.state → after = recorded) ∧
        (after.state ≠ c.state →
          (after.state = .offline ∨ after.state = .ready ∨ after.state = .tripped →
            after = { recorded with
                      state := after.state, setpoint := 0, share := 0, reservation := 0, runStart := none,
                      startTimer := none, released := false, creditLimit := false }) ∧
          (after.state = .running → after = { recorded with state := .running, startTimer := none }) ∧
          (after.state = .unloading → c.state = .starting ∨ c.state = .running →
            after = { recorded with
                      state := .unloading, setpoint := min c.setpoint report.power, startTimer := none,
                      released := false }) ∧
          (after.state = .unloading → c.state = .offline ∨ c.state = .ready ∨ c.state = .lost →
            after = { recorded with
                      state := .unloading, setpoint := after.setpoint, startTimer := none, released := false,
                      runStart := some (s.interval, s.clock.second) } ∧
            (c.selection = none ∨ otherHolds → after.setpoint = 0) ∧
            (¬ otherHolds → ∀ sel, c.selection = some sel →
              after.setpoint = min report.power sel.descriptor.maxLoad))))

/-- START_LIMIT_EXPIRY and SILENCE_TIMEOUT. When a STARTING train's Start Timer exceeds its start limit it is sent STOP with
setpoint 0 and trips; when the silence of a READY, STARTING, RUNNING or UNLOADING train reaches the timeout it is lost,
without an order; each with the entry effects and a Train Notice. That the command lets the time pass until the expiry is
due, and that it changes nothing where no such timer runs, is the model's choice (log 3). -/
def Obligations.TrainTimersExpire : Prop :=
  ∀ (t : Train) (s : State),
    let c := s.train t
    let fallen (k : State) (into : TrainState) : TrainContext :=
      { k.train t with
        state := into, setpoint := 0, share := 0, reservation := 0, runStart := none, startTimer := none,
        released := false, creditLimit := false }
    let expired (k : State) (into : TrainState) (position : Nat) : State :=
      { k with
        trains := k.trains.set t (fallen k into)
        sticky := s.sticky ||| BitVec.ofNat 26 (2 ^ position)
        projector := { s.projector with passPending := true }
        raised := s.raised ++ [.train t] }
    (∀ ms, elapse ms s =
      { s with
        trains := s.trains.map fun k =>
          { k with silence := k.silence.map fun v => min (v + ms) 4294967295,
                   startTimer := k.startTimer.map fun v => min (v + ms) 4294967295 }
        tables := { s.tables with millis := s.tables.millis + ms }
        clock := { s.clock with sinceAdvance := s.clock.sinceAdvance + ms } }) ∧
    (∀ sel ms, c.state = .starting → c.selection = some sel → c.startTimer = some ms →
      let k := elapse (sel.descriptor.startLimit * 1000 + 1 - ms) s
      let stop : Order := { command := .stop, setpoint := 0, topTemperature := orderTemperature s t }
      exec (.startLimitExpiry t) s = .next (beginIfDue
        { expired k .tripped (12 + trainIndex t) with
          trainLinks := s.trainLinks.set t ((s.trainLinks.get t).issue stop) })) ∧
    (c.state ≠ .starting ∨ c.selection = none ∨ c.startTimer = none → exec (.startLimitExpiry t) s = .next s) ∧
    (∀ ms, c.state = .ready ∨ c.state = .starting ∨ c.state = .running ∨ c.state = .unloading → c.silence = some ms →
      exec (.silenceTimeout t) s =
        .next (beginIfDue (expired (elapse (s.loader.silenceTimeout - ms) s) .lost (18 + trainIndex t)))) ∧
    (c.state = .offline ∨ c.state = .tripped ∨ c.state = .lost ∨ c.silence = none →
      exec (.silenceTimeout t) s = .next s)

/-! ### The Cavern Account (chapter 6) -/

/-- CALIBRATE. NOT_PERMITTED on the Market Port, WRONG_STATE in UNCONFIGURED; in every other mode it is DONE: the Measured
Pressure is clamped to the Characteristic, with CHARACTERISTIC_RANGE and SATURATED, the mass of the inverse interpolation
replaces the Mass Inventory, the Residue becomes 0, the calibration is flagged and recorded with its Correction, and the
interpolation with the Band, pass-pending and a Pass that is due follow. -/
def Obligations.CalibrateSetsTheAccount : Prop :=
  (∀ (f : Frame) (p : Nat) (s r : State), f.body = u16 p → p < 65536 → r = received f s → viaPort f.via = .mp →
    (r.link .mp).responses.length + (r.link .mp).outstanding < 32 →
    exec (.calibrate f) s = .next (answered f 0x31 .notPermitted [] r)) ∧
  (∀ (f : Frame) (p : Nat) (s r : State), Admitted supervisoryOnly f s r → f.body = u16 p → p < 65536 →
    let c := r.cavern
    (r.dispatcher.mode = .unconfigured → exec (.calibrate f) s = .next (answered f 0x31 .wrongState [] r)) ∧
    (r.dispatcher.mode ≠ .unconfigured → ∀ first last, c.characteristic.head? = some first →
      c.characteristic.getLast? = some last → first.2 ≤ last.2 →
      let applied := max first.2 (min last.2 p)
      let mass := inverseMass c.characteristic applied
      let correction : Int := (mass : Int) - (c.mass : Int)
      let record : Calibration :=
        { day := r.clock.day, second := r.clock.second, applied := applied, correction := correction }
      let k := reinterpolate
        { r with
          cavern := { c with mass := mass, residue := 0, calibrated := true, lastCalibration := some record }
          sticky := if applied = p then r.sticky else r.sticky ||| 32#26 }
      k.cavern.mass = mass ∧
      exec (.calibrate f) s = .next (answeredWith f 0x31 .done false (decide (applied ≠ p))
        (u16 applied ++ u32 mass ++ s64 correction ++ u16 k.cavern.pressure ++ u8 (bandCode k.cavern.band))
        (beginIfDue { k with projector := { r.projector with passPending := true } })))) ∧
  (∀ (points before after : List (Nat × Nat)) (a b : Nat × Nat) (p : Nat),
    points.Pairwise (fun x y => x.1 < y.1 ∧ x.2 < y.2) →
    (points = before ++ a :: b :: after → a.2 ≤ p → p < b.2 →
      inverseMass points p = a.1 + (p - a.2) * (b.1 - a.1) / (b.2 - a.2)) ∧
    (points = before ++ [a] → p = a.2 → inverseMass points p = a.1))

/-- MASS_INTEGRATION, the forward interpolation and the Band. A flow of 0 leaves the account; the clamps set REPORT_CLAMPED;
an elapsed time of 0 leaves the account; any other report moves its signed mass into the Residue and the whole kilograms
into the Mass Inventory, which holds at its bounds. The Pressure is then interpolated, with CHARACTERISTIC_RANGE outside
the points, and the Band evaluated by the transitions of the rule until none applies, with a Band Notice and
CAVERN_LIMIT_ENTERED for a band other than the one before. -/
def Obligations.ReportedFlowMovesMassPressureAndBand : Prop :=
  (∀ (t : Train) (flow elapsed : Nat) (left : List Raised) (s : State),
    Oldest (pickMass t) s.raised (flow, elapsed) left →
    let amount : Int := ((min flow 6000 * min elapsed 5000 : Nat) : Int)
    let q : Int := if trainKind t = .compressor then amount else -amount
    let sum := s.cavern.residue + q
    let whole := sum.tdiv 10000
    let residue := sum - 10000 * whole
    let moved : Cavern :=
      { s.cavern with
        mass := (max 0 (min 4294967295 ((s.cavern.mass : Int) + whole))).toNat, residue := residue }
    let clamped : State :=
      { s with
        raised := left
        sticky := if 6000 < flow ∨ 5000 < elapsed then s.sticky ||| 16777216#26 else s.sticky }
    (flow = 0 → exec (.massIntegration t) s = .next { s with raised := left }) ∧
    (flow ≠ 0 → elapsed = 0 → exec (.massIntegration t) s = .next clamped) ∧
    (flow ≠ 0 → elapsed ≠ 0 → exec (.massIntegration t) s = .next (reinterpolate { clamped with cavern := moved })) ∧
    (-10000 < residue ∧ residue < 10000 ∧ (0 ≤ sum → 0 ≤ residue) ∧ (sum ≤ 0 → residue ≤ 0))) ∧
  (∀ (s : State) (first last : Nat × Nat), s.cavern.characteristic.head? = some first →
    s.cavern.characteristic.getLast? = some last →
    let c := s.cavern
    let pressure := forwardPressure c.characteristic c.mass
    let band := evaluateBand c.thresholds pressure c.band
    let outside : BitVec 26 := if c.mass < first.1 ∨ last.1 < c.mass then 32 else 0
    let entered : BitVec 26 := if band ≠ c.band ∧ (band = .lowLimit ∨ band = .highLimit) then 16 else 0
    reinterpolate s =
      { s with
        cavern := { c with pressure := pressure, band := band }
        sticky := s.sticky ||| outside ||| entered
        raised := if band = c.band then s.raised else s.raised ++ [.band] }) ∧
  (∀ (points before after : List (Nat × Nat)) (a b : Nat × Nat) (m : Nat),
    points.Pairwise (fun x y => x.1 < y.1 ∧ x.2 < y.2) →
    (points = before ++ a :: b :: after → a.1 ≤ m → m < b.1 →
      forwardPressure points m = a.2 + (m - a.1) * (b.2 - a.2) / (b.1 - a.1) ∧
      a.2 ≤ forwardPressure points m ∧ forwardPressure points m < b.2) ∧
    (points = a :: after → m < a.1 → forwardPressure points m = a.2) ∧
    (points = before ++ [a] → a.1 ≤ m → forwardPressure points m = a.2)) ∧
  (∀ (th : Thresholds) (p : Nat) (b into : Band), th.lowLimit < th.lowWarn → th.lowWarn < th.highWarn →
    th.highWarn < th.highLimit →
    (bandStep th p b = some into ↔
      (b = .normal ∧ p < th.lowWarn ∧ into = .lowWarn) ∨
      (b = .lowWarn ∧ p < th.lowLimit ∧ into = .lowLimit) ∨
      (b = .lowWarn ∧ th.lowWarn + 20 ≤ p ∧ into = .normal) ∨
      (b = .lowLimit ∧ th.lowWarn ≤ p ∧ into = .lowWarn) ∨
      (b = .normal ∧ th.highWarn < p ∧ into = .highWarn) ∨
      (b = .highWarn ∧ th.highLimit < p ∧ into = .highLimit) ∨
      (b = .highWarn ∧ p + 20 ≤ th.highWarn ∧ into = .normal) ∨
      (b = .highLimit ∧ p ≤ th.highWarn ∧ into = .highWarn)) ∧
    (bandStep th p b = none → evaluateBand th p b = b) ∧
    (bandStep th p b = some into → evaluateBand th p b = evaluateBand th p into) ∧
    bandStep th p (evaluateBand th p b) = none)

/-! ### Heat stores and Heat Credits (chapters 7 and 8) -/

/-- SURVEY_TANK. NOT_PERMITTED on the Market Port; the checks in order: the mode, no bound train in STARTING, RUNNING or
UNLOADING, at most eight layers, each in range and none hotter than the one before it, and the sum within the Capacity. A
survey that passes replaces the whole stack, sets the Survey Flag and pass-pending, sends a Top Notice when the Top
Standing has changed, and answers the Tank body as it then stands. -/
def Obligations.SurveyReplacesTheStack : Prop :=
  ∀ (f : Frame) (tank : Tank) (layers : List (Nat × Nat)) (s r : State), f.body = surveyOctets tank layers →
    surveyEncodable layers →
    let refused (status : Status) : Prop := exec (.surveyTank f) s = .next (answered f 0x39 status [] r)
    let working := ∃ t, (r.train t).boundTank = tank ∧
      ((r.train t).state = .starting ∨ (r.train t).state = .running ∨ (r.train t).state = .unloading)
    let sound := (∀ l ∈ layers, r.loader.heat.tRef + 1 ≤ l.1 ∧ l.1 ≤ 8000 ∧ 1 ≤ l.2) ∧
      layers.Pairwise (fun a b => b.1 ≤ a.1)
    let fits := (layers.map Prod.snd).sum + reservedEnergy r.trains tank ≤ (r.tank tank).capacity
    let given : List Layer :=
      layers.map fun l => { temperature := l.1, energy := l.2, origin := .survey, entry := r.interval }
    let k := r.setTank tank { r.tank tank with layers := given, surveyed := true }
    (r = received f s → viaPort f.via = .mp → (r.link .mp).responses.length + (r.link .mp).outstanding < 32 →
      refused .notPermitted) ∧
    (Admitted supervisoryOnly f s r →
      (r.dispatcher.mode = .unconfigured → refused .wrongState) ∧
      (r.dispatcher.mode ≠ .unconfigured →
        (working → refused .tankInUse) ∧
        (¬ working → 8 < layers.length → refused .outOfRange) ∧
        (¬ working → layers.length ≤ 8 → ¬ sound → refused .outOfRange) ∧
        (¬ working → layers.length ≤ 8 → sound → ¬ fits → refused .outOfRange) ∧
        (¬ working → layers.length ≤ 8 → sound → fits →
          exec (.surveyTank f) s = .next (answered f 0x39 .done (tankBody tank k) (beginIfDue
            { k with
              projector := { r.projector with passPending := true }
              raised := r.raised ++ if topStanding k tank = topStanding r tank then [] else [.top tank] })))))

/-- HEAT_DEPOSIT. Nothing for no heat; spilled whole on an unsurveyed Tank or at or below T_ref; else divided into the reserved,
the free and the spilled part, and the accepted amount placed: pushed onto an empty stack or above the top by more than
B, after a compaction of a stack of eight, else merged into the top layer with the cascade. A Top Notice follows a changed
Top Standing. That a train bound elsewhere by then has no Reservation on the Tank handed on is read from R129 and R149
(log 25). -/
def Obligations.DepositsAreTakenInOrSpilled : Prop :=
  (∀ (t : Train) (h td : Nat) (tank : Tank) (left : List Raised) (s : State), trainKind t = .compressor →
    Oldest (pickDeposit t) s.raised (h, td, tank) left →
    let v := s.tank tank
    let c := s.train t
    let taken : State := { s with raised := left }
    let spill (mj : Nat) : Nat := min (v.spillTotal + mj) 4294967295
    let spillBit := BitVec.ofNat 26 (2 ^ (9 + tankIndex tank))
    let reservedPart := min h (if c.boundTank = tank then c.reservation else 0)
    let stored := (v.layers.map Layer.energy).sum
    let freePart := min (h - reservedPart) (v.capacity - stored - reservedEnergy s.trains tank)
    let accepted := reservedPart + freePart
    let founded : Layer :=
      { temperature := td, energy := accepted, entry := s.interval,
        origin := if t = .k1 then .k1 else if t = .k2 then .k2 else .k3 }
    let placed := if accepted = 0 then v.layers else placeHeat s.loader.heat.band founded v.layers
    let tUse := s.loader.heat.tUse
    (h = 0 → exec (.heatDeposit t) s = .next taken) ∧
    (0 < h → v.surveyed = false ∨ td ≤ s.loader.heat.tRef →
      exec (.heatDeposit t) s = .next
        { taken with tanks := s.tanks.set tank { v with spillTotal := spill h }, sticky := s.sticky ||| spillBit }) ∧
    (0 < h → v.surveyed = true → s.loader.heat.tRef < td →
      exec (.heatDeposit t) s = .next
        { s with
          trains := s.trains.set t { c with reservation := c.reservation - reservedPart }
          tanks := s.tanks.set tank
            { v with layers := placed, spillTotal := if accepted < h then spill (h - accepted) else v.spillTotal }
          sticky := if accepted < h then s.sticky ||| spillBit else s.sticky
          raised := left ++ if standingOf tUse placed = standingOf tUse v.layers then [] else [.top tank] })) ∧
  (∀ (b : Nat) (new top : Layer) (rest : List Layer),
    let mean := (top.temperature * top.energy + new.temperature * new.energy) / (top.energy + new.energy)
    placeHeat b new [] = [new] ∧
    (top.temperature + b < new.temperature → rest.length < 7 → placeHeat b new (top :: rest) = new :: top :: rest) ∧
    (∀ front x y, top.temperature + b < new.temperature → top :: rest = front ++ [x, y] → rest.length = 7 →
      placeHeat b new (top :: rest) = new :: front ++ [mergeLayers x y]) ∧
    (new.temperature ≤ top.temperature + b →
      placeHeat b new (top :: rest) =
        cascade { top with temperature := mean, energy := top.energy + new.energy } rest)) ∧
  (∀ (top below : Layer) (rest : List Layer),
    cascade top [] = [top] ∧
    (below.temperature ≤ top.temperature → cascade top (below :: rest) = top :: below :: rest) ∧
    (top.temperature < below.temperature → cascade top (below :: rest) = cascade (mergeLayers top below) rest)) ∧
  (∀ upper lower : Layer,
    let merged := mergeLayers upper lower
    merged.energy = upper.energy + lower.energy ∧
    merged.temperature =
      (upper.temperature * upper.energy + lower.temperature * lower.energy) / (upper.energy + lower.energy) ∧
    (lower.energy < upper.energy → merged.origin = upper.origin ∧ merged.entry = upper.entry) ∧
    (upper.energy ≤ lower.energy → merged.origin = lower.origin ∧ merged.entry = lower.entry))

/-- HEAT_DRAW and STANDING_LOSS. A draw takes the heat from the top down, and a Shortfall is recorded, sets HEAT_UNDERDRAW and
pass-pending; no heat or an unsurveyed Tank leaves all as it is. A forward Boundary applies the standing loss once for
each interval of its Step to every layer of every Tank, removing the layers left without energy or rise; a REBASE applies
none. Top Notices follow the Top Standings that have changed. -/
def Obligations.DrawsAndStandingLossLowerTheStacks : Prop :=
  (∀ (t : Train) (h : Nat) (tank : Tank) (left : List Raised) (s : State), trainKind t = .expander →
    Oldest (pickDraw t) s.raised (h, tank) left →
    let v := s.tank tank
    let drawn := drawLayers h v.layers
    let tUse := s.loader.heat.tUse
    let record : Underdraw := { amount := drawn.2, train := t, interval := s.interval }
    let noticed := left ++ if standingOf tUse drawn.1 = standingOf tUse v.layers then [] else [.top tank]
    (h = 0 ∨ v.surveyed = false → exec (.heatDraw t) s = .next { s with raised := left }) ∧
    (0 < h → v.surveyed = true → drawn.2 = 0 →
      exec (.heatDraw t) s = .next (beginIfDue
        { s with tanks := s.tanks.set tank { v with layers := drawn.1 }, raised := noticed })) ∧
    (0 < h → v.surveyed = true → 0 < drawn.2 →
      exec (.heatDraw t) s = .next (beginIfDue
        { s with
          tanks := s.tanks.set tank { v with layers := drawn.1, lastUnderdraw := some record }
          sticky := s.sticky ||| BitVec.ofNat 26 (2 ^ (6 + tankIndex tank))
          projector := { s.projector with passPending := true }
          raised := noticed }))) ∧
  (∀ (h : Nat) (layers : List Layer), (∀ l ∈ layers, 1 ≤ l.energy) →
    let energy (those : List Layer) : Nat := (those.map Layer.energy).sum
    (energy layers ≤ h → drawLayers h layers = ([], h - energy layers)) ∧
    (∀ before l after, layers = before ++ l :: after → energy before ≤ h → h < energy before + l.energy →
      drawLayers h layers = ({ l with energy := energy before + l.energy - h } :: after, 0))) ∧
  (∀ (b : Boundary) (left : List Raised) (s : State), Oldest (pickBoundary .heatStoreUnit) s.raised b left →
    let k := s.loader.heat
    let changed (n : Nat) (tank : Tank) : Bool :=
      decide (standingOf k.tUse (coolTimes k.tRef k.loss n (s.tank tank).layers) ≠
        standingOf k.tUse (s.tank tank).layers)
    (b.step = .rebase → exec .standingLoss s = .next { s with raised := left }) ∧
    (∀ n, b.step = .forward n →
      exec .standingLoss s = .next
        { s with
          tanks := s.tanks.map fun v => { v with layers := coolTimes k.tRef k.loss n v.layers }
          raised := left ++ (allTanks.filter (changed n)).map .top })) ∧
  (∀ (tRef loss n : Nat) (layers : List Layer),
    let cooled (l : Layer) : Layer :=
      { l with
        energy := l.energy * (1000 - loss) / 1000
        temperature := tRef + (l.temperature - tRef) * (1000 - loss) / 1000 }
    coolTimes tRef loss 0 layers = layers ∧
    coolTimes tRef loss (n + 1) layers =
      coolTimes tRef loss n ((layers.map cooled).filter fun l => decide (l.energy ≠ 0 ∧ l.temperature ≠ tRef)))

/-- Heat Credits. HEAT_CREDIT_GRANT raises the Reservation of a compressor in STARTING, RUNNING or UNLOADING by the lesser of
the Request and the Free Energy of its Tank, rounded down to a whole credit, by 0 on an unsurveyed Tank, and changes
nothing else; that it is none in any other State is the model's (log 14). The Need is the smallest multiple of 100 MJ at
or above S × Qk × W / 36,000; the Credit Need is by the State; a return takes the whole credits of the excess; the credit
limit holds the setpoint to what the Reservation covers. -/
def Obligations.CreditsAreGrantedReturnedAndLimit : Prop :=
  (∀ (t : Train) (request : Nat) (s : State), trainKind t = .compressor →
    let c := s.train t
    let v := s.tank c.boundTank
    let free := v.capacity - (v.layers.map Layer.energy).sum - reservedEnergy s.trains c.boundTank
    let grant := if v.surveyed = true then min request free / 100 * 100 else 0
    let working := c.state = .starting ∨ c.state = .running ∨ c.state = .unloading
    (working →
      exec (.heatCreditGrant t request) s =
        .next { s with trains := s.trains.set t { c with reservation := c.reservation + grant } }) ∧
    (¬ working → exec (.heatCreditGrant t request) s = .next s)) ∧
  (∀ (s : State) (tank : Tank),
    let held (c : TrainContext) : Nat := if c.boundTank = tank then c.reservation else 0
    reservedEnergy s.trains tank = held s.trains.k1 + held s.trains.k2 + held s.trains.k3) ∧
  (∀ (w setpoint qk : Nat) (d : Descriptor), d.heatRate = some qk →
    let need := needAt w d setpoint
    need % 100 = 0 ∧ setpoint * qk * w ≤ need * 36000 ∧
    (∀ m, m % 100 = 0 → setpoint * qk * w ≤ m * 36000 → need ≤ m)) ∧
  (∀ (s : State) (t : Train) (state : TrainState) (candidate : Nat), trainKind t = .compressor →
    let c := s.train t
    let need := creditNeedIn s t state candidate
    creditNeed s t candidate = creditNeedIn s t c.state candidate ∧
    (c.selection = none → need = 0) ∧
    (∀ sel, c.selection = some sel →
      let at_ (setpoint : Nat) : Nat := needAt s.loader.creditWindow sel.descriptor setpoint
      (state = .running ∨ state = .unloading → need = at_ candidate) ∧
      (state = .starting → need = max (at_ candidate) (at_ sel.descriptor.minLoad)) ∧
      (state = .offline ∨ state = .ready ∨ state = .tripped ∨ state = .lost → need = 0) ∧
      ∀ qk, sel.descriptor.heatRate = some qk →
        let limit := c.reservation * 36000 / (qk * s.loader.creditWindow)
        limitByCredit t candidate s = s.setTrain t
          { c with setpoint := min candidate limit, creditLimit := decide (limit < candidate) })) ∧
  (∀ (t : Train) (need : Nat) (s : State),
    let c := s.train t
    partialReturn t need s =
      s.setTrain t { c with reservation := c.reservation - (c.reservation - need) / 100 * 100 } ∧
    (need ≤ c.reservation →
      need ≤ c.reservation - (c.reservation - need) / 100 * 100 ∧
      c.reservation - (c.reservation - need) / 100 * 100 < need + 100))

/-! ### Dispatch (chapter 10) -/

/-- SETPOINT_FORMATION: the energy of the report is added to Delivered, the Setpoint is formed by aim, ramp, limit, band and
the other kind, with the credit settling and limit of a compressor, a RUNNING train below its min load moves to UNLOADING,
the answering order is issued, and the evaluation follows. The State is the one the report left the train in; a train that
has since come to rest or fallen out is formed as at rest, which is read from R149 and R192 (log 8). The answer is STOP for
a Setpoint fallen to 0 and under a LIMIT band; the orders to a LOST train and to a STARTING one outside dispatch, and STOP
under a LIMIT band in every mode, are the model's (log 9). -/
def Obligations.ASetpointIsFormedAtEachReport : Prop :=
  (∀ (t : Train) (part : ReportPart) (left : List Raised) (s : State), Oldest (pickFormation t) s.raised part left →
    let c := s.train t
    let d := s.dispatcher
    let amount : Int := ((part.power * part.elapsed : Nat) : Int)
    let energy := if trainKind t = .expander then amount else -amount
    let working (state : TrainState) : Prop := state = .starting ∨ state = .running ∨ state = .unloading
    let state := if inUse c.state = true then part.left else c.state
    let stops := (s.cavern.band = .lowLimit ∧ trainKind t = .expander) ∨
      (s.cavern.band = .highLimit ∧ trainKind t = .compressor)
    let warns := (s.cavern.band = .lowWarn ∧ trainKind t = .expander) ∨
      (s.cavern.band = .highWarn ∧ trainKind t = .compressor)
    let otherHolds := ∃ k, trainKind k ≠ trainKind t ∧ 0 < (s.train k).setpoint
    ∃ (candidate : Nat) (written formed : TrainContext) (o : Order),
      exec (.setpointFormation t) s = .next (evaluate
        { s with
          raised := left
          dispatcher := { d with delivered := max (-9000000000000000) (min 9000000000000000 (d.delivered + energy)) }
          trains := s.trains.set t formed
          trainLinks := s.trainLinks.set t ((s.trainLinks.get t).issue o) }) ∧
      (inUse c.state = true ↔ working c.state) ∧
      (¬ working state ∨ c.selection = none → candidate = 0) ∧
      (working state → ∀ sel, c.selection = some sel →
        let e := sel.descriptor
        let aim := if state = .starting then e.minLoad
          else if state = .running ∧ c.released = false ∧ d.mode = .dispatching then c.share else 0
        let rampedTo := if state = .starting then aim
          else if c.setpoint < aim then min aim (c.setpoint + e.rampUp * part.elapsed / 1000)
          else max aim (c.setpoint - e.rampDown * part.elapsed / 1000)
        let limited := min rampedTo (trainLimit s t)
        (c.setpoint = 0 → otherHolds → candidate = 0) ∧
        (¬ (c.setpoint = 0 ∧ otherHolds) →
          (stops → candidate = 0) ∧ (warns → candidate = min limited c.setpoint) ∧
          (¬ stops → ¬ warns → candidate = limited))) ∧
      (trainKind t = .expander ∨ ¬ working state → written = { c with setpoint := candidate }) ∧
      (trainKind t = .compressor → working state →
        (c.selection = none →
          written = { c with setpoint := 0, reservation := c.reservation % 100, creditLimit := false }) ∧
        (∀ sel qk, c.selection = some sel → sel.descriptor.heatRate = some qk →
          let need := creditNeedIn s t state candidate
          let grant := grantSize s t ((need - c.reservation + 99) / 100 * 100)
          let reservation :=
            if c.reservation < need then c.reservation + grant
            else c.reservation - (c.reservation - need) / 100 * 100
          let limit := reservation * 36000 / (qk * s.loader.creditWindow)
          written = { c with reservation := reservation, setpoint := min candidate limit,
                             creditLimit := decide (limit < candidate) })) ∧
      (let unloads := c.state = .running ∧ ∃ sel, c.selection = some sel ∧ written.setpoint < sel.descriptor.minLoad
       (unloads → formed = { written with state := .unloading, startTimer := none, released := false }) ∧
       (¬ unloads → formed = written)) ∧
      o.command =
        (if working c.state ∧ ((0 < c.setpoint ∧ formed.setpoint = 0) ∨ stops) then .stop
         else commandFor d.mode formed.state formed.setpoint) ∧
      o.setpoint = (if o.command = .stop then 0 else formed.setpoint) ∧
      o.topTemperature = orderTemperature s t) ∧
  (∀ (state : TrainState) (setpoint : Nat),
    let command (mode : Mode) : OrderCommand := commandFor mode state setpoint
    let driven (c : OrderCommand) : Prop := command .dispatching = c ∧ command .stopping = c
    let atRest (c : OrderCommand) : Prop := command .standby = c ∧ command .unconfigured = c
    (state = .starting → driven .start ∧ atRest .hold) ∧
    (state = .running → driven .run ∧ atRest .hold) ∧
    (state = .unloading → 0 < setpoint → driven .run ∧ atRest .hold) ∧
    (state = .unloading → setpoint = 0 → driven .stop ∧ atRest .stop) ∧
    (state = .tripped → driven .stop ∧ atRest .stop) ∧
    (state = .offline ∨ state = .ready ∨ state = .lost → driven .hold ∧ atRest .hold)) ∧
  (∀ (s : State) (t : Train),
    (trainKind t = .compressor → orderTemperature s t = 0) ∧
    (trainKind t = .expander → ∀ top rest, (s.tank (s.train t).boundTank).layers = top :: rest →
      orderTemperature s t = top.temperature) ∧
    ((s.tank (s.train t).boundTank).layers = [] → orderTemperature s t = 0))

/-- The Schedule Value, the caps and the Target. An evaluation forms C from the Active Firm Set, the caps from the Cap
Members' Train Limits and Credit Reaches as the Band then acts on them, and N from C within the caps in DISPATCHING, 0 in
every other mode. The Train Limit is the Current Limit under the Outage Records, and for an expander on a top that is not
USABLE no more than the Cold Max. -/
def Obligations.TheTargetIsTheScheduleWithinTheCaps : Prop :=
  (∀ s : State,
    let e := evaluate s
    let active := s.store.commitments.filter fun c => decide (c.standing = .firm) && c.isActive
    let sum (those : List Int) : Int := those.foldr (· + ·) 0
    let called (k : CommitmentKind) (amount : Commitment → Int) : Int :=
      sum ((active.filter fun c => decide (c.kind = k)).map amount)
    let scheduled := called .energy (fun c => c.power) + called .reserveUp (fun c => (c.deployed : Int)) -
      called .reserveDown fun c => (c.deployed : Int)
    let member (t : Train) : Bool :=
      (s.train t).selection.isSome && !(s.train t).released &&
      decide ((s.train t).state = .ready ∨ (s.train t).state = .starting ∨ (s.train t).state = .running)
    let working (t : Train) : Bool :=
      !(s.train t).released && decide ((s.train t).state = .starting ∨ (s.train t).state = .running)
    let reach (t : Train) : Nat := min (trainLimit s t) (creditReach s t)
    let generation := ((([.x1, .x2, .x3] : List Train).filter member).map (trainLimit s)).sum
    let charge := ((([.k1, .k2, .k3] : List Train).filter member).map reach).sum
    let held (those : List Train) : Nat := ((those.filter working).map fun t => (s.train t).setpoint).sum
    let b := s.cavern.band
    e.dispatcher.scheduleValue = scheduled ∧
    (b = .lowLimit → e.dispatcher.generationCap = 0) ∧
    (b = .lowWarn → e.dispatcher.generationCap = min generation (held [.x1, .x2, .x3])) ∧
    (b ≠ .lowLimit → b ≠ .lowWarn → e.dispatcher.generationCap = generation) ∧
    (b = .highLimit → e.dispatcher.chargeCap = 0) ∧
    (b = .highWarn → e.dispatcher.chargeCap = min charge (held [.k1, .k2, .k3])) ∧
    (b ≠ .highLimit → b ≠ .highWarn → e.dispatcher.chargeCap = charge) ∧
    (s.dispatcher.mode = .dispatching →
      e.dispatcher.target =
        max (-(e.dispatcher.chargeCap : Int)) (min (e.dispatcher.generationCap : Int) scheduled)) ∧
    (s.dispatcher.mode ≠ .dispatching → e.dispatcher.target = 0)) ∧
  (∀ (s : State) (t : Train),
    let c := s.train t
    let top := topStanding s c.boundTank
    let outages := s.tables.outages.filter fun o =>
      decide (o.train = t ∧ o.first ≤ s.interval ∧ s.interval ≤ o.last)
    (c.selection = none → trainLimit s t = 0 ∧ creditReach s t = 0) ∧
    (∀ sel, c.selection = some sel →
      let limit := currentLimit s t
      let free := if (s.tank c.boundTank).surveyed then freeEnergy s c.boundTank else 0
      (trainKind t = .compressor ∨ top = .usable → trainLimit s t = limit) ∧
      (trainKind t = .expander → top ≠ .usable → ∀ cold, sel.descriptor.coldMax = some cold →
        trainLimit s t = min limit cold) ∧
      (∀ qk, sel.descriptor.heatRate = some qk →
        creditReach s t = (c.reservation + free) * 36000 / (qk * s.loader.creditWindow)) ∧
      ((∃ o ∈ outages, o.kind = .full) → limit = 0) ∧
      ((∀ o ∈ outages, o.kind = .derate) →
        limit ≤ sel.descriptor.maxLoad ∧ (∀ o ∈ outages, ∀ m, o.derateMax = some m → limit ≤ m) ∧
        (limit = sel.descriptor.maxLoad ∨ ∃ o ∈ outages, o.derateMax = some limit))) ∧
    ((s.tank c.boundTank).layers = [] → top = .empty) ∧
    (∀ l rest, (s.tank c.boundTank).layers = l :: rest →
      top = if s.loader.heat.tUse ≤ l.temperature then .usable else .cold))

/-- The four notices each bring one evaluation. An evaluation changes nothing but the Train Contexts, the train links and the
Dispatcher. It settles the Direction from N and the Held Kind; outside DISPATCHING, IDLE and REVERSING give every train
Share 0, and only READY trains of the Active Kind are started. Every other train keeps its context but for the Share and the
Released flag, and then a Setpoint above the Train Limit, or above 0 where a LIMIT band stops its kind, is lowered to that;
no other Setpoint falls and no order but that of a start or a lowering is issued. A changed C closes the Scheduled segment
under the old one, and STOPPING ends with the Stop Condition. -/
def Obligations.NoticesBringAnEvaluation : Prop :=
  (∀ (tank : Tank) (t : Train) (left : List Raised) (s : State),
    let taken : State := { s with raised := left }
    (Oldest (pickNotice .activeFirm) s.raised () left → exec .activeFirmNotice s = .next (evaluate taken)) ∧
    (Oldest (pickNotice .band) s.raised () left → exec .bandNotice s = .next (evaluate taken)) ∧
    (Oldest (pickNotice (.top tank)) s.raised () left → exec (.topNotice tank) s = .next (evaluate taken)) ∧
    (Oldest (pickNotice (.train t)) s.raised () left → exec (.trainNotice t) s = .next (evaluate taken))) ∧
  (∀ s : State,
    let e := evaluate s
    let d := s.dispatcher
    let n := e.dispatcher.target
    let holds (k : TrainKind) : Prop := ∃ t, trainKind t = k ∧ 0 < (s.train t).setpoint
    let direction (of : Direction) : Prop := e.dispatcher.direction = of
    let changed := e.dispatcher.scheduleValue ≠ d.scheduleValue
    let segment := d.scheduleValue * ((s.tables.millis - d.scheduledMark : Nat) : Int)
    let stopped := ∀ t, (e.train t).setpoint = 0 ∧ (e.train t).state ≠ .starting ∧ (e.train t).state ≠ .running ∧
      (e.train t).state ≠ .unloading
    let starts (t : Train) : Prop := (s.train t).state = .ready ∧ (e.train t).state = .starting
    e = { s with trains := e.trains, trainLinks := e.trainLinks, dispatcher := e.dispatcher } ∧
    (0 < n → (holds .compressor ∧ ¬ holds .expander → direction .reversing) ∧
      (holds .expander ∨ ¬ holds .compressor → direction .generating)) ∧
    (n < 0 → (holds .expander → direction .reversing) ∧ (¬ holds .expander → direction .charging)) ∧
    (n = 0 → (holds .expander → direction .generating) ∧
      (¬ holds .expander → holds .compressor → direction .charging) ∧
      (¬ holds .expander → ¬ holds .compressor → direction .idle)) ∧
    (d.mode ≠ .dispatching ∨ direction .idle ∨ direction .reversing → ∀ t, (e.train t).share = 0 ∧ ¬ starts t) ∧
    ((∀ k, ∀ t ∈ (d.rotation k).phases, trainKind t = k) →
      ∀ t, starts t → activeKind e.dispatcher.direction = some (trainKind t)) ∧
    (∀ t, (e.train t).setpoint ≤ (s.train t).setpoint ∨ starts t) ∧
    (∀ t, (e.train t).state = (s.train t).state ∨ starts t ∨
      ((s.train t).state = .running ∧ (e.train t).state = .unloading)) ∧
    (∀ t, (e.train t).setpoint ≤ trainLimit e t) ∧
    (∀ t, bandStops s.cavern.band (trainKind t) = true → (e.train t).setpoint = 0) ∧
    (∀ t, (e.train t).selection = (s.train t).selection ∧ (e.train t).boundTank = (s.train t).boundTank ∧
      (e.train t).lastReport = (s.train t).lastReport ∧ (e.train t).silence = (s.train t).silence ∧
      (starts t ∨ (e.train t).runStart = (s.train t).runStart)) ∧
    (∃ decided : State, decided =
        { s with trains := decided.trains, trainLinks := decided.trainLinks, dispatcher := decided.dispatcher } ∧
      decided.dispatcher.mode = d.mode ∧
      ∀ t,
        let w := decided.train t
        let bound :=
          if (s.cavern.band = .lowLimit ∧ trainKind t = .expander) ∨
              (s.cavern.band = .highLimit ∧ trainKind t = .compressor) then 0
          else trainLimit s t
        (¬ starts t →
          w = { s.train t with share := w.share, released := w.released } ∧
          decided.trainLinks.get t = s.trainLinks.get t) ∧
        (starts t → ∃ sel, (s.train t).selection = some sel ∧
          w = { s.train t with
                state := .starting, setpoint := sel.descriptor.minLoad, runStart := some (s.interval, s.clock.second),
                startTimer := some 0, share := w.share
                reservation := (s.train t).reservation + startRequest s t sel.descriptor } ∧
          decided.trainLinks.get t = (s.trainLinks.get t).issue
            { command := .start, setpoint := sel.descriptor.minLoad, topTemperature := orderTemperature s t }) ∧
        (w.setpoint ≤ bound → e.train t = w ∧ e.trainLinks.get t = decided.trainLinks.get t) ∧
        (bound < w.setpoint →
          e.train t = (lowerSetpoint t bound decided).train t ∧
          e.trainLinks.get t = (lowerSetpoint t bound decided).trainLinks.get t)) ∧
    (¬ changed → e.dispatcher.scheduled = d.scheduled ∧ e.dispatcher.scheduledMark = d.scheduledMark) ∧
    (changed →
      e.dispatcher.scheduled = max (-9000000000000000) (min 9000000000000000 (d.scheduled + segment)) ∧
      e.dispatcher.scheduledMark = s.tables.millis) ∧
    (e.dispatcher.mode = if d.mode = .stopping ∧ stopCondition e then .standby else d.mode) ∧
    (stopCondition e = true ↔ stopped) ∧
    e.dispatcher.delivered = d.delivered ∧ e.dispatcher.openInterval = d.openInterval) ∧
  (∀ (t : Train) (v : Nat) (s : State) (sel : Selection), (s.train t).selection = some sel →
    let c := s.train t
    let k := lowerSetpoint t v s
    let l := k.train t
    ∃ o : Order,
      k = { s with trains := s.trains.set t l, trainLinks := s.trainLinks.set t ((s.trainLinks.get t).issue o) } ∧
      (let unloads := c.state = .running ∧ l.setpoint < sel.descriptor.minLoad
       (unloads → l = { c with
         state := .unloading, startTimer := none, released := false
         setpoint := l.setpoint, reservation := l.reservation, creditLimit := l.creditLimit }) ∧
       (¬ unloads → l = { c with
         setpoint := l.setpoint, reservation := l.reservation, creditLimit := l.creditLimit })) ∧
      (trainKind t = .expander → l.setpoint = v ∧ l.reservation = c.reservation ∧ l.creditLimit = c.creditLimit) ∧
      (trainKind t = .compressor → ∀ qk, sel.descriptor.heatRate = some qk →
        let limit := l.reservation * 36000 / (qk * s.loader.creditWindow)
        l.reservation = c.reservation - (c.reservation - creditNeed s t v) / 100 * 100 ∧
        l.setpoint = min v limit ∧ l.creditLimit = decide (limit < v)) ∧
      (l.setpoint = 0 → o.command = .stop) ∧
      (0 < l.setpoint → o.command = commandFor s.dispatcher.mode l.state l.setpoint) ∧
      o.setpoint = (if o.command = .stop then 0 else l.setpoint) ∧ o.topTemperature = orderTemperature s t)

/-- The decisions of an evaluation. In DISPATCHING with an Active Kind an evaluation makes that kind's stop decisions, then
its start decisions, then the shares of what is then its Running Set; in any other case it stops and starts nothing. Each
stop decision releases the Eldest if N is at or below 90% of the Running Sum without it, and no other train; each start
decision starts, from the Pointer on, the first Startable train of the walk while N exceeds the Running Sum; three of
each are enough. The shares give each member its equal part and the remainder in Rotation Order. That every train
outside the Running Set of the Active Kind has Share 0 is read from R185 (log 12); the equal part of a train whose Train
Limit lies below its min load, and the Eldest where a Run Start is absent, are the model's (log 11). -/
def Obligations.StopsStartsAndSharesFollowTheTarget : Prop :=
  (∀ s : State,
    let e := evaluate s
    let d := s.dispatcher
    let ready : State :=
      { s with
        dispatcher := { d with
                        generationCap := e.dispatcher.generationCap, chargeCap := e.dispatcher.chargeCap
                        target := e.dispatcher.target, direction := e.dispatcher.direction } }
    let active (k : TrainKind) : Prop := d.mode = .dispatching ∧
      ((e.dispatcher.direction = .generating ∧ k = .expander) ∨ (e.dispatcher.direction = .charging ∧ k = .compressor))
    let follows (decided : State) : Prop :=
      e.dispatcher.compressorRotation = decided.dispatcher.compressorRotation ∧
      e.dispatcher.expanderRotation = decided.dispatcher.expanderRotation ∧
      ∀ t, (e.train t).runStart = (decided.train t).runStart ∧
        (((e.train t).state = (decided.train t).state ∧ (e.train t).released = (decided.train t).released) ∨
          ((decided.train t).state = .running ∧ (e.train t).state = .unloading ∧ (e.train t).released = false))
    (∀ k, active k →
      let decided := startDecisions k 3 (stopDecisions k 3 ready)
      follows decided ∧ ∀ t, (e.train t).share = ((sharesOf decided k).lookup t).getD 0) ∧
    ((∀ k, ¬ active k) → follows ready ∧ ∀ t, (e.train t).share = 0)) ∧
  (∀ (k : TrainKind) (s : State),
    (∀ t, t ∈ runningSet s k ↔ trainKind t = k ∧ ((s.train t).state = .starting ∨ (s.train t).state = .running) ∧
      (s.train t).released = false) ∧
    (runningSet s k).Pairwise (fun a b => trainIndex a < trainIndex b) ∧
    runningSum s k = ((runningSet s k).map (trainLimit s)).sum) ∧
  (∀ (k : TrainKind) (fuel : Nat) (s : State),
    let set := runningSet s k
    let without (t : Train) : Nat := ((set.filter fun u => decide (u ≠ t)).map (trainLimit s)).sum
    stopDecisions k 0 s = s ∧
    (set = [] → stopDecisions k (fuel + 1) s = s) ∧
    (∀ t, eldest s set = some t →
      (s.dispatcher.target.natAbs ≤ without t * 9 / 10 →
        stopDecisions k (fuel + 1) s =
          stopDecisions k fuel { s with trains := s.trains.set t { s.train t with released := true } }) ∧
      (without t * 9 / 10 < s.dispatcher.target.natAbs → stopDecisions k (fuel + 1) s = s)) ∧
    stopDecisions k (3 + fuel) s = stopDecisions k 3 s) ∧
  (∀ (s : State) (those : List Train), those ≠ [] →
    let before (t k : Train) : Prop :=
      (runKey s t).1 < (runKey s k).1 ∨ ((runKey s t).1 = (runKey s k).1 ∧ (runKey s t).2 < (runKey s k).2)
    (∀ t, runKey s t = ((s.train t).runStart).getD (0, 0)) ∧
    ∃ front t back, those = front ++ t :: back ∧ eldest s those = some t ∧ (∀ k ∈ front, before t k) ∧
      ∀ k ∈ back, ¬ before k t) ∧
  (∀ (k : TrainKind) (fuel : Nat) (s : State),
    let n := s.dispatcher.target.natAbs
    let r := s.dispatcher.rotation k
    let walk := r.walk
    startDecisions k 0 s = s ∧
    (n ≤ runningSum s k → startDecisions k (fuel + 1) s = s) ∧
    (runningSum s k < n → (∀ p ∈ walk, startable s (deploymentDriven s k) p.2 = none) →
      startDecisions k (fuel + 1) s = s) ∧
    (∀ front phase t back d, runningSum s k < n → walk = front ++ (phase, t) :: back →
      (∀ p ∈ front, startable s (deploymentDriven s k) p.2 = none) →
      startable s (deploymentDriven s k) t = some d →
      let moved := { s.dispatcher with
        compressorRotation := if k = .compressor then { r with pointer := (phase + 1) % 12 }
          else s.dispatcher.compressorRotation
        expanderRotation := if k = .expander then { r with pointer := (phase + 1) % 12 }
          else s.dispatcher.expanderRotation }
      let start : Order := { command := .start, setpoint := d.minLoad, topTemperature := orderTemperature s t }
      let begun : TrainContext :=
        { s.train t with
          state := .starting, setpoint := d.minLoad, runStart := some (s.interval, s.clock.second),
          startTimer := some 0, reservation := (s.train t).reservation + startRequest s t d }
      startDecisions k (fuel + 1) s = startDecisions k fuel
        { s with
          dispatcher := moved
          trains := s.trains.set t begun
          trainLinks := s.trainLinks.set t ((s.trainLinks.get t).issue start) }) ∧
    ((∀ t ∈ r.phases, trainKind t = k) → startDecisions k (3 + fuel) s = startDecisions k 3 s) ∧
    (r.phases.length = 12 → r.pointer < 12 →
      walk.map Prod.fst = (List.range 12).map (fun i => (r.pointer + i) % 12) ∧
      ∀ p ∈ walk, r.phases[p.1]? = some p.2)) ∧
  (∀ (k : TrainKind) (s : State),
    let energy := (s.store.commitments.filter fun c => decide (c.standing = .firm ∧ c.kind = .energy) && c.isActive)
    let called : Int := (energy.map fun c => c.power).foldr (· + ·) 0
    let n := s.dispatcher.target
    let cap := if k = .expander then s.dispatcher.generationCap else s.dispatcher.chargeCap
    (deploymentDriven s k = true ↔
      (called = 0 ∨ (0 < called ∧ 0 < n) ∨ (called < 0 ∧ n < 0)) ∧ min called.natAbs cap ≤ runningSum s k)) ∧
  (∀ (s : State) (deployment : Bool) (t : Train) (d : Descriptor),
    let c := s.train t
    let warned := (trainKind t = .expander ∧ (s.cavern.band = .lowWarn ∨ s.cavern.band = .lowLimit)) ∨
      (trainKind t = .compressor ∧ (s.cavern.band = .highWarn ∨ s.cavern.band = .highLimit))
    let need := if trainKind t = .compressor then needAt s.loader.creditWindow d d.minLoad else 0
    (startable s deployment t = some d ↔
      (∃ sel, c.selection = some sel ∧ sel.descriptor = d) ∧ c.state = .ready ∧ 0 < trainLimit s t ∧ ¬ warned ∧
      (deployment = true → d.reserveCapable = true) ∧ (need = 0 ∨ grantSize s t need = need)) ∧
    startRequest s t d = need) ∧
  (∀ (k : TrainKind) (s : State),
    let members := runningSet s k
    let n := s.dispatcher.target.natAbs
    let q := n / members.length
    let equal (t : Train) : Nat :=
      if trainLimit s t < q then trainLimit s t
      else if q < minLoadOf s t then (if minLoadOf s t ≤ 2 * q then minLoadOf s t else 0)
      else q
    let given (t : Train) : Nat := ((sharesOf s k).lookup t).getD 0
    let sum (f : Train → Nat) (those : List Train) : Nat := (those.map f).sum
    let room (t : Train) : Nat := trainLimit s t - equal t
    let met := (s.dispatcher.rotation k).walk.map Prod.snd ++
      (if k = .compressor then [.k1, .k2, .k3] else [.x1, .x2, .x3])
    (∀ t, t ∉ members → given t = 0) ∧
    (∀ t sel, (s.train t).selection = some sel → minLoadOf s t = sel.descriptor.minLoad) ∧
    (∃ order : List Train, order.Perm members ∧ order.Pairwise (fun a b => met.idxOf a < met.idxOf b) ∧
      ∀ front t back, order = front ++ t :: back →
        given t = equal t + min (n - sum equal members - sum room front) (room t)) ∧
    sum given members = sum equal members + min (n - sum equal members) (sum room members))

/-- INTERVAL_CLOSE. The Scheduled segment is closed, both accumulators are converted to kWh with the magnitude rounded half
up, the difference is delivered as the imbalance of the Open Interval, the accumulators become 0 and the Open Interval the
New Interval, the Outage Records Expired for it are removed with a Train Notice for each train that lost one, and the
evaluation follows. That expiry is judged for the Boundary's New Interval is the model's (log 21). -/
def Obligations.AnIntervalClosesWithItsImbalance : Prop :=
  ∀ (b : Boundary) (left : List Raised) (s : State), Oldest (pickBoundary .dispatcher) s.raised b left →
    let d := s.dispatcher
    let segment := d.scheduleValue * ((s.tables.millis - d.scheduledMark : Nat) : Int)
    let scheduled := max (-9000000000000000) (min 9000000000000000 (d.scheduled + segment))
    let lost (t : Train) : Bool := s.tables.outages.any fun o => decide (o.train = t ∧ o.last < b.newInterval)
    ∃ delivered owed : Int,
      (∀ (kwh x : Int), (kwh = delivered ∧ x = d.delivered) ∨ (kwh = owed ∧ x = scheduled) →
        72000 * kwh.natAbs ≤ 2 * x.natAbs + 36000 ∧ 2 * x.natAbs < 72000 * kwh.natAbs + 36000 ∧
        (0 ≤ x → 0 ≤ kwh) ∧ (x ≤ 0 → kwh ≤ 0)) ∧
      exec .intervalClose s = .next (evaluate
        { s with
          dispatcher := { d with
                          delivered := 0, scheduled := 0, scheduledMark := s.tables.millis,
                          openInterval := b.newInterval }
          tables := { s.tables with outages := s.tables.outages.filter fun o => b.newInterval ≤ o.last }
          raised := left ++ .imbalance d.openInterval (delivered - owed) :: (allTrains.filter lost).map .train })

/-! ### The Configuration Loader (chapter 11) -/

/-- LOAD_END and CONFIG_ITEM_TAKEN. A rejected image gives no item, sets CONFIG_ITEM_INVALID and ends the load in
UNCONFIGURED; an accepted one is read into its items and each sound one is handed on, with CONFIG_ITEM_INVALID unless all
twelve are given soundly and nothing was skipped. An owner that takes its item sets the item's flag; with the last handed
item taken the load has ended, and with every flag set the mode moves to STANDBY and the first Pass begins. A second
LOAD_END has no effect (log 18). The words of the image are two octets each from address 0 of the memory, the most
significant first, and beyond the octets the memory gives a word reads 0xFFFF. -/
def Obligations.TheLoadHandsOnTheSoundItems : Prop :=
  (∀ (memory : List Octet) (s : State),
    (s.loader.loadState = .ended ∨ s.loader.judged = true → exec (.loadEnd memory) s = .next s) ∧
    (s.loader.loadState = .loading → s.loader.judged = false →
      let invalid := s.sticky ||| 33554432#26
      (readImage memory = none ∨ (∃ o, readImage memory = some o ∧ (judgeImage s.cavern.characteristic o).1 = []) →
        (∀ r ∈ s.raised, handedItem r = none) → s.dispatcher.mode = .unconfigured → s.loader.validity = 0 →
        exec (.loadEnd memory) s = .next { s with sticky := invalid, loader := { s.loader with loadState := .ended } }) ∧
      (∀ occurrences, readImage memory = some occurrences →
        let judged := judgeImage s.cavern.characteristic occurrences
        (judged.1 ≠ [] →
          exec (.loadEnd memory) s = .next
            { s with
              sticky := if judged.2 then invalid else s.sticky
              loader := { s.loader with judged := true }
              raised := s.raised ++ judged.1.map .configItem })))) ∧
  (∀ (memory : List Octet) (word : Nat),
    (wordAt memory 0 ≠ 0x5A47 → readImage memory = none) ∧
    (∀ upper lower, memory[2 * word]? = some upper → memory[2 * word + 1]? = some lower →
      wordAt memory word = upper.toNat * 256 + lower.toNat) ∧
    (memory.length ≤ 2 * word → wordAt memory word = 0xFFFF)) ∧
  (∀ (occurrences : List (Nat × List Nat)) (sum : Nat) (beyond : List Octet),
    (∀ o ∈ occurrences, o.1 < 256 ∧ o.2.length < 256 ∧ ∀ w ∈ o.2, w < 65536) → sum < 65536 →
    let items := occurrences.flatMap fun o => (o.1 * 256 + o.2.length) :: o.2
    let image := 0x5A47 :: occurrences.length :: sum :: items
    let memory := image.flatMap u16 ++ beyond
    (image.length ≤ 4096 → image.sum % 65536 = 0 → readImage memory = some occurrences) ∧
    (image.length ≤ 4096 → image.sum % 65536 ≠ 0 → readImage memory = none) ∧
    (4096 < image.length → occurrences.length < 65536 → readImage memory = none)) ∧
  (∀ (held : List (Nat × Nat)) (occurrences : List (Nat × List Nat)) (i : ItemId),
    let points := loadedPoints held occurrences
    let judged := judgeImage held occurrences
    let sound (o : Nat × List Nat) (item : ConfigItem) : Prop := judgeOccurrence points o = some item ∧ item.itemId = i
    (∀ front o back item, occurrences = front ++ o :: back → sound o item → (∀ k ∈ back, ∀ other, ¬ sound k other) →
      ∀ other, other ∈ judged.1 ∧ other.itemId = i ↔ other = item) ∧
    ((∀ o ∈ occurrences, ∀ item, ¬ sound o item) → ∀ item ∈ judged.1, item.itemId ≠ i) ∧
    (judged.2 = true ↔ (∃ o ∈ occurrences, judgeOccurrence points o = none) ∨
      ∃ j, ∀ item ∈ judged.1, item.itemId ≠ j)) ∧
  (∀ (i : ItemId) (item : ConfigItem) (left : List Raised) (s : State), Oldest (pickItem s.raised i) s.raised item left →
    let taken := takeItem item { s with raised := left }
    let valid : State :=
      { taken with
        loader := { taken.loader with validity := s.loader.validity ||| BitVec.ofNat 12 (2 ^ itemIndex i) } }
    let ended : State := { valid with loader := { valid.loader with loadState := .ended, judged := false } }
    ((∃ r ∈ left, handedItem r ≠ none) → exec (.configItemTaken i) s = .next valid) ∧
    ((∀ r ∈ left, handedItem r = none) →
      (valid.loader.validity = 4095#12 → s.dispatcher.mode = .unconfigured →
        exec (.configItemTaken i) s = .next (beginIfDue
          { ended with dispatcher := { ended.dispatcher with mode := .standby } })) ∧
      (valid.loader.validity ≠ 4095#12 ∨ s.dispatcher.mode ≠ .unconfigured →
        exec (.configItemTaken i) s = .next (beginIfDue ended))))

/-- CONFIGURE, and what the owner of each item does when it takes it. The checks in order: the mode, the identifier, the
number of words, the fields by Kind, the remaining checks, the owner's in-use check. A refusal changes no item and no
flag; at checks 4 and 5 it sets CONFIG_ITEM_INVALID. A body equal to the value in force of an item whose flag is set
writes nothing; any other is taken, its flag set, and with the last clear flag set the mode moves to STANDBY. Every answer
carries the Item Validity and the mode. The bindings in force are those of the Train Contexts (log 19), and a train whose listed
row has another Generation than its copy counts as changed, with its Train Notice and pass-pending (log 20). -/
def Obligations.ConfigureWritesOneItem : Prop :=
  (∀ (f : Frame) (identifier : Nat) (words : List Nat) (s r : State), Admitted supervisoryOnly f s r →
    f.body = configureOctets identifier words → configureEncodable identifier words →
    let outcome (status : Status) (t : State) : Prop :=
      exec (.configure f) s = .next (answered f 0x44 status
        (u16 t.loader.validity.toNat ++ u8 (modeCode t.dispatcher.mode)) t)
    let invalid : State := { r with sticky := r.sticky ||| 33554432#26 }
    let mode := r.dispatcher.mode
    (mode = .dispatching ∨ mode = .stopping → outcome .wrongState r) ∧
    (mode = .unconfigured ∨ mode = .standby →
      (identifier = 0 → words = [] → outcome .doneUnchanged r) ∧
      (identifier = 0 → words ≠ [] → outcome .outOfRange r) ∧
      (12 < identifier → outcome .outOfRange r) ∧
      (∀ i : ItemId, identifier = itemIndex i + 1 →
        let sized := if i = .envelopeTable then
            ∃ k first rest, 1 ≤ k ∧ k ≤ 15 ∧ words = first :: rest ∧ rest.length = 8 * k ∧ first + k ≤ 24
          else words.length = itemWords i
        (¬ sized → outcome .outOfRange r) ∧
        (sized → kindsFit i words = false → outcome .wrongKind invalid) ∧
        (sized → kindsFit i words = true →
          (readConfigure i words = none → outcome .outOfRange invalid) ∧
          (∀ item, readConfigure i words = some item →
            (configureSound r item = false → outcome .outOfRange invalid) ∧
            (configureSound r item = true →
              (∀ status, configureInUse r item = some status → outcome status r) ∧
              (configureInUse r item = none →
                let same := r.loader.validity.getLsbD (itemIndex i) = true ∧ inForce r item = true
                let taken := takeItem item r
                let validity := r.loader.validity ||| BitVec.ofNat 12 (2 ^ itemIndex i)
                let valid : State := { taken with loader := { taken.loader with validity := validity } }
                (same → outcome .doneUnchanged r) ∧
                (¬ same →
                  (mode = .unconfigured → validity = 4095#12 →
                    outcome .done (beginIfDue { valid with dispatcher := { valid.dispatcher with mode := .standby } })) ∧
                  (mode = .standby ∨ validity ≠ 4095#12 → outcome .done (beginIfDue valid)))))))))) ∧
  (∀ s : State,
    let pending : State := { s with projector := { s.projector with passPending := true } }
    (∀ th, takeItem (.thresholds th) s = triggerPass (reinterpolate { s with cavern := { s.cavern with thresholds := th } })) ∧
    (∀ points, takeItem (.characteristic points) s = triggerPass (reinterpolate
      { s with
        cavern := { s.cavern with
                    characteristic := points
                    calibrated := s.cavern.calibrated && decide (points = s.cavern.characteristic) } })) ∧
    (∀ v, takeItem (.rateLimit v) s = { pending with loader := { s.loader with rateLimit := v } }) ∧
    (∀ v, takeItem (.plantRates v) s = { pending with loader := { s.loader with rates := v } }) ∧
    (∀ v, takeItem (.creditWindow v) s = { s with loader := { s.loader with creditWindow := v } }) ∧
    (∀ v, takeItem (.gateLead v) s = { s with clock := { s.clock with gateLead := v } }) ∧
    (∀ v, takeItem (.heatConstants v) s = triggerPass (topNotices s
      { s with
        loader := { s.loader with heat := v }
        tanks := s.tanks.map fun k => { k with layers := k.layers.filter fun l => v.tRef < l.temperature } })) ∧
    (∀ v : PerTank Nat,
      let emptied (tank : Tank) : Bool :=
        decide (v.get tank < ((s.tank tank).layers.map Layer.energy).sum + reservedEnergy s.trains tank)
      let kept (tank : Tank) : TankState :=
        if emptied tank = true then { s.tank tank with capacity := v.get tank, layers := [], surveyed := false }
        else { s.tank tank with capacity := v.get tank }
      takeItem (.tankCapacities v) s =
        { pending with
          tanks := { t1 := kept .t1, t2 := kept .t2, t3 := kept .t3 }
          raised := s.raised ++
            (allTanks.filter fun tank => emptied tank && decide ((s.tank tank).layers ≠ [])).map .top }) ∧
    (∀ ms : Nat,
      let k := takeItem (.silenceTimeout ms) s
      let silent (t : Train) : Prop :=
        ((s.train t).state = .ready ∨ (s.train t).state = .starting ∨ (s.train t).state = .running ∨
          (s.train t).state = .unloading) ∧ ∃ v, (s.train t).silence = some v ∧ ms ≤ v
      (∃ lost : List Train, lost.Pairwise (fun a b => trainIndex a < trainIndex b) ∧ (∀ t, t ∈ lost ↔ silent t) ∧
        k = { s with
              trains := k.trains
              sticky := k.sticky
              loader := { s.loader with silenceTimeout := ms }
              projector := { s.projector with passPending := s.projector.passPending || decide (lost ≠ []) }
              raised := s.raised ++ lost.map .train }) ∧
      (∀ t, (¬ silent t → k.train t = s.train t) ∧
        (silent t → k.train t =
          { s.train t with
            state := .lost, setpoint := 0, share := 0, reservation := 0, runStart := none, startTimer := none,
            released := false, creditLimit := false })) ∧
      (∀ i, k.sticky.getLsbD i = true ↔ s.sticky.getLsbD i = true ∨ ∃ t, silent t ∧ i = 18 + trainIndex t)) ∧
    (∀ compressor expander, takeItem (.dutyRotations compressor expander) s = evaluate
      { s with
        dispatcher := { s.dispatcher with
                        compressorRotation := { phases := compressor, pointer := 0 }
                        expanderRotation := { phases := expander, pointer := 0 } } }) ∧
    (∀ first rows n row, s.tables.envelopes[n]? = some row →
      let k := takeItem (.envelopeTable first rows) s
      k = { s with tables := { s.tables with envelopes := k.tables.envelopes } } ∧
      (n < first ∨ first + rows.length ≤ n → k.tables.envelopes[n]? = some row) ∧
      (∀ i d, rows[i]? = some d → n = first + i →
        k.tables.envelopes[n]? = some
          (if row.descriptor = d then row
           else { descriptor := d, generation := (row.generation + 1) % 65536 }))) ∧
    (∀ b : PerTrain (Tank × Option Nat),
      let k := takeItem (.bindings b) s
      let bound (t : Train) : State := s.setTrain t { s.train t with boundTank := (b.get t).1 }
      let moved (t : Train) : Prop := (k.train t).selection ≠ (s.train t).selection
      let names (t : Train) (n : Nat) (row : EnvelopeRow) : Prop := (b.get t).2 = some n ∧
        s.tables.envelopes[n]? = some row ∧ row.descriptor.valid = true ∧ row.descriptor.kind = trainKind t
      let becomes (t : Train) (u : State) : Prop :=
        k.train t = u.train t ∧ k.trainLinks.get t = u.trainLinks.get t
      (∃ told : List Train, told.Pairwise (fun a b => trainIndex a < trainIndex b) ∧
        (∀ t, t ∈ told ↔ moved t ∨ (b.get t).1 ≠ (s.train t).boundTank) ∧
        k = { s with
              trains := k.trains
              trainLinks := k.trainLinks
              sticky := k.sticky
              projector := { s.projector with passPending := k.projector.passPending }
              raised := s.raised ++ told.map .train }) ∧
      (k.projector.passPending = true ↔ s.projector.passPending = true ∨ ∃ t, moved t) ∧
      (∀ i, k.sticky.getLsbD i = true ↔ s.sticky.getLsbD i = true ∨
        ∃ t, i = 12 + trainIndex t ∧ (s.train t).state = .starting ∧ (k.train t).state = .tripped) ∧
      (∀ t n row, names t n row →
        let held := ∃ sel, (s.train t).selection = some sel ∧ sel.selector = n ∧ sel.generation = row.generation
        (held → becomes t (bound t)) ∧ (¬ held → becomes t (takeRow t n row (bound t)))) ∧
      (∀ t, (∀ n row, ¬ names t n row) →
        ((s.train t).selection = none → becomes t (bound t)) ∧
        ((s.train t).selection ≠ none → becomes t (deselect t (bound t))))))

/-- What makes an item of the image sound: its identifier, its number of words and the checks of its row, item by item;
a sound occurrence is read as the value its words lay out, and any other is unsound. The pressure thresholds are judged
against the points of a Characteristic, those the load leaves in force. -/
def Obligations.ItemsOfTheImageAreJudgedByTheirChecks : Prop :=
  ∀ points : List (Nat × Nat),
    let judged (identifier : Nat) (words : List Nat) : Option ConfigItem := judgeOccurrence points (identifier, words)
    let item (identifier : Nat) (words : List Nat) (value : ConfigItem) (sound : Prop) : Prop :=
      (sound → judged identifier words = some value) ∧ (¬ sound → judged identifier words = none)
    let double (n : Nat) : List Nat := [n / 65536, n % 65536]
    let sizes : List Nat := [27, 4, 1, 4, 5, 6, 1, 1, 1, 24, 192, 6]
    (∀ identifier words, identifier = 0 ∨ 12 < identifier → judged identifier words = none) ∧
    (∀ identifier words size, sizes[identifier]? = some size → words.length ≠ size →
      judged (identifier + 1) words = none) ∧
    (∀ given : List (Nat × Nat), given.length = 9 →
      item 1 (given.flatMap fun p => double p.1 ++ [p.2]) (.characteristic given)
        (given.Pairwise fun a b => a.1 < b.1 ∧ a.2 < b.2)) ∧
    (∀ a b c d lowest highest, points.head? = some lowest → points.getLast? = some highest →
      item 2 [a, b, c, d] (.thresholds { lowLimit := a, lowWarn := b, highWarn := c, highLimit := d })
        (a < b ∧ b < c ∧ c < d ∧ lowest.2 ≤ a ∧ d ≤ highest.2)) ∧
    (∀ v, item 3 [v] (.rateLimit v) (1 ≤ v ∧ v ≤ 2000)) ∧
    (∀ a b c d, item 4 [a, b, c, d] (.plantRates { genMass := a, chgMass := b, genHeat := c, chgHeat := d })
      (1 ≤ a ∧ a ≤ 20000 ∧ 1 ≤ b ∧ b ≤ 20000 ∧ 1 ≤ c ∧ c ≤ 5000 ∧ 1 ≤ d ∧ d ≤ 5000)) ∧
    (∀ ref use nom band loss, item 5 [ref, use, nom, band, loss]
      (.heatConstants { tRef := ref, tUse := use, tNom := nom, band := band, loss := loss })
      (ref < use ∧ use < 8000 ∧ ref < nom ∧ nom ≤ 8000 ∧ 10 ≤ band ∧ band ≤ 500 ∧ loss ≤ 50)) ∧
    (∀ v : PerTank Nat, item 6 (allTanks.flatMap fun tank => double (v.get tank)) (.tankCapacities v)
      (∀ tank, 1 ≤ v.get tank ∧ v.get tank ≤ 2000000)) ∧
    (∀ v, item 7 [v] (.creditWindow v) (60 ≤ v ∧ v ≤ 1800)) ∧
    (∀ v, item 8 [v] (.gateLead v) (1 ≤ v ∧ v ≤ 16)) ∧
    (∀ v, item 9 [v] (.silenceTimeout v) (1000 ≤ v ∧ v ≤ 10000)) ∧
    (∀ compressor expander : List Train, compressor.length = 12 → expander.length = 12 →
      item 10 ((compressor ++ expander).map trainIndex) (.dutyRotations compressor expander)
        ((∀ t ∈ compressor, trainKind t = .compressor) ∧ ∀ t ∈ expander, trainKind t = .expander)) ∧
    (∀ words, (∃ w ∈ words, 6 ≤ w) → judged 10 words = none) ∧
    (∀ rows : List Descriptor, rows.length = 24 → (∀ d ∈ rows, d.spelled) →
      item 11 (rows.flatMap descriptorWords) (.envelopeTable 0 rows) (∀ d ∈ rows, d.KindFits ∧ d.InRange)) ∧
    (∀ (words : List Nat) (row : Nat), words.length = 192 → row < 24 → unlistedRow (words.drop (8 * row)) →
      judged 11 words = none) ∧
    (∀ b : PerTrain (Tank × Option Nat), (∀ t n, (b.get t).2 = some n → n < 24) →
      judged 12 (allTrains.map fun t => tankIndex (b.get t).1 * 256 + ((b.get t).2).getD 255) = some (.bindings b)) ∧
    (∀ words, (∃ w ∈ words, w < 65536 ∧ (3 ≤ w / 256 ∨ (24 ≤ w % 256 ∧ w % 256 ≠ 255))) → judged 12 words = none)

/-- The terms in which CONFIGURE judges a body of the right number of words: an item other than the Envelope Table is sound
as in the image, against the points and thresholds in force; a part of the Envelope Table is judged row by row, its Kinds
first. What is in use, and what equals the value in force. That a part's unlisted Kind passes the check of its Kinds with
neither optional word, and that the bindings in force are those of the Train Contexts, is the model's choice (log 19). -/
def Obligations.ConfigureJudgesReadsAndCompares : Prop :=
  (∀ (i : ItemId) (words : List Nat) (s : State), i ≠ .envelopeTable →
    kindsFit i words = true ∧
    ∀ item, (readConfigure i words = some item ∧ configureSound s item = true) ↔
      (judgeOccurrence s.cavern.characteristic (itemIndex i + 1, words) = some item ∧
        ∀ given, item = .characteristic given → ∃ lowest highest,
          given.head? = some lowest ∧ given.getLast? = some highest ∧
          lowest.2 ≤ s.cavern.thresholds.lowLimit ∧ s.cavern.thresholds.highLimit ≤ highest.2)) ∧
  (∀ (first : Nat) (rows : List (List Nat)), (∀ row ∈ rows, row.length = 8 ∧ ∀ w ∈ row, w < 65536) →
    let words := first :: rows.flatten
    (kindsFit .envelopeTable words = true ↔ ∀ row ∈ rows, ∀ head cold heat,
      row[0]? = some head → row[3]? = some cold → row[6]? = some heat →
      (cold ≠ 65535 ↔ head / 256 = 1) ∧ (heat ≠ 65535 ↔ head / 256 = 0)) ∧
    ((∃ row ∈ rows, unlistedRow row) → readConfigure .envelopeTable words = none)) ∧
  (∀ (first : Nat) (rows : List Descriptor) (s : State), (∀ d ∈ rows, d.spelled) →
    let words := first :: rows.flatMap descriptorWords
    readConfigure .envelopeTable words = some (.envelopeTable first rows) ∧
    (kindsFit .envelopeTable words = true ↔ ∀ d ∈ rows, d.KindFits) ∧
    (configureSound s (.envelopeTable first rows) = true ↔ ∀ d ∈ rows, d.KindFits ∧ d.InRange)) ∧
  (∀ (item : ConfigItem) (s : State),
    let working (t : Train) : Prop :=
      (s.train t).state = .starting ∨ (s.train t).state = .running ∨ (s.train t).state = .unloading
    let used (status : Status) : Prop := configureInUse s item = some status
    (∀ v, item = .tankCapacities v →
      ((∃ t, (s.tank (s.train t).boundTank).capacity ≠ v.get (s.train t).boundTank ∧ working t) → used .tankInUse) ∧
      ((∀ t, (s.tank (s.train t).boundTank).capacity = v.get (s.train t).boundTank ∨ ¬ working t) →
        configureInUse s item = none)) ∧
    (∀ b, item = .bindings b →
      ((∃ t, (s.train t).boundTank ≠ (b.get t).1 ∧ working t) → used .wrongState) ∧
      ((∀ t, (s.train t).boundTank = (b.get t).1 ∨ ¬ working t) → configureInUse s item = none)) ∧
    (item.itemId ≠ .tankCapacities → item.itemId ≠ .bindings → configureInUse s item = none)) ∧
  (∀ s : State,
    let same (item : ConfigItem) (equal : Prop) : Prop := inForce s item = true ↔ equal
    (∀ v, same (.characteristic v) (v = s.cavern.characteristic)) ∧
    (∀ v, same (.thresholds v) (v = s.cavern.thresholds)) ∧
    (∀ v, same (.rateLimit v) (v = s.loader.rateLimit)) ∧
    (∀ v, same (.plantRates v) (v = s.loader.rates)) ∧
    (∀ v, same (.heatConstants v) (v = s.loader.heat)) ∧
    (∀ v : PerTank Nat, same (.tankCapacities v) (∀ tank, v.get tank = (s.tank tank).capacity)) ∧
    (∀ v, same (.creditWindow v) (v = s.loader.creditWindow)) ∧
    (∀ v, same (.gateLead v) (v = s.clock.gateLead)) ∧
    (∀ v, same (.silenceTimeout v) (v = s.loader.silenceTimeout)) ∧
    (∀ compressor expander, same (.dutyRotations compressor expander)
      (compressor = s.dispatcher.compressorRotation.phases ∧ expander = s.dispatcher.expanderRotation.phases)) ∧
    (∀ first rows, same (.envelopeTable first rows)
      (∀ n d, rows[n]? = some d → ∃ row, s.tables.envelopes[first + n]? = some row ∧ row.descriptor = d)) ∧
    (∀ b : PerTrain (Tank × Option Nat), same (.bindings b)
      (∀ t, b.get t = ((s.train t).boundTank, (s.train t).selection.map Selection.selector))))

/-! ### Invariants of every step -/

/-- The four invariants hold of the state right after power-on. -/
def Obligations.TheInvariantsHoldAtReset : Prop :=
  QueueSound State.reset ∧ CavernSound State.reset ∧ TanksSound State.reset ∧ SetpointsSound State.reset

/-- Every step keeps the accounting of the Amendment Queue and the request ports. -/
def Obligations.EveryStepKeepsTheQueueSound : Prop :=
  ∀ s t : State, QueueSound s → step s = .next t → QueueSound t

/-- Every step keeps the Pressure and the Band in agreement with the Mass Inventory. -/
def Obligations.EveryStepKeepsTheCavernSound : Prop :=
  ∀ s t : State, CavernSound s → step s = .next t → CavernSound t

/-- Every step keeps the Layer Stacks in order and every Tank within its Capacity. -/
def Obligations.EveryStepKeepsTheTanksSound : Prop :=
  ∀ s t : State, TanksSound s → step s = .next t → TanksSound t

/-- Every step keeps the two kinds of train from holding Setpoints together, and every Setpoint within its envelope. -/
def Obligations.EveryStepKeepsTheSetpointsSound : Prop :=
  ∀ s t : State, SetpointsSound s → step s = .next t → SetpointsSound t
end

