-- ==== Sys2Proof/Laws/State.lean ====
section
/-!
SUPPORT. What each replacement of one part of the state leaves in every field, so that no later proof unfolds a record
update.
-/
namespace Sys2Proof.Machine

/-! ### One field at a time -/

@[simp] theorem State.setMp_mp (s : State) (v : PortLink) : (s.setMp v).mp = v := rfl
@[simp] theorem State.setMp_sp (s : State) (v : PortLink) : (s.setMp v).sp = s.sp := rfl
@[simp] theorem State.setMp_transaction (s : State) (v : PortLink) : (s.setMp v).transaction = s.transaction := rfl
@[simp] theorem State.setMp_sticky (s : State) (v : PortLink) : (s.setMp v).sticky = s.sticky := rfl
@[simp] theorem State.setMp_trainLinks (s : State) (v : PortLink) : (s.setMp v).trainLinks = s.trainLinks := rfl
@[simp] theorem State.setMp_clock (s : State) (v : PortLink) : (s.setMp v).clock = s.clock := rfl
@[simp] theorem State.setMp_store (s : State) (v : PortLink) : (s.setMp v).store = s.store := rfl
@[simp] theorem State.setMp_projector (s : State) (v : PortLink) : (s.setMp v).projector = s.projector := rfl
@[simp] theorem State.setMp_cavern (s : State) (v : PortLink) : (s.setMp v).cavern = s.cavern := rfl
@[simp] theorem State.setMp_tanks (s : State) (v : PortLink) : (s.setMp v).tanks = s.tanks := rfl
@[simp] theorem State.setMp_trains (s : State) (v : PortLink) : (s.setMp v).trains = s.trains := rfl
@[simp] theorem State.setMp_tables (s : State) (v : PortLink) : (s.setMp v).tables = s.tables := rfl
@[simp] theorem State.setMp_dispatcher (s : State) (v : PortLink) : (s.setMp v).dispatcher = s.dispatcher := rfl
@[simp] theorem State.setMp_loader (s : State) (v : PortLink) : (s.setMp v).loader = s.loader := rfl
@[simp] theorem State.setMp_raised (s : State) (v : PortLink) : (s.setMp v).raised = s.raised := rfl
@[simp] theorem State.setMp_arrivals (s : State) (v : PortLink) : (s.setMp v).arrivals = s.arrivals := rfl
@[simp] theorem State.setMp_pending (s : State) (v : PortLink) : (s.setMp v).pending = s.pending := rfl

@[simp] theorem State.setSp_mp (s : State) (v : PortLink) : (s.setSp v).mp = s.mp := rfl
@[simp] theorem State.setSp_sp (s : State) (v : PortLink) : (s.setSp v).sp = v := rfl
@[simp] theorem State.setSp_transaction (s : State) (v : PortLink) : (s.setSp v).transaction = s.transaction := rfl
@[simp] theorem State.setSp_sticky (s : State) (v : PortLink) : (s.setSp v).sticky = s.sticky := rfl
@[simp] theorem State.setSp_trainLinks (s : State) (v : PortLink) : (s.setSp v).trainLinks = s.trainLinks := rfl
@[simp] theorem State.setSp_clock (s : State) (v : PortLink) : (s.setSp v).clock = s.clock := rfl
@[simp] theorem State.setSp_store (s : State) (v : PortLink) : (s.setSp v).store = s.store := rfl
@[simp] theorem State.setSp_projector (s : State) (v : PortLink) : (s.setSp v).projector = s.projector := rfl
@[simp] theorem State.setSp_cavern (s : State) (v : PortLink) : (s.setSp v).cavern = s.cavern := rfl
@[simp] theorem State.setSp_tanks (s : State) (v : PortLink) : (s.setSp v).tanks = s.tanks := rfl
@[simp] theorem State.setSp_trains (s : State) (v : PortLink) : (s.setSp v).trains = s.trains := rfl
@[simp] theorem State.setSp_tables (s : State) (v : PortLink) : (s.setSp v).tables = s.tables := rfl
@[simp] theorem State.setSp_dispatcher (s : State) (v : PortLink) : (s.setSp v).dispatcher = s.dispatcher := rfl
@[simp] theorem State.setSp_loader (s : State) (v : PortLink) : (s.setSp v).loader = s.loader := rfl
@[simp] theorem State.setSp_raised (s : State) (v : PortLink) : (s.setSp v).raised = s.raised := rfl
@[simp] theorem State.setSp_arrivals (s : State) (v : PortLink) : (s.setSp v).arrivals = s.arrivals := rfl
@[simp] theorem State.setSp_pending (s : State) (v : PortLink) : (s.setSp v).pending = s.pending := rfl

@[simp] theorem State.setTransaction_mp (s : State) (v : Option Transaction) :
    (s.setTransaction v).mp = s.mp := rfl
@[simp] theorem State.setTransaction_sp (s : State) (v : Option Transaction) :
    (s.setTransaction v).sp = s.sp := rfl
@[simp] theorem State.setTransaction_transaction (s : State) (v : Option Transaction) :
    (s.setTransaction v).transaction = v := rfl
@[simp] theorem State.setTransaction_sticky (s : State) (v : Option Transaction) :
    (s.setTransaction v).sticky = s.sticky := rfl
@[simp] theorem State.setTransaction_trainLinks (s : State) (v : Option Transaction) :
    (s.setTransaction v).trainLinks = s.trainLinks := rfl
@[simp] theorem State.setTransaction_clock (s : State) (v : Option Transaction) :
    (s.setTransaction v).clock = s.clock := rfl
@[simp] theorem State.setTransaction_store (s : State) (v : Option Transaction) :
    (s.setTransaction v).store = s.store := rfl
@[simp] theorem State.setTransaction_projector (s : State) (v : Option Transaction) :
    (s.setTransaction v).projector = s.projector := rfl
@[simp] theorem State.setTransaction_cavern (s : State) (v : Option Transaction) :
    (s.setTransaction v).cavern = s.cavern := rfl
@[simp] theorem State.setTransaction_tanks (s : State) (v : Option Transaction) :
    (s.setTransaction v).tanks = s.tanks := rfl
@[simp] theorem State.setTransaction_trains (s : State) (v : Option Transaction) :
    (s.setTransaction v).trains = s.trains := rfl
@[simp] theorem State.setTransaction_tables (s : State) (v : Option Transaction) :
    (s.setTransaction v).tables = s.tables := rfl
@[simp] theorem State.setTransaction_dispatcher (s : State) (v : Option Transaction) :
    (s.setTransaction v).dispatcher = s.dispatcher := rfl
@[simp] theorem State.setTransaction_loader (s : State) (v : Option Transaction) :
    (s.setTransaction v).loader = s.loader := rfl
@[simp] theorem State.setTransaction_raised (s : State) (v : Option Transaction) :
    (s.setTransaction v).raised = s.raised := rfl
@[simp] theorem State.setTransaction_arrivals (s : State) (v : Option Transaction) :
    (s.setTransaction v).arrivals = s.arrivals := rfl
@[simp] theorem State.setTransaction_pending (s : State) (v : Option Transaction) :
    (s.setTransaction v).pending = s.pending := rfl

@[simp] theorem State.setSticky_mp (s : State) (v : BitVec 26) : (s.setSticky v).mp = s.mp := rfl
@[simp] theorem State.setSticky_sp (s : State) (v : BitVec 26) : (s.setSticky v).sp = s.sp := rfl
@[simp] theorem State.setSticky_transaction (s : State) (v : BitVec 26) :
    (s.setSticky v).transaction = s.transaction := rfl
@[simp] theorem State.setSticky_sticky (s : State) (v : BitVec 26) : (s.setSticky v).sticky = v := rfl
@[simp] theorem State.setSticky_trainLinks (s : State) (v : BitVec 26) :
    (s.setSticky v).trainLinks = s.trainLinks := rfl
@[simp] theorem State.setSticky_clock (s : State) (v : BitVec 26) : (s.setSticky v).clock = s.clock := rfl
@[simp] theorem State.setSticky_store (s : State) (v : BitVec 26) : (s.setSticky v).store = s.store := rfl
@[simp] theorem State.setSticky_projector (s : State) (v : BitVec 26) : (s.setSticky v).projector = s.projector := rfl
@[simp] theorem State.setSticky_cavern (s : State) (v : BitVec 26) : (s.setSticky v).cavern = s.cavern := rfl
@[simp] theorem State.setSticky_tanks (s : State) (v : BitVec 26) : (s.setSticky v).tanks = s.tanks := rfl
@[simp] theorem State.setSticky_trains (s : State) (v : BitVec 26) : (s.setSticky v).trains = s.trains := rfl
@[simp] theorem State.setSticky_tables (s : State) (v : BitVec 26) : (s.setSticky v).tables = s.tables := rfl
@[simp] theorem State.setSticky_dispatcher (s : State) (v : BitVec 26) :
    (s.setSticky v).dispatcher = s.dispatcher := rfl
@[simp] theorem State.setSticky_loader (s : State) (v : BitVec 26) : (s.setSticky v).loader = s.loader := rfl
@[simp] theorem State.setSticky_raised (s : State) (v : BitVec 26) : (s.setSticky v).raised = s.raised := rfl
@[simp] theorem State.setSticky_arrivals (s : State) (v : BitVec 26) : (s.setSticky v).arrivals = s.arrivals := rfl
@[simp] theorem State.setSticky_pending (s : State) (v : BitVec 26) : (s.setSticky v).pending = s.pending := rfl

@[simp] theorem State.setTrainLinks_mp (s : State) (v : PerTrain TrainLink) : (s.setTrainLinks v).mp = s.mp := rfl
@[simp] theorem State.setTrainLinks_sp (s : State) (v : PerTrain TrainLink) : (s.setTrainLinks v).sp = s.sp := rfl
@[simp] theorem State.setTrainLinks_transaction (s : State) (v : PerTrain TrainLink) :
    (s.setTrainLinks v).transaction = s.transaction := rfl
@[simp] theorem State.setTrainLinks_sticky (s : State) (v : PerTrain TrainLink) :
    (s.setTrainLinks v).sticky = s.sticky := rfl
@[simp] theorem State.setTrainLinks_trainLinks (s : State) (v : PerTrain TrainLink) :
    (s.setTrainLinks v).trainLinks = v := rfl
@[simp] theorem State.setTrainLinks_clock (s : State) (v : PerTrain TrainLink) :
    (s.setTrainLinks v).clock = s.clock := rfl
@[simp] theorem State.setTrainLinks_store (s : State) (v : PerTrain TrainLink) :
    (s.setTrainLinks v).store = s.store := rfl
@[simp] theorem State.setTrainLinks_projector (s : State) (v : PerTrain TrainLink) :
    (s.setTrainLinks v).projector = s.projector := rfl
@[simp] theorem State.setTrainLinks_cavern (s : State) (v : PerTrain TrainLink) :
    (s.setTrainLinks v).cavern = s.cavern := rfl
@[simp] theorem State.setTrainLinks_tanks (s : State) (v : PerTrain TrainLink) :
    (s.setTrainLinks v).tanks = s.tanks := rfl
@[simp] theorem State.setTrainLinks_trains (s : State) (v : PerTrain TrainLink) :
    (s.setTrainLinks v).trains = s.trains := rfl
@[simp] theorem State.setTrainLinks_tables (s : State) (v : PerTrain TrainLink) :
    (s.setTrainLinks v).tables = s.tables := rfl
@[simp] theorem State.setTrainLinks_dispatcher (s : State) (v : PerTrain TrainLink) :
    (s.setTrainLinks v).dispatcher = s.dispatcher := rfl
@[simp] theorem State.setTrainLinks_loader (s : State) (v : PerTrain TrainLink) :
    (s.setTrainLinks v).loader = s.loader := rfl
@[simp] theorem State.setTrainLinks_raised (s : State) (v : PerTrain TrainLink) :
    (s.setTrainLinks v).raised = s.raised := rfl
@[simp] theorem State.setTrainLinks_arrivals (s : State) (v : PerTrain TrainLink) :
    (s.setTrainLinks v).arrivals = s.arrivals := rfl
@[simp] theorem State.setTrainLinks_pending (s : State) (v : PerTrain TrainLink) :
    (s.setTrainLinks v).pending = s.pending := rfl

@[simp] theorem State.setClock_mp (s : State) (v : Clock) : (s.setClock v).mp = s.mp := rfl
@[simp] theorem State.setClock_sp (s : State) (v : Clock) : (s.setClock v).sp = s.sp := rfl
@[simp] theorem State.setClock_transaction (s : State) (v : Clock) : (s.setClock v).transaction = s.transaction := rfl
@[simp] theorem State.setClock_sticky (s : State) (v : Clock) : (s.setClock v).sticky = s.sticky := rfl
@[simp] theorem State.setClock_trainLinks (s : State) (v : Clock) : (s.setClock v).trainLinks = s.trainLinks := rfl
@[simp] theorem State.setClock_clock (s : State) (v : Clock) : (s.setClock v).clock = v := rfl
@[simp] theorem State.setClock_store (s : State) (v : Clock) : (s.setClock v).store = s.store := rfl
@[simp] theorem State.setClock_projector (s : State) (v : Clock) : (s.setClock v).projector = s.projector := rfl
@[simp] theorem State.setClock_cavern (s : State) (v : Clock) : (s.setClock v).cavern = s.cavern := rfl
@[simp] theorem State.setClock_tanks (s : State) (v : Clock) : (s.setClock v).tanks = s.tanks := rfl
@[simp] theorem State.setClock_trains (s : State) (v : Clock) : (s.setClock v).trains = s.trains := rfl
@[simp] theorem State.setClock_tables (s : State) (v : Clock) : (s.setClock v).tables = s.tables := rfl
@[simp] theorem State.setClock_dispatcher (s : State) (v : Clock) : (s.setClock v).dispatcher = s.dispatcher := rfl
@[simp] theorem State.setClock_loader (s : State) (v : Clock) : (s.setClock v).loader = s.loader := rfl
@[simp] theorem State.setClock_raised (s : State) (v : Clock) : (s.setClock v).raised = s.raised := rfl
@[simp] theorem State.setClock_arrivals (s : State) (v : Clock) : (s.setClock v).arrivals = s.arrivals := rfl
@[simp] theorem State.setClock_pending (s : State) (v : Clock) : (s.setClock v).pending = s.pending := rfl

@[simp] theorem State.setStore_mp (s : State) (v : Store) : (s.setStore v).mp = s.mp := rfl
@[simp] theorem State.setStore_sp (s : State) (v : Store) : (s.setStore v).sp = s.sp := rfl
@[simp] theorem State.setStore_transaction (s : State) (v : Store) : (s.setStore v).transaction = s.transaction := rfl
@[simp] theorem State.setStore_sticky (s : State) (v : Store) : (s.setStore v).sticky = s.sticky := rfl
@[simp] theorem State.setStore_trainLinks (s : State) (v : Store) : (s.setStore v).trainLinks = s.trainLinks := rfl
@[simp] theorem State.setStore_clock (s : State) (v : Store) : (s.setStore v).clock = s.clock := rfl
@[simp] theorem State.setStore_store (s : State) (v : Store) : (s.setStore v).store = v := rfl
@[simp] theorem State.setStore_projector (s : State) (v : Store) : (s.setStore v).projector = s.projector := rfl
@[simp] theorem State.setStore_cavern (s : State) (v : Store) : (s.setStore v).cavern = s.cavern := rfl
@[simp] theorem State.setStore_tanks (s : State) (v : Store) : (s.setStore v).tanks = s.tanks := rfl
@[simp] theorem State.setStore_trains (s : State) (v : Store) : (s.setStore v).trains = s.trains := rfl
@[simp] theorem State.setStore_tables (s : State) (v : Store) : (s.setStore v).tables = s.tables := rfl
@[simp] theorem State.setStore_dispatcher (s : State) (v : Store) : (s.setStore v).dispatcher = s.dispatcher := rfl
@[simp] theorem State.setStore_loader (s : State) (v : Store) : (s.setStore v).loader = s.loader := rfl
@[simp] theorem State.setStore_raised (s : State) (v : Store) : (s.setStore v).raised = s.raised := rfl
@[simp] theorem State.setStore_arrivals (s : State) (v : Store) : (s.setStore v).arrivals = s.arrivals := rfl
@[simp] theorem State.setStore_pending (s : State) (v : Store) : (s.setStore v).pending = s.pending := rfl

@[simp] theorem State.setProjector_mp (s : State) (v : Projector) : (s.setProjector v).mp = s.mp := rfl
@[simp] theorem State.setProjector_sp (s : State) (v : Projector) : (s.setProjector v).sp = s.sp := rfl
@[simp] theorem State.setProjector_transaction (s : State) (v : Projector) :
    (s.setProjector v).transaction = s.transaction := rfl
@[simp] theorem State.setProjector_sticky (s : State) (v : Projector) : (s.setProjector v).sticky = s.sticky := rfl
@[simp] theorem State.setProjector_trainLinks (s : State) (v : Projector) :
    (s.setProjector v).trainLinks = s.trainLinks := rfl
@[simp] theorem State.setProjector_clock (s : State) (v : Projector) : (s.setProjector v).clock = s.clock := rfl
@[simp] theorem State.setProjector_store (s : State) (v : Projector) : (s.setProjector v).store = s.store := rfl
@[simp] theorem State.setProjector_projector (s : State) (v : Projector) : (s.setProjector v).projector = v := rfl
@[simp] theorem State.setProjector_cavern (s : State) (v : Projector) : (s.setProjector v).cavern = s.cavern := rfl
@[simp] theorem State.setProjector_tanks (s : State) (v : Projector) : (s.setProjector v).tanks = s.tanks := rfl
@[simp] theorem State.setProjector_trains (s : State) (v : Projector) : (s.setProjector v).trains = s.trains := rfl
@[simp] theorem State.setProjector_tables (s : State) (v : Projector) : (s.setProjector v).tables = s.tables := rfl
@[simp] theorem State.setProjector_dispatcher (s : State) (v : Projector) :
    (s.setProjector v).dispatcher = s.dispatcher := rfl
@[simp] theorem State.setProjector_loader (s : State) (v : Projector) : (s.setProjector v).loader = s.loader := rfl
@[simp] theorem State.setProjector_raised (s : State) (v : Projector) : (s.setProjector v).raised = s.raised := rfl
@[simp] theorem State.setProjector_arrivals (s : State) (v : Projector) :
    (s.setProjector v).arrivals = s.arrivals := rfl
@[simp] theorem State.setProjector_pending (s : State) (v : Projector) : (s.setProjector v).pending = s.pending := rfl

@[simp] theorem State.setCavern_mp (s : State) (v : Cavern) : (s.setCavern v).mp = s.mp := rfl
@[simp] theorem State.setCavern_sp (s : State) (v : Cavern) : (s.setCavern v).sp = s.sp := rfl
@[simp] theorem State.setCavern_transaction (s : State) (v : Cavern) :
    (s.setCavern v).transaction = s.transaction := rfl
@[simp] theorem State.setCavern_sticky (s : State) (v : Cavern) : (s.setCavern v).sticky = s.sticky := rfl
@[simp] theorem State.setCavern_trainLinks (s : State) (v : Cavern) : (s.setCavern v).trainLinks = s.trainLinks := rfl
@[simp] theorem State.setCavern_clock (s : State) (v : Cavern) : (s.setCavern v).clock = s.clock := rfl
@[simp] theorem State.setCavern_store (s : State) (v : Cavern) : (s.setCavern v).store = s.store := rfl
@[simp] theorem State.setCavern_projector (s : State) (v : Cavern) : (s.setCavern v).projector = s.projector := rfl
@[simp] theorem State.setCavern_cavern (s : State) (v : Cavern) : (s.setCavern v).cavern = v := rfl
@[simp] theorem State.setCavern_tanks (s : State) (v : Cavern) : (s.setCavern v).tanks = s.tanks := rfl
@[simp] theorem State.setCavern_trains (s : State) (v : Cavern) : (s.setCavern v).trains = s.trains := rfl
@[simp] theorem State.setCavern_tables (s : State) (v : Cavern) : (s.setCavern v).tables = s.tables := rfl
@[simp] theorem State.setCavern_dispatcher (s : State) (v : Cavern) : (s.setCavern v).dispatcher = s.dispatcher := rfl
@[simp] theorem State.setCavern_loader (s : State) (v : Cavern) : (s.setCavern v).loader = s.loader := rfl
@[simp] theorem State.setCavern_raised (s : State) (v : Cavern) : (s.setCavern v).raised = s.raised := rfl
@[simp] theorem State.setCavern_arrivals (s : State) (v : Cavern) : (s.setCavern v).arrivals = s.arrivals := rfl
@[simp] theorem State.setCavern_pending (s : State) (v : Cavern) : (s.setCavern v).pending = s.pending := rfl

@[simp] theorem State.setTanks_mp (s : State) (v : PerTank TankState) : (s.setTanks v).mp = s.mp := rfl
@[simp] theorem State.setTanks_sp (s : State) (v : PerTank TankState) : (s.setTanks v).sp = s.sp := rfl
@[simp] theorem State.setTanks_transaction (s : State) (v : PerTank TankState) :
    (s.setTanks v).transaction = s.transaction := rfl
@[simp] theorem State.setTanks_sticky (s : State) (v : PerTank TankState) : (s.setTanks v).sticky = s.sticky := rfl
@[simp] theorem State.setTanks_trainLinks (s : State) (v : PerTank TankState) :
    (s.setTanks v).trainLinks = s.trainLinks := rfl
@[simp] theorem State.setTanks_clock (s : State) (v : PerTank TankState) : (s.setTanks v).clock = s.clock := rfl
@[simp] theorem State.setTanks_store (s : State) (v : PerTank TankState) : (s.setTanks v).store = s.store := rfl
@[simp] theorem State.setTanks_projector (s : State) (v : PerTank TankState) :
    (s.setTanks v).projector = s.projector := rfl
@[simp] theorem State.setTanks_cavern (s : State) (v : PerTank TankState) : (s.setTanks v).cavern = s.cavern := rfl
@[simp] theorem State.setTanks_tanks (s : State) (v : PerTank TankState) : (s.setTanks v).tanks = v := rfl
@[simp] theorem State.setTanks_trains (s : State) (v : PerTank TankState) : (s.setTanks v).trains = s.trains := rfl
@[simp] theorem State.setTanks_tables (s : State) (v : PerTank TankState) : (s.setTanks v).tables = s.tables := rfl
@[simp] theorem State.setTanks_dispatcher (s : State) (v : PerTank TankState) :
    (s.setTanks v).dispatcher = s.dispatcher := rfl
@[simp] theorem State.setTanks_loader (s : State) (v : PerTank TankState) : (s.setTanks v).loader = s.loader := rfl
@[simp] theorem State.setTanks_raised (s : State) (v : PerTank TankState) : (s.setTanks v).raised = s.raised := rfl
@[simp] theorem State.setTanks_arrivals (s : State) (v : PerTank TankState) :
    (s.setTanks v).arrivals = s.arrivals := rfl
@[simp] theorem State.setTanks_pending (s : State) (v : PerTank TankState) : (s.setTanks v).pending = s.pending := rfl

@[simp] theorem State.setTrains_mp (s : State) (v : PerTrain TrainContext) : (s.setTrains v).mp = s.mp := rfl
@[simp] theorem State.setTrains_sp (s : State) (v : PerTrain TrainContext) : (s.setTrains v).sp = s.sp := rfl
@[simp] theorem State.setTrains_transaction (s : State) (v : PerTrain TrainContext) :
    (s.setTrains v).transaction = s.transaction := rfl
@[simp] theorem State.setTrains_sticky (s : State) (v : PerTrain TrainContext) :
    (s.setTrains v).sticky = s.sticky := rfl
@[simp] theorem State.setTrains_trainLinks (s : State) (v : PerTrain TrainContext) :
    (s.setTrains v).trainLinks = s.trainLinks := rfl
@[simp] theorem State.setTrains_clock (s : State) (v : PerTrain TrainContext) : (s.setTrains v).clock = s.clock := rfl
@[simp] theorem State.setTrains_store (s : State) (v : PerTrain TrainContext) : (s.setTrains v).store = s.store := rfl
@[simp] theorem State.setTrains_projector (s : State) (v : PerTrain TrainContext) :
    (s.setTrains v).projector = s.projector := rfl
@[simp] theorem State.setTrains_cavern (s : State) (v : PerTrain TrainContext) :
    (s.setTrains v).cavern = s.cavern := rfl
@[simp] theorem State.setTrains_tanks (s : State) (v : PerTrain TrainContext) : (s.setTrains v).tanks = s.tanks := rfl
@[simp] theorem State.setTrains_trains (s : State) (v : PerTrain TrainContext) : (s.setTrains v).trains = v := rfl
@[simp] theorem State.setTrains_tables (s : State) (v : PerTrain TrainContext) :
    (s.setTrains v).tables = s.tables := rfl
@[simp] theorem State.setTrains_dispatcher (s : State) (v : PerTrain TrainContext) :
    (s.setTrains v).dispatcher = s.dispatcher := rfl
@[simp] theorem State.setTrains_loader (s : State) (v : PerTrain TrainContext) :
    (s.setTrains v).loader = s.loader := rfl
@[simp] theorem State.setTrains_raised (s : State) (v : PerTrain TrainContext) :
    (s.setTrains v).raised = s.raised := rfl
@[simp] theorem State.setTrains_arrivals (s : State) (v : PerTrain TrainContext) :
    (s.setTrains v).arrivals = s.arrivals := rfl
@[simp] theorem State.setTrains_pending (s : State) (v : PerTrain TrainContext) :
    (s.setTrains v).pending = s.pending := rfl

@[simp] theorem State.setTables_mp (s : State) (v : TrainTables) : (s.setTables v).mp = s.mp := rfl
@[simp] theorem State.setTables_sp (s : State) (v : TrainTables) : (s.setTables v).sp = s.sp := rfl
@[simp] theorem State.setTables_transaction (s : State) (v : TrainTables) :
    (s.setTables v).transaction = s.transaction := rfl
@[simp] theorem State.setTables_sticky (s : State) (v : TrainTables) : (s.setTables v).sticky = s.sticky := rfl
@[simp] theorem State.setTables_trainLinks (s : State) (v : TrainTables) :
    (s.setTables v).trainLinks = s.trainLinks := rfl
@[simp] theorem State.setTables_clock (s : State) (v : TrainTables) : (s.setTables v).clock = s.clock := rfl
@[simp] theorem State.setTables_store (s : State) (v : TrainTables) : (s.setTables v).store = s.store := rfl
@[simp] theorem State.setTables_projector (s : State) (v : TrainTables) : (s.setTables v).projector = s.projector := rfl
@[simp] theorem State.setTables_cavern (s : State) (v : TrainTables) : (s.setTables v).cavern = s.cavern := rfl
@[simp] theorem State.setTables_tanks (s : State) (v : TrainTables) : (s.setTables v).tanks = s.tanks := rfl
@[simp] theorem State.setTables_trains (s : State) (v : TrainTables) : (s.setTables v).trains = s.trains := rfl
@[simp] theorem State.setTables_tables (s : State) (v : TrainTables) : (s.setTables v).tables = v := rfl
@[simp] theorem State.setTables_dispatcher (s : State) (v : TrainTables) :
    (s.setTables v).dispatcher = s.dispatcher := rfl
@[simp] theorem State.setTables_loader (s : State) (v : TrainTables) : (s.setTables v).loader = s.loader := rfl
@[simp] theorem State.setTables_raised (s : State) (v : TrainTables) : (s.setTables v).raised = s.raised := rfl
@[simp] theorem State.setTables_arrivals (s : State) (v : TrainTables) : (s.setTables v).arrivals = s.arrivals := rfl
@[simp] theorem State.setTables_pending (s : State) (v : TrainTables) : (s.setTables v).pending = s.pending := rfl

@[simp] theorem State.setDispatcher_mp (s : State) (v : Dispatcher) : (s.setDispatcher v).mp = s.mp := rfl
@[simp] theorem State.setDispatcher_sp (s : State) (v : Dispatcher) : (s.setDispatcher v).sp = s.sp := rfl
@[simp] theorem State.setDispatcher_transaction (s : State) (v : Dispatcher) :
    (s.setDispatcher v).transaction = s.transaction := rfl
@[simp] theorem State.setDispatcher_sticky (s : State) (v : Dispatcher) : (s.setDispatcher v).sticky = s.sticky := rfl
@[simp] theorem State.setDispatcher_trainLinks (s : State) (v : Dispatcher) :
    (s.setDispatcher v).trainLinks = s.trainLinks := rfl
@[simp] theorem State.setDispatcher_clock (s : State) (v : Dispatcher) : (s.setDispatcher v).clock = s.clock := rfl
@[simp] theorem State.setDispatcher_store (s : State) (v : Dispatcher) : (s.setDispatcher v).store = s.store := rfl
@[simp] theorem State.setDispatcher_projector (s : State) (v : Dispatcher) :
    (s.setDispatcher v).projector = s.projector := rfl
@[simp] theorem State.setDispatcher_cavern (s : State) (v : Dispatcher) : (s.setDispatcher v).cavern = s.cavern := rfl
@[simp] theorem State.setDispatcher_tanks (s : State) (v : Dispatcher) : (s.setDispatcher v).tanks = s.tanks := rfl
@[simp] theorem State.setDispatcher_trains (s : State) (v : Dispatcher) : (s.setDispatcher v).trains = s.trains := rfl
@[simp] theorem State.setDispatcher_tables (s : State) (v : Dispatcher) : (s.setDispatcher v).tables = s.tables := rfl
@[simp] theorem State.setDispatcher_dispatcher (s : State) (v : Dispatcher) : (s.setDispatcher v).dispatcher = v := rfl
@[simp] theorem State.setDispatcher_loader (s : State) (v : Dispatcher) : (s.setDispatcher v).loader = s.loader := rfl
@[simp] theorem State.setDispatcher_raised (s : State) (v : Dispatcher) : (s.setDispatcher v).raised = s.raised := rfl
@[simp] theorem State.setDispatcher_arrivals (s : State) (v : Dispatcher) :
    (s.setDispatcher v).arrivals = s.arrivals := rfl
@[simp] theorem State.setDispatcher_pending (s : State) (v : Dispatcher) :
    (s.setDispatcher v).pending = s.pending := rfl

@[simp] theorem State.setLoader_mp (s : State) (v : Loader) : (s.setLoader v).mp = s.mp := rfl
@[simp] theorem State.setLoader_sp (s : State) (v : Loader) : (s.setLoader v).sp = s.sp := rfl
@[simp] theorem State.setLoader_transaction (s : State) (v : Loader) :
    (s.setLoader v).transaction = s.transaction := rfl
@[simp] theorem State.setLoader_sticky (s : State) (v : Loader) : (s.setLoader v).sticky = s.sticky := rfl
@[simp] theorem State.setLoader_trainLinks (s : State) (v : Loader) : (s.setLoader v).trainLinks = s.trainLinks := rfl
@[simp] theorem State.setLoader_clock (s : State) (v : Loader) : (s.setLoader v).clock = s.clock := rfl
@[simp] theorem State.setLoader_store (s : State) (v : Loader) : (s.setLoader v).store = s.store := rfl
@[simp] theorem State.setLoader_projector (s : State) (v : Loader) : (s.setLoader v).projector = s.projector := rfl
@[simp] theorem State.setLoader_cavern (s : State) (v : Loader) : (s.setLoader v).cavern = s.cavern := rfl
@[simp] theorem State.setLoader_tanks (s : State) (v : Loader) : (s.setLoader v).tanks = s.tanks := rfl
@[simp] theorem State.setLoader_trains (s : State) (v : Loader) : (s.setLoader v).trains = s.trains := rfl
@[simp] theorem State.setLoader_tables (s : State) (v : Loader) : (s.setLoader v).tables = s.tables := rfl
@[simp] theorem State.setLoader_dispatcher (s : State) (v : Loader) : (s.setLoader v).dispatcher = s.dispatcher := rfl
@[simp] theorem State.setLoader_loader (s : State) (v : Loader) : (s.setLoader v).loader = v := rfl
@[simp] theorem State.setLoader_raised (s : State) (v : Loader) : (s.setLoader v).raised = s.raised := rfl
@[simp] theorem State.setLoader_arrivals (s : State) (v : Loader) : (s.setLoader v).arrivals = s.arrivals := rfl
@[simp] theorem State.setLoader_pending (s : State) (v : Loader) : (s.setLoader v).pending = s.pending := rfl

@[simp] theorem State.setRaised_mp (s : State) (v : List Raised) : (s.setRaised v).mp = s.mp := rfl
@[simp] theorem State.setRaised_sp (s : State) (v : List Raised) : (s.setRaised v).sp = s.sp := rfl
@[simp] theorem State.setRaised_transaction (s : State) (v : List Raised) :
    (s.setRaised v).transaction = s.transaction := rfl
@[simp] theorem State.setRaised_sticky (s : State) (v : List Raised) : (s.setRaised v).sticky = s.sticky := rfl
@[simp] theorem State.setRaised_trainLinks (s : State) (v : List Raised) :
    (s.setRaised v).trainLinks = s.trainLinks := rfl
@[simp] theorem State.setRaised_clock (s : State) (v : List Raised) : (s.setRaised v).clock = s.clock := rfl
@[simp] theorem State.setRaised_store (s : State) (v : List Raised) : (s.setRaised v).store = s.store := rfl
@[simp] theorem State.setRaised_projector (s : State) (v : List Raised) : (s.setRaised v).projector = s.projector := rfl
@[simp] theorem State.setRaised_cavern (s : State) (v : List Raised) : (s.setRaised v).cavern = s.cavern := rfl
@[simp] theorem State.setRaised_tanks (s : State) (v : List Raised) : (s.setRaised v).tanks = s.tanks := rfl
@[simp] theorem State.setRaised_trains (s : State) (v : List Raised) : (s.setRaised v).trains = s.trains := rfl
@[simp] theorem State.setRaised_tables (s : State) (v : List Raised) : (s.setRaised v).tables = s.tables := rfl
@[simp] theorem State.setRaised_dispatcher (s : State) (v : List Raised) :
    (s.setRaised v).dispatcher = s.dispatcher := rfl
@[simp] theorem State.setRaised_loader (s : State) (v : List Raised) : (s.setRaised v).loader = s.loader := rfl
@[simp] theorem State.setRaised_raised (s : State) (v : List Raised) : (s.setRaised v).raised = v := rfl
@[simp] theorem State.setRaised_arrivals (s : State) (v : List Raised) : (s.setRaised v).arrivals = s.arrivals := rfl
@[simp] theorem State.setRaised_pending (s : State) (v : List Raised) : (s.setRaised v).pending = s.pending := rfl

@[simp] theorem State.setArrivals_mp (s : State) (v : List Arrival) : (s.setArrivals v).mp = s.mp := rfl
@[simp] theorem State.setArrivals_sp (s : State) (v : List Arrival) : (s.setArrivals v).sp = s.sp := rfl
@[simp] theorem State.setArrivals_transaction (s : State) (v : List Arrival) :
    (s.setArrivals v).transaction = s.transaction := rfl
@[simp] theorem State.setArrivals_sticky (s : State) (v : List Arrival) : (s.setArrivals v).sticky = s.sticky := rfl
@[simp] theorem State.setArrivals_trainLinks (s : State) (v : List Arrival) :
    (s.setArrivals v).trainLinks = s.trainLinks := rfl
@[simp] theorem State.setArrivals_clock (s : State) (v : List Arrival) : (s.setArrivals v).clock = s.clock := rfl
@[simp] theorem State.setArrivals_store (s : State) (v : List Arrival) : (s.setArrivals v).store = s.store := rfl
@[simp] theorem State.setArrivals_projector (s : State) (v : List Arrival) :
    (s.setArrivals v).projector = s.projector := rfl
@[simp] theorem State.setArrivals_cavern (s : State) (v : List Arrival) : (s.setArrivals v).cavern = s.cavern := rfl
@[simp] theorem State.setArrivals_tanks (s : State) (v : List Arrival) : (s.setArrivals v).tanks = s.tanks := rfl
@[simp] theorem State.setArrivals_trains (s : State) (v : List Arrival) : (s.setArrivals v).trains = s.trains := rfl
@[simp] theorem State.setArrivals_tables (s : State) (v : List Arrival) : (s.setArrivals v).tables = s.tables := rfl
@[simp] theorem State.setArrivals_dispatcher (s : State) (v : List Arrival) :
    (s.setArrivals v).dispatcher = s.dispatcher := rfl
@[simp] theorem State.setArrivals_loader (s : State) (v : List Arrival) : (s.setArrivals v).loader = s.loader := rfl
@[simp] theorem State.setArrivals_raised (s : State) (v : List Arrival) : (s.setArrivals v).raised = s.raised := rfl
@[simp] theorem State.setArrivals_arrivals (s : State) (v : List Arrival) : (s.setArrivals v).arrivals = v := rfl
@[simp] theorem State.setArrivals_pending (s : State) (v : List Arrival) : (s.setArrivals v).pending = s.pending := rfl

@[simp] theorem State.setPending_mp (s : State) (v : List Instr) : (s.setPending v).mp = s.mp := rfl
@[simp] theorem State.setPending_sp (s : State) (v : List Instr) : (s.setPending v).sp = s.sp := rfl
@[simp] theorem State.setPending_transaction (s : State) (v : List Instr) :
    (s.setPending v).transaction = s.transaction := rfl
@[simp] theorem State.setPending_sticky (s : State) (v : List Instr) : (s.setPending v).sticky = s.sticky := rfl
@[simp] theorem State.setPending_trainLinks (s : State) (v : List Instr) :
    (s.setPending v).trainLinks = s.trainLinks := rfl
@[simp] theorem State.setPending_clock (s : State) (v : List Instr) : (s.setPending v).clock = s.clock := rfl
@[simp] theorem State.setPending_store (s : State) (v : List Instr) : (s.setPending v).store = s.store := rfl
@[simp] theorem State.setPending_projector (s : State) (v : List Instr) :
    (s.setPending v).projector = s.projector := rfl
@[simp] theorem State.setPending_cavern (s : State) (v : List Instr) : (s.setPending v).cavern = s.cavern := rfl
@[simp] theorem State.setPending_tanks (s : State) (v : List Instr) : (s.setPending v).tanks = s.tanks := rfl
@[simp] theorem State.setPending_trains (s : State) (v : List Instr) : (s.setPending v).trains = s.trains := rfl
@[simp] theorem State.setPending_tables (s : State) (v : List Instr) : (s.setPending v).tables = s.tables := rfl
@[simp] theorem State.setPending_dispatcher (s : State) (v : List Instr) :
    (s.setPending v).dispatcher = s.dispatcher := rfl
@[simp] theorem State.setPending_loader (s : State) (v : List Instr) : (s.setPending v).loader = s.loader := rfl
@[simp] theorem State.setPending_raised (s : State) (v : List Instr) : (s.setPending v).raised = s.raised := rfl
@[simp] theorem State.setPending_arrivals (s : State) (v : List Instr) : (s.setPending v).arrivals = s.arrivals := rfl
@[simp] theorem State.setPending_pending (s : State) (v : List Instr) : (s.setPending v).pending = v := rfl

/-! ### Trains, Tanks and links -/

@[simp] theorem State.setTrain_mp (s : State) (t : Train) (v : TrainContext) : (s.setTrain t v).mp = s.mp := rfl
@[simp] theorem State.setTrain_sp (s : State) (t : Train) (v : TrainContext) : (s.setTrain t v).sp = s.sp := rfl
@[simp] theorem State.setTrain_transaction (s : State) (t : Train) (v : TrainContext) :
    (s.setTrain t v).transaction = s.transaction := rfl
@[simp] theorem State.setTrain_sticky (s : State) (t : Train) (v : TrainContext) :
    (s.setTrain t v).sticky = s.sticky := rfl
@[simp] theorem State.setTrain_trainLinks (s : State) (t : Train) (v : TrainContext) :
    (s.setTrain t v).trainLinks = s.trainLinks := rfl
@[simp] theorem State.setTrain_clock (s : State) (t : Train) (v : TrainContext) :
    (s.setTrain t v).clock = s.clock := rfl
@[simp] theorem State.setTrain_store (s : State) (t : Train) (v : TrainContext) :
    (s.setTrain t v).store = s.store := rfl
@[simp] theorem State.setTrain_projector (s : State) (t : Train) (v : TrainContext) :
    (s.setTrain t v).projector = s.projector := rfl
@[simp] theorem State.setTrain_cavern (s : State) (t : Train) (v : TrainContext) :
    (s.setTrain t v).cavern = s.cavern := rfl
@[simp] theorem State.setTrain_tanks (s : State) (t : Train) (v : TrainContext) :
    (s.setTrain t v).tanks = s.tanks := rfl
@[simp] theorem State.setTrain_tables (s : State) (t : Train) (v : TrainContext) :
    (s.setTrain t v).tables = s.tables := rfl
@[simp] theorem State.setTrain_dispatcher (s : State) (t : Train) (v : TrainContext) :
    (s.setTrain t v).dispatcher = s.dispatcher := rfl
@[simp] theorem State.setTrain_loader (s : State) (t : Train) (v : TrainContext) :
    (s.setTrain t v).loader = s.loader := rfl
@[simp] theorem State.setTrain_raised (s : State) (t : Train) (v : TrainContext) :
    (s.setTrain t v).raised = s.raised := rfl
@[simp] theorem State.setTrain_arrivals (s : State) (t : Train) (v : TrainContext) :
    (s.setTrain t v).arrivals = s.arrivals := rfl
@[simp] theorem State.setTrain_pending (s : State) (t : Train) (v : TrainContext) :
    (s.setTrain t v).pending = s.pending := rfl
@[simp] theorem State.setTrain_trains (s : State) (t : Train) (v : TrainContext) :
    (s.setTrain t v).trains = s.trains.set t v := rfl

@[simp] theorem State.setTank_mp (s : State) (t : Tank) (v : TankState) : (s.setTank t v).mp = s.mp := rfl
@[simp] theorem State.setTank_sp (s : State) (t : Tank) (v : TankState) : (s.setTank t v).sp = s.sp := rfl
@[simp] theorem State.setTank_transaction (s : State) (t : Tank) (v : TankState) :
    (s.setTank t v).transaction = s.transaction := rfl
@[simp] theorem State.setTank_sticky (s : State) (t : Tank) (v : TankState) : (s.setTank t v).sticky = s.sticky := rfl
@[simp] theorem State.setTank_trainLinks (s : State) (t : Tank) (v : TankState) :
    (s.setTank t v).trainLinks = s.trainLinks := rfl
@[simp] theorem State.setTank_clock (s : State) (t : Tank) (v : TankState) : (s.setTank t v).clock = s.clock := rfl
@[simp] theorem State.setTank_store (s : State) (t : Tank) (v : TankState) : (s.setTank t v).store = s.store := rfl
@[simp] theorem State.setTank_projector (s : State) (t : Tank) (v : TankState) :
    (s.setTank t v).projector = s.projector := rfl
@[simp] theorem State.setTank_cavern (s : State) (t : Tank) (v : TankState) : (s.setTank t v).cavern = s.cavern := rfl
@[simp] theorem State.setTank_trains (s : State) (t : Tank) (v : TankState) : (s.setTank t v).trains = s.trains := rfl
@[simp] theorem State.setTank_tables (s : State) (t : Tank) (v : TankState) : (s.setTank t v).tables = s.tables := rfl
@[simp] theorem State.setTank_dispatcher (s : State) (t : Tank) (v : TankState) :
    (s.setTank t v).dispatcher = s.dispatcher := rfl
@[simp] theorem State.setTank_loader (s : State) (t : Tank) (v : TankState) : (s.setTank t v).loader = s.loader := rfl
@[simp] theorem State.setTank_raised (s : State) (t : Tank) (v : TankState) : (s.setTank t v).raised = s.raised := rfl
@[simp] theorem State.setTank_arrivals (s : State) (t : Tank) (v : TankState) :
    (s.setTank t v).arrivals = s.arrivals := rfl
@[simp] theorem State.setTank_pending (s : State) (t : Tank) (v : TankState) :
    (s.setTank t v).pending = s.pending := rfl
@[simp] theorem State.setTank_tanks (s : State) (t : Tank) (v : TankState) :
    (s.setTank t v).tanks = s.tanks.set t v := rfl

@[simp] theorem State.setLink_transaction (s : State) (p : Port) (v : PortLink) :
    (s.setLink p v).transaction = s.transaction := by cases p <;> rfl
@[simp] theorem State.setLink_sticky (s : State) (p : Port) (v : PortLink) :
    (s.setLink p v).sticky = s.sticky := by cases p <;> rfl
@[simp] theorem State.setLink_trainLinks (s : State) (p : Port) (v : PortLink) :
    (s.setLink p v).trainLinks = s.trainLinks := by cases p <;> rfl
@[simp] theorem State.setLink_clock (s : State) (p : Port) (v : PortLink) :
    (s.setLink p v).clock = s.clock := by cases p <;> rfl
@[simp] theorem State.setLink_store (s : State) (p : Port) (v : PortLink) :
    (s.setLink p v).store = s.store := by cases p <;> rfl
@[simp] theorem State.setLink_projector (s : State) (p : Port) (v : PortLink) :
    (s.setLink p v).projector = s.projector := by cases p <;> rfl
@[simp] theorem State.setLink_cavern (s : State) (p : Port) (v : PortLink) :
    (s.setLink p v).cavern = s.cavern := by cases p <;> rfl
@[simp] theorem State.setLink_tanks (s : State) (p : Port) (v : PortLink) :
    (s.setLink p v).tanks = s.tanks := by cases p <;> rfl
@[simp] theorem State.setLink_trains (s : State) (p : Port) (v : PortLink) :
    (s.setLink p v).trains = s.trains := by cases p <;> rfl
@[simp] theorem State.setLink_tables (s : State) (p : Port) (v : PortLink) :
    (s.setLink p v).tables = s.tables := by cases p <;> rfl
@[simp] theorem State.setLink_dispatcher (s : State) (p : Port) (v : PortLink) :
    (s.setLink p v).dispatcher = s.dispatcher := by cases p <;> rfl
@[simp] theorem State.setLink_loader (s : State) (p : Port) (v : PortLink) :
    (s.setLink p v).loader = s.loader := by cases p <;> rfl
@[simp] theorem State.setLink_raised (s : State) (p : Port) (v : PortLink) :
    (s.setLink p v).raised = s.raised := by cases p <;> rfl
@[simp] theorem State.setLink_arrivals (s : State) (p : Port) (v : PortLink) :
    (s.setLink p v).arrivals = s.arrivals := by cases p <;> rfl
@[simp] theorem State.setLink_pending (s : State) (p : Port) (v : PortLink) :
    (s.setLink p v).pending = s.pending := by cases p <;> rfl

@[simp] theorem State.setLink_mp_mp (s : State) (v : PortLink) : (s.setLink .mp v).mp = v := rfl
@[simp] theorem State.setLink_mp_sp (s : State) (v : PortLink) : (s.setLink .mp v).sp = s.sp := rfl
@[simp] theorem State.setLink_sp_sp (s : State) (v : PortLink) : (s.setLink .sp v).sp = v := rfl
@[simp] theorem State.setLink_sp_mp (s : State) (v : PortLink) : (s.setLink .sp v).mp = s.mp := rfl
@[simp] theorem State.link_setLink (s : State) (p : Port) (v : PortLink) : (s.setLink p v).link p = v := by
  cases p <;> rfl

/-- Replacing one port's link leaves the other port's. -/
theorem State.link_setLink_other (s : State) (p q : Port) (v : PortLink) (h : q ≠ p) :
    (s.setLink p v).link q = s.link q := by
  cases p <;> cases q <;> first | rfl | exact absurd rfl h

@[simp] theorem PerTrain.get_set {α : Type} (p : PerTrain α) (t : Train) (a : α) : (p.set t a).get t = a := by
  cases t <;> rfl

/-- Replacing one train's entry leaves every other. -/
theorem PerTrain.get_set_other {α : Type} (p : PerTrain α) (t u : Train) (a : α) (h : u ≠ t) :
    (p.set t a).get u = p.get u := by
  cases t <;> cases u <;> first | rfl | exact absurd rfl h

@[simp] theorem PerTrain.get_map {α β : Type} (p : PerTrain α) (f : α → β) (t : Train) :
    (p.map f).get t = f (p.get t) := by
  cases t <;> rfl

@[simp] theorem PerTank.get_set {α : Type} (p : PerTank α) (t : Tank) (a : α) : (p.set t a).get t = a := by
  cases t <;> rfl

/-- Replacing one Tank's entry leaves every other. -/
theorem PerTank.get_set_other {α : Type} (p : PerTank α) (t u : Tank) (a : α) (h : u ≠ t) :
    (p.set t a).get u = p.get u := by
  cases t <;> cases u <;> first | rfl | exact absurd rfl h

@[simp] theorem PerTank.get_map {α β : Type} (p : PerTank α) (f : α → β) (t : Tank) :
    (p.map f).get t = f (p.get t) := by
  cases t <;> rfl

@[simp] theorem State.train_setTrain (s : State) (t : Train) (c : TrainContext) : (s.setTrain t c).train t = c := by
  simp [State.train]

/-- Replacing one train's context leaves every other. -/
theorem State.train_setTrain_other (s : State) (t u : Train) (c : TrainContext) (h : u ≠ t) :
    (s.setTrain t c).train u = s.train u :=
  PerTrain.get_set_other s.trains t u c h

@[simp] theorem State.tank_setTank (s : State) (t : Tank) (v : TankState) : (s.setTank t v).tank t = v := by
  simp [State.tank]

/-- Replacing one Tank leaves every other. -/
theorem State.tank_setTank_other (s : State) (t u : Tank) (v : TankState) (h : u ≠ t) :
    (s.setTank t v).tank u = s.tank u :=
  PerTank.get_set_other s.tanks t u v h

/-- Two trains' entries are equal when all six are. -/
theorem PerTrain.ext_get {α : Type} {p q : PerTrain α} (h : ∀ t, p.get t = q.get t) : p = q := by
  cases p
  cases q
  have h1 := h .k1
  have h2 := h .k2
  have h3 := h .k3
  have h4 := h .x1
  have h5 := h .x2
  have h6 := h .x3
  simp only [PerTrain.get] at h1 h2 h3 h4 h5 h6
  subst h1 h2 h3 h4 h5 h6
  rfl

end Sys2Proof.Machine
end

