-- ==== Sys2Proof/Laws/Frames.lean ====
section
/-!
SUPPORT. The frame of each shared operation: the blocks of the state that it leaves as they are.
-/
namespace Sys2Proof.Machine

/-- What every step of a fold leaves, the fold leaves. -/
theorem foldl_frame {α β : Type} (g : State → β) (f : State → α → State) (l : List α) (s : State)
    (h : ∀ s a, g (f s a) = g s) : g (l.foldl f s) = g s := by
  induction l generalizing s with
  | nil => rfl
  | cons a l ih => exact (ih (f s a)).trans (h s a)

@[simp] theorem State_setTrain_frame (t : Train) (c : TrainContext) (s : State) :
    (s.setTrain t c).trains = s.trains.set t c := rfl

/-! ### Links, events and time -/

@[simp] theorem raise_frame (r : Raised) (s : State) :
    (raise r s).mp = s.mp ∧
    (raise r s).sp = s.sp ∧
    (raise r s).transaction = s.transaction ∧
    (raise r s).sticky = s.sticky ∧
    (raise r s).trainLinks = s.trainLinks ∧
    (raise r s).clock = s.clock ∧
    (raise r s).store = s.store ∧
    (raise r s).projector = s.projector ∧
    (raise r s).cavern = s.cavern ∧
    (raise r s).tanks = s.tanks ∧
    (raise r s).trains = s.trains ∧
    (raise r s).tables = s.tables ∧
    (raise r s).dispatcher = s.dispatcher ∧
    (raise r s).loader = s.loader ∧
    (raise r s).arrivals = s.arrivals ∧
    (raise r s).pending = s.pending := by
  unfold raise; (repeat' split) <;> simp

@[simp] theorem raiseAll_frame (rs : List Raised) (s : State) :
    (raiseAll rs s).mp = s.mp ∧
    (raiseAll rs s).sp = s.sp ∧
    (raiseAll rs s).transaction = s.transaction ∧
    (raiseAll rs s).sticky = s.sticky ∧
    (raiseAll rs s).trainLinks = s.trainLinks ∧
    (raiseAll rs s).clock = s.clock ∧
    (raiseAll rs s).store = s.store ∧
    (raiseAll rs s).projector = s.projector ∧
    (raiseAll rs s).cavern = s.cavern ∧
    (raiseAll rs s).tanks = s.tanks ∧
    (raiseAll rs s).trains = s.trains ∧
    (raiseAll rs s).tables = s.tables ∧
    (raiseAll rs s).dispatcher = s.dispatcher ∧
    (raiseAll rs s).loader = s.loader ∧
    (raiseAll rs s).arrivals = s.arrivals ∧
    (raiseAll rs s).pending = s.pending := by
  unfold raiseAll; (repeat' split) <;> simp

@[simp] theorem noticeTrains_frame (ts : List Train) (s : State) :
    (noticeTrains ts s).mp = s.mp ∧
    (noticeTrains ts s).sp = s.sp ∧
    (noticeTrains ts s).transaction = s.transaction ∧
    (noticeTrains ts s).sticky = s.sticky ∧
    (noticeTrains ts s).trainLinks = s.trainLinks ∧
    (noticeTrains ts s).clock = s.clock ∧
    (noticeTrains ts s).store = s.store ∧
    (noticeTrains ts s).projector = s.projector ∧
    (noticeTrains ts s).cavern = s.cavern ∧
    (noticeTrains ts s).tanks = s.tanks ∧
    (noticeTrains ts s).trains = s.trains ∧
    (noticeTrains ts s).tables = s.tables ∧
    (noticeTrains ts s).dispatcher = s.dispatcher ∧
    (noticeTrains ts s).loader = s.loader ∧
    (noticeTrains ts s).arrivals = s.arrivals ∧
    (noticeTrains ts s).pending = s.pending := by
  unfold noticeTrains; (repeat' split) <;> simp

@[simp] theorem elapse_frame (ms : Nat) (s : State) :
    (elapse ms s).mp = s.mp ∧
    (elapse ms s).sp = s.sp ∧
    (elapse ms s).transaction = s.transaction ∧
    (elapse ms s).sticky = s.sticky ∧
    (elapse ms s).trainLinks = s.trainLinks ∧
    (elapse ms s).store = s.store ∧
    (elapse ms s).projector = s.projector ∧
    (elapse ms s).cavern = s.cavern ∧
    (elapse ms s).tanks = s.tanks ∧
    (elapse ms s).dispatcher = s.dispatcher ∧
    (elapse ms s).loader = s.loader ∧
    (elapse ms s).raised = s.raised ∧
    (elapse ms s).arrivals = s.arrivals ∧
    (elapse ms s).pending = s.pending := by
  unfold elapse; (repeat' split) <;> simp

@[simp] theorem respond_frame (p : Port) (tag code : Octet) (reply : Reply) (s : State) :
    (respond p tag code reply s).transaction = s.transaction ∧
    (respond p tag code reply s).sticky = s.sticky ∧
    (respond p tag code reply s).trainLinks = s.trainLinks ∧
    (respond p tag code reply s).clock = s.clock ∧
    (respond p tag code reply s).store = s.store ∧
    (respond p tag code reply s).projector = s.projector ∧
    (respond p tag code reply s).cavern = s.cavern ∧
    (respond p tag code reply s).tanks = s.tanks ∧
    (respond p tag code reply s).trains = s.trains ∧
    (respond p tag code reply s).tables = s.tables ∧
    (respond p tag code reply s).dispatcher = s.dispatcher ∧
    (respond p tag code reply s).loader = s.loader ∧
    (respond p tag code reply s).raised = s.raised ∧
    (respond p tag code reply s).arrivals = s.arrivals ∧
    (respond p tag code reply s).pending = s.pending := by
  unfold respond; (repeat' split) <;> simp

@[simp] theorem answerEntry_frame (e : Entry) (reply : Reply) (s : State) :
    (answerEntry e reply s).transaction = s.transaction ∧
    (answerEntry e reply s).sticky = s.sticky ∧
    (answerEntry e reply s).trainLinks = s.trainLinks ∧
    (answerEntry e reply s).clock = s.clock ∧
    (answerEntry e reply s).store = s.store ∧
    (answerEntry e reply s).projector = s.projector ∧
    (answerEntry e reply s).cavern = s.cavern ∧
    (answerEntry e reply s).tanks = s.tanks ∧
    (answerEntry e reply s).trains = s.trains ∧
    (answerEntry e reply s).tables = s.tables ∧
    (answerEntry e reply s).dispatcher = s.dispatcher ∧
    (answerEntry e reply s).loader = s.loader ∧
    (answerEntry e reply s).raised = s.raised ∧
    (answerEntry e reply s).arrivals = s.arrivals ∧
    (answerEntry e reply s).pending = s.pending := by
  unfold answerEntry; (repeat' split) <;> simp

@[simp] theorem answerInService_frame (e : Entry) (reply : Reply) (s : State) :
    (answerInService e reply s).transaction = s.transaction ∧
    (answerInService e reply s).sticky = s.sticky ∧
    (answerInService e reply s).trainLinks = s.trainLinks ∧
    (answerInService e reply s).clock = s.clock ∧
    (answerInService e reply s).store = s.store ∧
    (answerInService e reply s).projector = s.projector ∧
    (answerInService e reply s).cavern = s.cavern ∧
    (answerInService e reply s).tanks = s.tanks ∧
    (answerInService e reply s).trains = s.trains ∧
    (answerInService e reply s).tables = s.tables ∧
    (answerInService e reply s).dispatcher = s.dispatcher ∧
    (answerInService e reply s).loader = s.loader ∧
    (answerInService e reply s).raised = s.raised ∧
    (answerInService e reply s).arrivals = s.arrivals ∧
    (answerInService e reply s).pending = s.pending := by
  unfold answerInService; (repeat' split) <;> simp

@[simp] theorem endTransaction_frame (n : Nat) (s : State) :
    (endTransaction n s).mp = s.mp ∧
    (endTransaction n s).sticky = s.sticky ∧
    (endTransaction n s).trainLinks = s.trainLinks ∧
    (endTransaction n s).clock = s.clock ∧
    (endTransaction n s).store = s.store ∧
    (endTransaction n s).projector = s.projector ∧
    (endTransaction n s).cavern = s.cavern ∧
    (endTransaction n s).tanks = s.tanks ∧
    (endTransaction n s).trains = s.trains ∧
    (endTransaction n s).tables = s.tables ∧
    (endTransaction n s).dispatcher = s.dispatcher ∧
    (endTransaction n s).loader = s.loader ∧
    (endTransaction n s).raised = s.raised ∧
    (endTransaction n s).arrivals = s.arrivals ∧
    (endTransaction n s).pending = s.pending := by
  unfold endTransaction; (repeat' split) <;> simp

@[simp] theorem clockTransaction_frame  (s : State) :
    (clockTransaction s).mp = s.mp ∧
    (clockTransaction s).sp = s.sp ∧
    (clockTransaction s).sticky = s.sticky ∧
    (clockTransaction s).trainLinks = s.trainLinks ∧
    (clockTransaction s).clock = s.clock ∧
    (clockTransaction s).store = s.store ∧
    (clockTransaction s).projector = s.projector ∧
    (clockTransaction s).cavern = s.cavern ∧
    (clockTransaction s).tanks = s.tanks ∧
    (clockTransaction s).trains = s.trains ∧
    (clockTransaction s).tables = s.tables ∧
    (clockTransaction s).dispatcher = s.dispatcher ∧
    (clockTransaction s).loader = s.loader ∧
    (clockTransaction s).raised = s.raised ∧
    (clockTransaction s).arrivals = s.arrivals ∧
    (clockTransaction s).pending = s.pending := by
  unfold clockTransaction; (repeat' split) <;> simp

@[simp] theorem receive_frame (via : Via) (n : Nat) (s : State) :
    (receive via n s).sticky = s.sticky ∧
    (receive via n s).trainLinks = s.trainLinks ∧
    (receive via n s).clock = s.clock ∧
    (receive via n s).store = s.store ∧
    (receive via n s).projector = s.projector ∧
    (receive via n s).cavern = s.cavern ∧
    (receive via n s).tanks = s.tanks ∧
    (receive via n s).trains = s.trains ∧
    (receive via n s).tables = s.tables ∧
    (receive via n s).dispatcher = s.dispatcher ∧
    (receive via n s).loader = s.loader ∧
    (receive via n s).raised = s.raised ∧
    (receive via n s).arrivals = s.arrivals ∧
    (receive via n s).pending = s.pending := by
  unfold receive; (repeat' split) <;> simp

@[simp] theorem received_frame (f : Frame) (s : State) :
    (received f s).sticky = s.sticky ∧
    (received f s).trainLinks = s.trainLinks ∧
    (received f s).clock = s.clock ∧
    (received f s).store = s.store ∧
    (received f s).projector = s.projector ∧
    (received f s).cavern = s.cavern ∧
    (received f s).tanks = s.tanks ∧
    (received f s).trains = s.trains ∧
    (received f s).tables = s.tables ∧
    (received f s).dispatcher = s.dispatcher ∧
    (received f s).loader = s.loader ∧
    (received f s).raised = s.raised ∧
    (received f s).arrivals = s.arrivals ∧
    (received f s).pending = s.pending := by
  unfold received; (repeat' split) <;> simp

@[simp] theorem issueOrder_frame (t : Train) (o : Order) (s : State) :
    (issueOrder t o s).mp = s.mp ∧
    (issueOrder t o s).sp = s.sp ∧
    (issueOrder t o s).transaction = s.transaction ∧
    (issueOrder t o s).sticky = s.sticky ∧
    (issueOrder t o s).clock = s.clock ∧
    (issueOrder t o s).store = s.store ∧
    (issueOrder t o s).projector = s.projector ∧
    (issueOrder t o s).cavern = s.cavern ∧
    (issueOrder t o s).tanks = s.tanks ∧
    (issueOrder t o s).trains = s.trains ∧
    (issueOrder t o s).tables = s.tables ∧
    (issueOrder t o s).dispatcher = s.dispatcher ∧
    (issueOrder t o s).loader = s.loader ∧
    (issueOrder t o s).raised = s.raised ∧
    (issueOrder t o s).arrivals = s.arrivals ∧
    (issueOrder t o s).pending = s.pending := by
  unfold issueOrder; (repeat' split) <;> simp

@[simp] theorem setSticky_frame (c : Sticky) (s : State) :
    (setSticky c s).mp = s.mp ∧
    (setSticky c s).sp = s.sp ∧
    (setSticky c s).transaction = s.transaction ∧
    (setSticky c s).trainLinks = s.trainLinks ∧
    (setSticky c s).clock = s.clock ∧
    (setSticky c s).store = s.store ∧
    (setSticky c s).projector = s.projector ∧
    (setSticky c s).cavern = s.cavern ∧
    (setSticky c s).tanks = s.tanks ∧
    (setSticky c s).trains = s.trains ∧
    (setSticky c s).tables = s.tables ∧
    (setSticky c s).dispatcher = s.dispatcher ∧
    (setSticky c s).loader = s.loader ∧
    (setSticky c s).raised = s.raised ∧
    (setSticky c s).arrivals = s.arrivals ∧
    (setSticky c s).pending = s.pending := by
  unfold setSticky; (repeat' split) <;> simp

@[simp] theorem setStickyIf_frame (b : Bool) (c : Sticky) (s : State) :
    (setStickyIf b c s).mp = s.mp ∧
    (setStickyIf b c s).sp = s.sp ∧
    (setStickyIf b c s).transaction = s.transaction ∧
    (setStickyIf b c s).trainLinks = s.trainLinks ∧
    (setStickyIf b c s).clock = s.clock ∧
    (setStickyIf b c s).store = s.store ∧
    (setStickyIf b c s).projector = s.projector ∧
    (setStickyIf b c s).cavern = s.cavern ∧
    (setStickyIf b c s).tanks = s.tanks ∧
    (setStickyIf b c s).trains = s.trains ∧
    (setStickyIf b c s).tables = s.tables ∧
    (setStickyIf b c s).dispatcher = s.dispatcher ∧
    (setStickyIf b c s).loader = s.loader ∧
    (setStickyIf b c s).raised = s.raised ∧
    (setStickyIf b c s).arrivals = s.arrivals ∧
    (setStickyIf b c s).pending = s.pending := by
  unfold setStickyIf; (repeat' split) <;> simp

@[simp] theorem deliver_frame (c : Option Instr) (s : State) :
    (deliver c s).mp = s.mp ∧
    (deliver c s).sp = s.sp ∧
    (deliver c s).transaction = s.transaction ∧
    (deliver c s).sticky = s.sticky ∧
    (deliver c s).trainLinks = s.trainLinks ∧
    (deliver c s).clock = s.clock ∧
    (deliver c s).store = s.store ∧
    (deliver c s).projector = s.projector ∧
    (deliver c s).cavern = s.cavern ∧
    (deliver c s).tanks = s.tanks ∧
    (deliver c s).trains = s.trains ∧
    (deliver c s).tables = s.tables ∧
    (deliver c s).dispatcher = s.dispatcher ∧
    (deliver c s).loader = s.loader ∧
    (deliver c s).raised = s.raised ∧
    (deliver c s).arrivals = s.arrivals := by
  unfold deliver; (repeat' split) <;> simp

@[simp] theorem setMarketIntake_frame (held : Option PartialFrame) (s : State) :
    (setMarketIntake held s).sp = s.sp ∧
    (setMarketIntake held s).transaction = s.transaction ∧
    (setMarketIntake held s).sticky = s.sticky ∧
    (setMarketIntake held s).trainLinks = s.trainLinks ∧
    (setMarketIntake held s).clock = s.clock ∧
    (setMarketIntake held s).store = s.store ∧
    (setMarketIntake held s).projector = s.projector ∧
    (setMarketIntake held s).cavern = s.cavern ∧
    (setMarketIntake held s).tanks = s.tanks ∧
    (setMarketIntake held s).trains = s.trains ∧
    (setMarketIntake held s).tables = s.tables ∧
    (setMarketIntake held s).dispatcher = s.dispatcher ∧
    (setMarketIntake held s).loader = s.loader ∧
    (setMarketIntake held s).raised = s.raised ∧
    (setMarketIntake held s).arrivals = s.arrivals ∧
    (setMarketIntake held s).pending = s.pending := by
  unfold setMarketIntake; simp

@[simp] theorem setSupervisoryIntake_frame (held : Option PartialFrame) (s : State) :
    (setSupervisoryIntake held s).mp = s.mp ∧
    (setSupervisoryIntake held s).transaction = s.transaction ∧
    (setSupervisoryIntake held s).sticky = s.sticky ∧
    (setSupervisoryIntake held s).trainLinks = s.trainLinks ∧
    (setSupervisoryIntake held s).clock = s.clock ∧
    (setSupervisoryIntake held s).store = s.store ∧
    (setSupervisoryIntake held s).projector = s.projector ∧
    (setSupervisoryIntake held s).cavern = s.cavern ∧
    (setSupervisoryIntake held s).tanks = s.tanks ∧
    (setSupervisoryIntake held s).trains = s.trains ∧
    (setSupervisoryIntake held s).tables = s.tables ∧
    (setSupervisoryIntake held s).dispatcher = s.dispatcher ∧
    (setSupervisoryIntake held s).loader = s.loader ∧
    (setSupervisoryIntake held s).raised = s.raised ∧
    (setSupervisoryIntake held s).arrivals = s.arrivals ∧
    (setSupervisoryIntake held s).pending = s.pending := by
  unfold setSupervisoryIntake; simp

@[simp] theorem setTrainIntake_frame (line : Train) (held : Option PartialFrame) (s : State) :
    (setTrainIntake line held s).mp = s.mp ∧
    (setTrainIntake line held s).sp = s.sp ∧
    (setTrainIntake line held s).transaction = s.transaction ∧
    (setTrainIntake line held s).sticky = s.sticky ∧
    (setTrainIntake line held s).clock = s.clock ∧
    (setTrainIntake line held s).store = s.store ∧
    (setTrainIntake line held s).projector = s.projector ∧
    (setTrainIntake line held s).cavern = s.cavern ∧
    (setTrainIntake line held s).tanks = s.tanks ∧
    (setTrainIntake line held s).trains = s.trains ∧
    (setTrainIntake line held s).tables = s.tables ∧
    (setTrainIntake line held s).dispatcher = s.dispatcher ∧
    (setTrainIntake line held s).loader = s.loader ∧
    (setTrainIntake line held s).raised = s.raised ∧
    (setTrainIntake line held s).arrivals = s.arrivals ∧
    (setTrainIntake line held s).pending = s.pending := by
  unfold setTrainIntake; simp

@[simp] theorem takeArrival_frame (a : Arrival) (s : State) :
    (takeArrival a s).sticky = s.sticky ∧
    (takeArrival a s).clock = s.clock ∧
    (takeArrival a s).store = s.store ∧
    (takeArrival a s).projector = s.projector ∧
    (takeArrival a s).cavern = s.cavern ∧
    (takeArrival a s).tanks = s.tanks ∧
    (takeArrival a s).trains = s.trains ∧
    (takeArrival a s).tables = s.tables ∧
    (takeArrival a s).dispatcher = s.dispatcher ∧
    (takeArrival a s).loader = s.loader ∧
    (takeArrival a s).raised = s.raised ∧
    (takeArrival a s).arrivals = s.arrivals := by
  unfold takeArrival; dsimp only; split <;> simp

/-! ### Cavern Account -/

@[simp] theorem reinterpolate_frame  (s : State) :
    (reinterpolate s).mp = s.mp ∧
    (reinterpolate s).sp = s.sp ∧
    (reinterpolate s).transaction = s.transaction ∧
    (reinterpolate s).trainLinks = s.trainLinks ∧
    (reinterpolate s).clock = s.clock ∧
    (reinterpolate s).store = s.store ∧
    (reinterpolate s).projector = s.projector ∧
    (reinterpolate s).tanks = s.tanks ∧
    (reinterpolate s).trains = s.trains ∧
    (reinterpolate s).tables = s.tables ∧
    (reinterpolate s).dispatcher = s.dispatcher ∧
    (reinterpolate s).loader = s.loader ∧
    (reinterpolate s).arrivals = s.arrivals ∧
    (reinterpolate s).pending = s.pending := by
  unfold reinterpolate; dsimp only; split <;> simp

@[simp] theorem integrateReport_frame (t : Train) (flow ms : Nat) (s : State) :
    (integrateReport t flow ms s).mp = s.mp ∧
    (integrateReport t flow ms s).sp = s.sp ∧
    (integrateReport t flow ms s).transaction = s.transaction ∧
    (integrateReport t flow ms s).trainLinks = s.trainLinks ∧
    (integrateReport t flow ms s).clock = s.clock ∧
    (integrateReport t flow ms s).store = s.store ∧
    (integrateReport t flow ms s).projector = s.projector ∧
    (integrateReport t flow ms s).tanks = s.tanks ∧
    (integrateReport t flow ms s).trains = s.trains ∧
    (integrateReport t flow ms s).tables = s.tables ∧
    (integrateReport t flow ms s).dispatcher = s.dispatcher ∧
    (integrateReport t flow ms s).loader = s.loader ∧
    (integrateReport t flow ms s).arrivals = s.arrivals ∧
    (integrateReport t flow ms s).pending = s.pending := by
  unfold integrateReport; dsimp only; (repeat' split) <;> simp

@[simp] theorem takeCharacteristic_frame (points : List (Nat × Nat)) (s : State) :
    (takeCharacteristic points s).mp = s.mp ∧
    (takeCharacteristic points s).sp = s.sp ∧
    (takeCharacteristic points s).transaction = s.transaction ∧
    (takeCharacteristic points s).trainLinks = s.trainLinks ∧
    (takeCharacteristic points s).clock = s.clock ∧
    (takeCharacteristic points s).store = s.store ∧
    (takeCharacteristic points s).projector = s.projector ∧
    (takeCharacteristic points s).tanks = s.tanks ∧
    (takeCharacteristic points s).trains = s.trains ∧
    (takeCharacteristic points s).tables = s.tables ∧
    (takeCharacteristic points s).dispatcher = s.dispatcher ∧
    (takeCharacteristic points s).loader = s.loader ∧
    (takeCharacteristic points s).arrivals = s.arrivals ∧
    (takeCharacteristic points s).pending = s.pending := by
  unfold takeCharacteristic; simp

@[simp] theorem takeThresholds_frame (th : Thresholds) (s : State) :
    (takeThresholds th s).mp = s.mp ∧
    (takeThresholds th s).sp = s.sp ∧
    (takeThresholds th s).transaction = s.transaction ∧
    (takeThresholds th s).trainLinks = s.trainLinks ∧
    (takeThresholds th s).clock = s.clock ∧
    (takeThresholds th s).store = s.store ∧
    (takeThresholds th s).projector = s.projector ∧
    (takeThresholds th s).tanks = s.tanks ∧
    (takeThresholds th s).trains = s.trains ∧
    (takeThresholds th s).tables = s.tables ∧
    (takeThresholds th s).dispatcher = s.dispatcher ∧
    (takeThresholds th s).loader = s.loader ∧
    (takeThresholds th s).arrivals = s.arrivals ∧
    (takeThresholds th s).pending = s.pending := by
  unfold takeThresholds; simp

/-! ### Heat Store Unit -/

@[simp] theorem spillHeat_frame (tank : Tank) (mj : Nat) (s : State) :
    (spillHeat tank mj s).mp = s.mp ∧
    (spillHeat tank mj s).sp = s.sp ∧
    (spillHeat tank mj s).transaction = s.transaction ∧
    (spillHeat tank mj s).trainLinks = s.trainLinks ∧
    (spillHeat tank mj s).clock = s.clock ∧
    (spillHeat tank mj s).store = s.store ∧
    (spillHeat tank mj s).projector = s.projector ∧
    (spillHeat tank mj s).cavern = s.cavern ∧
    (spillHeat tank mj s).trains = s.trains ∧
    (spillHeat tank mj s).tables = s.tables ∧
    (spillHeat tank mj s).dispatcher = s.dispatcher ∧
    (spillHeat tank mj s).loader = s.loader ∧
    (spillHeat tank mj s).raised = s.raised ∧
    (spillHeat tank mj s).arrivals = s.arrivals ∧
    (spillHeat tank mj s).pending = s.pending := by
  unfold spillHeat; simp [State.setTank]

@[simp] theorem topNotices_frame (before : State) (s : State) :
    (topNotices before s).mp = s.mp ∧
    (topNotices before s).sp = s.sp ∧
    (topNotices before s).transaction = s.transaction ∧
    (topNotices before s).sticky = s.sticky ∧
    (topNotices before s).trainLinks = s.trainLinks ∧
    (topNotices before s).clock = s.clock ∧
    (topNotices before s).store = s.store ∧
    (topNotices before s).projector = s.projector ∧
    (topNotices before s).cavern = s.cavern ∧
    (topNotices before s).tanks = s.tanks ∧
    (topNotices before s).trains = s.trains ∧
    (topNotices before s).tables = s.tables ∧
    (topNotices before s).dispatcher = s.dispatcher ∧
    (topNotices before s).loader = s.loader ∧
    (topNotices before s).arrivals = s.arrivals ∧
    (topNotices before s).pending = s.pending := by
  unfold topNotices; (repeat' split) <;> simp

@[simp] theorem depositHeat_frame (t : Train) (h c : Nat) (tank : Tank) (s : State) :
    (depositHeat t h c tank s).mp = s.mp ∧
    (depositHeat t h c tank s).sp = s.sp ∧
    (depositHeat t h c tank s).transaction = s.transaction ∧
    (depositHeat t h c tank s).trainLinks = s.trainLinks ∧
    (depositHeat t h c tank s).clock = s.clock ∧
    (depositHeat t h c tank s).store = s.store ∧
    (depositHeat t h c tank s).projector = s.projector ∧
    (depositHeat t h c tank s).cavern = s.cavern ∧
    (depositHeat t h c tank s).tables = s.tables ∧
    (depositHeat t h c tank s).dispatcher = s.dispatcher ∧
    (depositHeat t h c tank s).loader = s.loader ∧
    (depositHeat t h c tank s).arrivals = s.arrivals ∧
    (depositHeat t h c tank s).pending = s.pending := by
  unfold depositHeat; dsimp only; (repeat' split) <;> simp [State.setTank, State.setTrain]

@[simp] theorem applyLoss_frame (n : Nat) (s : State) :
    (applyLoss n s).mp = s.mp ∧
    (applyLoss n s).sp = s.sp ∧
    (applyLoss n s).transaction = s.transaction ∧
    (applyLoss n s).sticky = s.sticky ∧
    (applyLoss n s).trainLinks = s.trainLinks ∧
    (applyLoss n s).clock = s.clock ∧
    (applyLoss n s).store = s.store ∧
    (applyLoss n s).projector = s.projector ∧
    (applyLoss n s).cavern = s.cavern ∧
    (applyLoss n s).trains = s.trains ∧
    (applyLoss n s).tables = s.tables ∧
    (applyLoss n s).dispatcher = s.dispatcher ∧
    (applyLoss n s).loader = s.loader ∧
    (applyLoss n s).arrivals = s.arrivals ∧
    (applyLoss n s).pending = s.pending := by
  unfold applyLoss; simp

@[simp] theorem takeHeatConstants_frame (k : HeatConstants) (s : State) :
    (takeHeatConstants k s).mp = s.mp ∧
    (takeHeatConstants k s).sp = s.sp ∧
    (takeHeatConstants k s).transaction = s.transaction ∧
    (takeHeatConstants k s).sticky = s.sticky ∧
    (takeHeatConstants k s).trainLinks = s.trainLinks ∧
    (takeHeatConstants k s).clock = s.clock ∧
    (takeHeatConstants k s).store = s.store ∧
    (takeHeatConstants k s).projector = s.projector ∧
    (takeHeatConstants k s).cavern = s.cavern ∧
    (takeHeatConstants k s).trains = s.trains ∧
    (takeHeatConstants k s).tables = s.tables ∧
    (takeHeatConstants k s).dispatcher = s.dispatcher ∧
    (takeHeatConstants k s).arrivals = s.arrivals ∧
    (takeHeatConstants k s).pending = s.pending := by
  unfold takeHeatConstants; simp

@[simp] theorem takeCapacities_frame (c : PerTank Nat) (s : State) :
    (takeCapacities c s).mp = s.mp ∧
    (takeCapacities c s).sp = s.sp ∧
    (takeCapacities c s).transaction = s.transaction ∧
    (takeCapacities c s).sticky = s.sticky ∧
    (takeCapacities c s).trainLinks = s.trainLinks ∧
    (takeCapacities c s).clock = s.clock ∧
    (takeCapacities c s).store = s.store ∧
    (takeCapacities c s).projector = s.projector ∧
    (takeCapacities c s).cavern = s.cavern ∧
    (takeCapacities c s).trains = s.trains ∧
    (takeCapacities c s).tables = s.tables ∧
    (takeCapacities c s).dispatcher = s.dispatcher ∧
    (takeCapacities c s).loader = s.loader ∧
    (takeCapacities c s).arrivals = s.arrivals ∧
    (takeCapacities c s).pending = s.pending := by
  unfold takeCapacities; simp

@[simp] theorem grantCredit_frame (t : Train) (request : Nat) (s : State) :
    (grantCredit t request s).mp = s.mp ∧
    (grantCredit t request s).sp = s.sp ∧
    (grantCredit t request s).transaction = s.transaction ∧
    (grantCredit t request s).sticky = s.sticky ∧
    (grantCredit t request s).trainLinks = s.trainLinks ∧
    (grantCredit t request s).clock = s.clock ∧
    (grantCredit t request s).store = s.store ∧
    (grantCredit t request s).projector = s.projector ∧
    (grantCredit t request s).cavern = s.cavern ∧
    (grantCredit t request s).tanks = s.tanks ∧
    (grantCredit t request s).tables = s.tables ∧
    (grantCredit t request s).dispatcher = s.dispatcher ∧
    (grantCredit t request s).loader = s.loader ∧
    (grantCredit t request s).raised = s.raised ∧
    (grantCredit t request s).arrivals = s.arrivals ∧
    (grantCredit t request s).pending = s.pending := by
  unfold grantCredit; simp [State.setTrain]

@[simp] theorem partialReturn_frame (t : Train) (need : Nat) (s : State) :
    (partialReturn t need s).mp = s.mp ∧
    (partialReturn t need s).sp = s.sp ∧
    (partialReturn t need s).transaction = s.transaction ∧
    (partialReturn t need s).sticky = s.sticky ∧
    (partialReturn t need s).trainLinks = s.trainLinks ∧
    (partialReturn t need s).clock = s.clock ∧
    (partialReturn t need s).store = s.store ∧
    (partialReturn t need s).projector = s.projector ∧
    (partialReturn t need s).cavern = s.cavern ∧
    (partialReturn t need s).tanks = s.tanks ∧
    (partialReturn t need s).tables = s.tables ∧
    (partialReturn t need s).dispatcher = s.dispatcher ∧
    (partialReturn t need s).loader = s.loader ∧
    (partialReturn t need s).raised = s.raised ∧
    (partialReturn t need s).arrivals = s.arrivals ∧
    (partialReturn t need s).pending = s.pending := by
  unfold partialReturn; simp [State.setTrain]

@[simp] theorem settleCredit_frame (t : Train) (need : Nat) (s : State) :
    (settleCredit t need s).mp = s.mp ∧
    (settleCredit t need s).sp = s.sp ∧
    (settleCredit t need s).transaction = s.transaction ∧
    (settleCredit t need s).sticky = s.sticky ∧
    (settleCredit t need s).trainLinks = s.trainLinks ∧
    (settleCredit t need s).clock = s.clock ∧
    (settleCredit t need s).store = s.store ∧
    (settleCredit t need s).projector = s.projector ∧
    (settleCredit t need s).cavern = s.cavern ∧
    (settleCredit t need s).tanks = s.tanks ∧
    (settleCredit t need s).tables = s.tables ∧
    (settleCredit t need s).dispatcher = s.dispatcher ∧
    (settleCredit t need s).loader = s.loader ∧
    (settleCredit t need s).raised = s.raised ∧
    (settleCredit t need s).arrivals = s.arrivals ∧
    (settleCredit t need s).pending = s.pending := by
  unfold settleCredit; (repeat' split) <;> simp

@[simp] theorem limitByCredit_frame (t : Train) (v : Nat) (s : State) :
    (limitByCredit t v s).mp = s.mp ∧
    (limitByCredit t v s).sp = s.sp ∧
    (limitByCredit t v s).transaction = s.transaction ∧
    (limitByCredit t v s).sticky = s.sticky ∧
    (limitByCredit t v s).trainLinks = s.trainLinks ∧
    (limitByCredit t v s).clock = s.clock ∧
    (limitByCredit t v s).store = s.store ∧
    (limitByCredit t v s).projector = s.projector ∧
    (limitByCredit t v s).cavern = s.cavern ∧
    (limitByCredit t v s).tanks = s.tanks ∧
    (limitByCredit t v s).tables = s.tables ∧
    (limitByCredit t v s).dispatcher = s.dispatcher ∧
    (limitByCredit t v s).loader = s.loader ∧
    (limitByCredit t v s).raised = s.raised ∧
    (limitByCredit t v s).arrivals = s.arrivals ∧
    (limitByCredit t v s).pending = s.pending := by
  unfold limitByCredit; dsimp only; split <;> simp [State.setTrain]

/-! ### Train Unit -/

@[simp] theorem triggerPass_frame  (s : State) :
    (triggerPass s).mp = s.mp ∧
    (triggerPass s).sp = s.sp ∧
    (triggerPass s).transaction = s.transaction ∧
    (triggerPass s).sticky = s.sticky ∧
    (triggerPass s).trainLinks = s.trainLinks ∧
    (triggerPass s).clock = s.clock ∧
    (triggerPass s).store = s.store ∧
    (triggerPass s).cavern = s.cavern ∧
    (triggerPass s).tanks = s.tanks ∧
    (triggerPass s).trains = s.trains ∧
    (triggerPass s).tables = s.tables ∧
    (triggerPass s).dispatcher = s.dispatcher ∧
    (triggerPass s).loader = s.loader ∧
    (triggerPass s).raised = s.raised ∧
    (triggerPass s).arrivals = s.arrivals ∧
    (triggerPass s).pending = s.pending := by
  unfold triggerPass; (repeat' split) <;> simp

@[simp] theorem triggerPassIf_frame (b : Bool) (s : State) :
    (triggerPassIf b s).mp = s.mp ∧
    (triggerPassIf b s).sp = s.sp ∧
    (triggerPassIf b s).transaction = s.transaction ∧
    (triggerPassIf b s).sticky = s.sticky ∧
    (triggerPassIf b s).trainLinks = s.trainLinks ∧
    (triggerPassIf b s).clock = s.clock ∧
    (triggerPassIf b s).store = s.store ∧
    (triggerPassIf b s).cavern = s.cavern ∧
    (triggerPassIf b s).tanks = s.tanks ∧
    (triggerPassIf b s).trains = s.trains ∧
    (triggerPassIf b s).tables = s.tables ∧
    (triggerPassIf b s).dispatcher = s.dispatcher ∧
    (triggerPassIf b s).loader = s.loader ∧
    (triggerPassIf b s).raised = s.raised ∧
    (triggerPassIf b s).arrivals = s.arrivals ∧
    (triggerPassIf b s).pending = s.pending := by
  unfold triggerPassIf; (repeat' split) <;> simp

@[simp] theorem setEntryCondition_frame (t : Train) (into : TrainState) (s : State) :
    (setEntryCondition t into s).mp = s.mp ∧
    (setEntryCondition t into s).sp = s.sp ∧
    (setEntryCondition t into s).transaction = s.transaction ∧
    (setEntryCondition t into s).trainLinks = s.trainLinks ∧
    (setEntryCondition t into s).clock = s.clock ∧
    (setEntryCondition t into s).store = s.store ∧
    (setEntryCondition t into s).projector = s.projector ∧
    (setEntryCondition t into s).cavern = s.cavern ∧
    (setEntryCondition t into s).tanks = s.tanks ∧
    (setEntryCondition t into s).trains = s.trains ∧
    (setEntryCondition t into s).tables = s.tables ∧
    (setEntryCondition t into s).dispatcher = s.dispatcher ∧
    (setEntryCondition t into s).loader = s.loader ∧
    (setEntryCondition t into s).raised = s.raised ∧
    (setEntryCondition t into s).arrivals = s.arrivals ∧
    (setEntryCondition t into s).pending = s.pending := by
  unfold setEntryCondition; (repeat' split) <;> simp

@[simp] theorem moveToRest_frame (t : Train) (into : TrainState) (s : State) :
    (moveToRest t into s).mp = s.mp ∧
    (moveToRest t into s).sp = s.sp ∧
    (moveToRest t into s).transaction = s.transaction ∧
    (moveToRest t into s).trainLinks = s.trainLinks ∧
    (moveToRest t into s).clock = s.clock ∧
    (moveToRest t into s).store = s.store ∧
    (moveToRest t into s).cavern = s.cavern ∧
    (moveToRest t into s).tanks = s.tanks ∧
    (moveToRest t into s).tables = s.tables ∧
    (moveToRest t into s).dispatcher = s.dispatcher ∧
    (moveToRest t into s).loader = s.loader ∧
    (moveToRest t into s).raised = s.raised ∧
    (moveToRest t into s).arrivals = s.arrivals ∧
    (moveToRest t into s).pending = s.pending := by
  unfold moveToRest; simp [State.setTrain]

@[simp] theorem reenterUnloading_frame (t : Train) (power : Nat) (s : State) :
    (reenterUnloading t power s).mp = s.mp ∧
    (reenterUnloading t power s).sp = s.sp ∧
    (reenterUnloading t power s).transaction = s.transaction ∧
    (reenterUnloading t power s).sticky = s.sticky ∧
    (reenterUnloading t power s).trainLinks = s.trainLinks ∧
    (reenterUnloading t power s).clock = s.clock ∧
    (reenterUnloading t power s).store = s.store ∧
    (reenterUnloading t power s).cavern = s.cavern ∧
    (reenterUnloading t power s).tanks = s.tanks ∧
    (reenterUnloading t power s).tables = s.tables ∧
    (reenterUnloading t power s).dispatcher = s.dispatcher ∧
    (reenterUnloading t power s).loader = s.loader ∧
    (reenterUnloading t power s).raised = s.raised ∧
    (reenterUnloading t power s).arrivals = s.arrivals ∧
    (reenterUnloading t power s).pending = s.pending := by
  unfold reenterUnloading; simp [State.setTrain]

@[simp] theorem applyMove_frame (t : Train) (power : Nat) (m : ReportMove) (s : State) :
    (applyMove t power m s).mp = s.mp ∧
    (applyMove t power m s).sp = s.sp ∧
    (applyMove t power m s).transaction = s.transaction ∧
    (applyMove t power m s).trainLinks = s.trainLinks ∧
    (applyMove t power m s).clock = s.clock ∧
    (applyMove t power m s).store = s.store ∧
    (applyMove t power m s).cavern = s.cavern ∧
    (applyMove t power m s).tanks = s.tanks ∧
    (applyMove t power m s).tables = s.tables ∧
    (applyMove t power m s).dispatcher = s.dispatcher ∧
    (applyMove t power m s).loader = s.loader ∧
    (applyMove t power m s).raised = s.raised ∧
    (applyMove t power m s).arrivals = s.arrivals ∧
    (applyMove t power m s).pending = s.pending := by
  unfold applyMove; split <;> simp [State.setTrain]

@[simp] theorem removeExpired_frame (n : Nat) (s : State) :
    ((removeExpired n s).1).mp = s.mp ∧
    ((removeExpired n s).1).sp = s.sp ∧
    ((removeExpired n s).1).transaction = s.transaction ∧
    ((removeExpired n s).1).sticky = s.sticky ∧
    ((removeExpired n s).1).trainLinks = s.trainLinks ∧
    ((removeExpired n s).1).clock = s.clock ∧
    ((removeExpired n s).1).store = s.store ∧
    ((removeExpired n s).1).projector = s.projector ∧
    ((removeExpired n s).1).cavern = s.cavern ∧
    ((removeExpired n s).1).tanks = s.tanks ∧
    ((removeExpired n s).1).trains = s.trains ∧
    ((removeExpired n s).1).dispatcher = s.dispatcher ∧
    ((removeExpired n s).1).loader = s.loader ∧
    ((removeExpired n s).1).raised = s.raised ∧
    ((removeExpired n s).1).arrivals = s.arrivals ∧
    ((removeExpired n s).1).pending = s.pending := by
  unfold removeExpired; simp

/-! ### Horizon Projector -/

@[simp] theorem beginPass_frame  (s : State) :
    (beginPass s).mp = s.mp ∧
    (beginPass s).sp = s.sp ∧
    (beginPass s).transaction = s.transaction ∧
    (beginPass s).sticky = s.sticky ∧
    (beginPass s).trainLinks = s.trainLinks ∧
    (beginPass s).clock = s.clock ∧
    (beginPass s).store = s.store ∧
    (beginPass s).cavern = s.cavern ∧
    (beginPass s).tanks = s.tanks ∧
    (beginPass s).trains = s.trains ∧
    (beginPass s).tables = s.tables ∧
    (beginPass s).dispatcher = s.dispatcher ∧
    (beginPass s).loader = s.loader ∧
    (beginPass s).raised = s.raised ∧
    (beginPass s).arrivals = s.arrivals ∧
    (beginPass s).pending = s.pending := by
  unfold beginPass; (repeat' split) <;> simp

@[simp] theorem beginScreen_frame (trial : Trial) (s : State) :
    (beginScreen trial s).mp = s.mp ∧
    (beginScreen trial s).sp = s.sp ∧
    (beginScreen trial s).transaction = s.transaction ∧
    (beginScreen trial s).sticky = s.sticky ∧
    (beginScreen trial s).trainLinks = s.trainLinks ∧
    (beginScreen trial s).clock = s.clock ∧
    (beginScreen trial s).store = s.store ∧
    (beginScreen trial s).cavern = s.cavern ∧
    (beginScreen trial s).tanks = s.tanks ∧
    (beginScreen trial s).trains = s.trains ∧
    (beginScreen trial s).tables = s.tables ∧
    (beginScreen trial s).dispatcher = s.dispatcher ∧
    (beginScreen trial s).loader = s.loader ∧
    (beginScreen trial s).raised = s.raised ∧
    (beginScreen trial s).arrivals = s.arrivals ∧
    (beginScreen trial s).pending = s.pending := by
  unfold beginScreen; (repeat' split) <;> simp

@[simp] theorem beginIfDue_frame  (s : State) :
    (beginIfDue s).mp = s.mp ∧
    (beginIfDue s).sp = s.sp ∧
    (beginIfDue s).transaction = s.transaction ∧
    (beginIfDue s).sticky = s.sticky ∧
    (beginIfDue s).trainLinks = s.trainLinks ∧
    (beginIfDue s).clock = s.clock ∧
    (beginIfDue s).store = s.store ∧
    (beginIfDue s).cavern = s.cavern ∧
    (beginIfDue s).tanks = s.tanks ∧
    (beginIfDue s).trains = s.trains ∧
    (beginIfDue s).tables = s.tables ∧
    (beginIfDue s).dispatcher = s.dispatcher ∧
    (beginIfDue s).loader = s.loader ∧
    (beginIfDue s).raised = s.raised ∧
    (beginIfDue s).arrivals = s.arrivals ∧
    (beginIfDue s).pending = s.pending := by
  unfold beginIfDue; (repeat' split) <;> simp

@[simp] theorem endPass_frame  (s : State) :
    (endPass s).mp = s.mp ∧
    (endPass s).sp = s.sp ∧
    (endPass s).transaction = s.transaction ∧
    (endPass s).sticky = s.sticky ∧
    (endPass s).trainLinks = s.trainLinks ∧
    (endPass s).clock = s.clock ∧
    (endPass s).store = s.store ∧
    (endPass s).cavern = s.cavern ∧
    (endPass s).tanks = s.tanks ∧
    (endPass s).trains = s.trains ∧
    (endPass s).tables = s.tables ∧
    (endPass s).dispatcher = s.dispatcher ∧
    (endPass s).loader = s.loader ∧
    (endPass s).raised = s.raised ∧
    (endPass s).arrivals = s.arrivals ∧
    (endPass s).pending = s.pending := by
  unfold endPass; (repeat' split) <;> simp

@[simp] theorem rewriteMarks_frame (rows : List Row) (s : State) :
    (rewriteMarks rows s).mp = s.mp ∧
    (rewriteMarks rows s).sp = s.sp ∧
    (rewriteMarks rows s).transaction = s.transaction ∧
    (rewriteMarks rows s).trainLinks = s.trainLinks ∧
    (rewriteMarks rows s).clock = s.clock ∧
    (rewriteMarks rows s).projector = s.projector ∧
    (rewriteMarks rows s).cavern = s.cavern ∧
    (rewriteMarks rows s).tanks = s.tanks ∧
    (rewriteMarks rows s).trains = s.trains ∧
    (rewriteMarks rows s).tables = s.tables ∧
    (rewriteMarks rows s).dispatcher = s.dispatcher ∧
    (rewriteMarks rows s).loader = s.loader ∧
    (rewriteMarks rows s).raised = s.raised ∧
    (rewriteMarks rows s).arrivals = s.arrivals ∧
    (rewriteMarks rows s).pending = s.pending := by
  unfold rewriteMarks; simp

@[simp] theorem adopt_frame (rows : List Row) (s : State) :
    (adopt rows s).mp = s.mp ∧
    (adopt rows s).sp = s.sp ∧
    (adopt rows s).transaction = s.transaction ∧
    (adopt rows s).trainLinks = s.trainLinks ∧
    (adopt rows s).clock = s.clock ∧
    (adopt rows s).cavern = s.cavern ∧
    (adopt rows s).tanks = s.tanks ∧
    (adopt rows s).trains = s.trains ∧
    (adopt rows s).tables = s.tables ∧
    (adopt rows s).dispatcher = s.dispatcher ∧
    (adopt rows s).loader = s.loader ∧
    (adopt rows s).raised = s.raised ∧
    (adopt rows s).arrivals = s.arrivals ∧
    (adopt rows s).pending = s.pending := by
  unfold adopt; simp

/-! ### Commitment Store -/

@[simp] theorem setCommitments_frame (records : List Commitment) (s : State) :
    (setCommitments records s).mp = s.mp ∧
    (setCommitments records s).sp = s.sp ∧
    (setCommitments records s).transaction = s.transaction ∧
    (setCommitments records s).sticky = s.sticky ∧
    (setCommitments records s).trainLinks = s.trainLinks ∧
    (setCommitments records s).clock = s.clock ∧
    (setCommitments records s).projector = s.projector ∧
    (setCommitments records s).cavern = s.cavern ∧
    (setCommitments records s).tanks = s.tanks ∧
    (setCommitments records s).trains = s.trains ∧
    (setCommitments records s).tables = s.tables ∧
    (setCommitments records s).dispatcher = s.dispatcher ∧
    (setCommitments records s).loader = s.loader ∧
    (setCommitments records s).raised = s.raised ∧
    (setCommitments records s).arrivals = s.arrivals ∧
    (setCommitments records s).pending = s.pending := by
  unfold setCommitments; (repeat' split) <;> simp

@[simp] theorem enterRecord_frame (r : Commitment) (s : State) :
    (enterRecord r s).mp = s.mp ∧
    (enterRecord r s).sp = s.sp ∧
    (enterRecord r s).transaction = s.transaction ∧
    (enterRecord r s).sticky = s.sticky ∧
    (enterRecord r s).trainLinks = s.trainLinks ∧
    (enterRecord r s).clock = s.clock ∧
    (enterRecord r s).projector = s.projector ∧
    (enterRecord r s).cavern = s.cavern ∧
    (enterRecord r s).tanks = s.tanks ∧
    (enterRecord r s).trains = s.trains ∧
    (enterRecord r s).tables = s.tables ∧
    (enterRecord r s).dispatcher = s.dispatcher ∧
    (enterRecord r s).loader = s.loader ∧
    (enterRecord r s).raised = s.raised ∧
    (enterRecord r s).arrivals = s.arrivals ∧
    (enterRecord r s).pending = s.pending := by
  unfold enterRecord; (repeat' split) <;> simp

@[simp] theorem setQueue_frame (q : List Entry) (s : State) :
    (setQueue q s).mp = s.mp ∧
    (setQueue q s).sp = s.sp ∧
    (setQueue q s).transaction = s.transaction ∧
    (setQueue q s).sticky = s.sticky ∧
    (setQueue q s).trainLinks = s.trainLinks ∧
    (setQueue q s).clock = s.clock ∧
    (setQueue q s).projector = s.projector ∧
    (setQueue q s).cavern = s.cavern ∧
    (setQueue q s).tanks = s.tanks ∧
    (setQueue q s).trains = s.trains ∧
    (setQueue q s).tables = s.tables ∧
    (setQueue q s).dispatcher = s.dispatcher ∧
    (setQueue q s).loader = s.loader ∧
    (setQueue q s).raised = s.raised ∧
    (setQueue q s).arrivals = s.arrivals ∧
    (setQueue q s).pending = s.pending := by
  unfold setQueue; (repeat' split) <;> simp

@[simp] theorem setInService_frame (e : Option Entry) (s : State) :
    (setInService e s).mp = s.mp ∧
    (setInService e s).sp = s.sp ∧
    (setInService e s).transaction = s.transaction ∧
    (setInService e s).sticky = s.sticky ∧
    (setInService e s).trainLinks = s.trainLinks ∧
    (setInService e s).clock = s.clock ∧
    (setInService e s).projector = s.projector ∧
    (setInService e s).cavern = s.cavern ∧
    (setInService e s).tanks = s.tanks ∧
    (setInService e s).trains = s.trains ∧
    (setInService e s).tables = s.tables ∧
    (setInService e s).dispatcher = s.dispatcher ∧
    (setInService e s).loader = s.loader ∧
    (setInService e s).raised = s.raised ∧
    (setInService e s).arrivals = s.arrivals ∧
    (setInService e s).pending = s.pending := by
  unfold setInService; (repeat' split) <;> simp

@[simp] theorem noticeIfActive_frame (c : Commitment) (s : State) :
    (noticeIfActive c s).mp = s.mp ∧
    (noticeIfActive c s).sp = s.sp ∧
    (noticeIfActive c s).transaction = s.transaction ∧
    (noticeIfActive c s).sticky = s.sticky ∧
    (noticeIfActive c s).trainLinks = s.trainLinks ∧
    (noticeIfActive c s).clock = s.clock ∧
    (noticeIfActive c s).store = s.store ∧
    (noticeIfActive c s).projector = s.projector ∧
    (noticeIfActive c s).cavern = s.cavern ∧
    (noticeIfActive c s).tanks = s.tanks ∧
    (noticeIfActive c s).trains = s.trains ∧
    (noticeIfActive c s).tables = s.tables ∧
    (noticeIfActive c s).dispatcher = s.dispatcher ∧
    (noticeIfActive c s).loader = s.loader ∧
    (noticeIfActive c s).arrivals = s.arrivals ∧
    (noticeIfActive c s).pending = s.pending := by
  unfold noticeIfActive; (repeat' split) <;> simp

@[simp] theorem serveEnter_frame (e : Entry) (r : EnterRequest) (s : State) :
    (serveEnter e r s).transaction = s.transaction ∧
    (serveEnter e r s).sticky = s.sticky ∧
    (serveEnter e r s).trainLinks = s.trainLinks ∧
    (serveEnter e r s).clock = s.clock ∧
    (serveEnter e r s).cavern = s.cavern ∧
    (serveEnter e r s).tanks = s.tanks ∧
    (serveEnter e r s).trains = s.trains ∧
    (serveEnter e r s).dispatcher = s.dispatcher ∧
    (serveEnter e r s).loader = s.loader ∧
    (serveEnter e r s).arrivals = s.arrivals ∧
    (serveEnter e r s).pending = s.pending := by
  unfold serveEnter; (repeat' split) <;> simp

@[simp] theorem serveRemoval_frame (e : Entry) (reply : Reply) (c : Commitment) (s : State) :
    (serveRemoval e reply c s).transaction = s.transaction ∧
    (serveRemoval e reply c s).sticky = s.sticky ∧
    (serveRemoval e reply c s).trainLinks = s.trainLinks ∧
    (serveRemoval e reply c s).clock = s.clock ∧
    (serveRemoval e reply c s).cavern = s.cavern ∧
    (serveRemoval e reply c s).tanks = s.tanks ∧
    (serveRemoval e reply c s).trains = s.trains ∧
    (serveRemoval e reply c s).dispatcher = s.dispatcher ∧
    (serveRemoval e reply c s).loader = s.loader ∧
    (serveRemoval e reply c s).arrivals = s.arrivals ∧
    (serveRemoval e reply c s).pending = s.pending := by
  unfold serveRemoval; dsimp only; split <;> simp

@[simp] theorem serveAmend_frame (e : Entry) (q : AmendRequest) (c : Commitment) (s : State) :
    (serveAmend e q c s).transaction = s.transaction ∧
    (serveAmend e q c s).sticky = s.sticky ∧
    (serveAmend e q c s).trainLinks = s.trainLinks ∧
    (serveAmend e q c s).clock = s.clock ∧
    (serveAmend e q c s).cavern = s.cavern ∧
    (serveAmend e q c s).tanks = s.tanks ∧
    (serveAmend e q c s).trains = s.trains ∧
    (serveAmend e q c s).dispatcher = s.dispatcher ∧
    (serveAmend e q c s).loader = s.loader ∧
    (serveAmend e q c s).arrivals = s.arrivals ∧
    (serveAmend e q c s).pending = s.pending := by
  unfold serveAmend; dsimp only; (repeat' split) <;> simp

@[simp] theorem serveConfirm_frame (e : Entry) (c : Commitment) (s : State) :
    (serveConfirm e c s).transaction = s.transaction ∧
    (serveConfirm e c s).sticky = s.sticky ∧
    (serveConfirm e c s).trainLinks = s.trainLinks ∧
    (serveConfirm e c s).clock = s.clock ∧
    (serveConfirm e c s).cavern = s.cavern ∧
    (serveConfirm e c s).tanks = s.tanks ∧
    (serveConfirm e c s).trains = s.trains ∧
    (serveConfirm e c s).dispatcher = s.dispatcher ∧
    (serveConfirm e c s).loader = s.loader ∧
    (serveConfirm e c s).arrivals = s.arrivals ∧
    (serveConfirm e c s).pending = s.pending := by
  unfold serveConfirm; (repeat' split) <;> simp

@[simp] theorem serveOutage_frame (e : Entry) (q : OutageRequest) (s : State) :
    (serveOutage e q s).transaction = s.transaction ∧
    (serveOutage e q s).sticky = s.sticky ∧
    (serveOutage e q s).trainLinks = s.trainLinks ∧
    (serveOutage e q s).clock = s.clock ∧
    (serveOutage e q s).cavern = s.cavern ∧
    (serveOutage e q s).tanks = s.tanks ∧
    (serveOutage e q s).trains = s.trains ∧
    (serveOutage e q s).dispatcher = s.dispatcher ∧
    (serveOutage e q s).loader = s.loader ∧
    (serveOutage e q s).arrivals = s.arrivals ∧
    (serveOutage e q s).pending = s.pending := by
  unfold serveOutage; dsimp only; split <;> simp

@[simp] theorem serveRetireOutage_frame (e : Entry) (h : Nat) (s : State) :
    (serveRetireOutage e h s).transaction = s.transaction ∧
    (serveRetireOutage e h s).sticky = s.sticky ∧
    (serveRetireOutage e h s).trainLinks = s.trainLinks ∧
    (serveRetireOutage e h s).clock = s.clock ∧
    (serveRetireOutage e h s).cavern = s.cavern ∧
    (serveRetireOutage e h s).tanks = s.tanks ∧
    (serveRetireOutage e h s).trains = s.trains ∧
    (serveRetireOutage e h s).dispatcher = s.dispatcher ∧
    (serveRetireOutage e h s).loader = s.loader ∧
    (serveRetireOutage e h s).arrivals = s.arrivals ∧
    (serveRetireOutage e h s).pending = s.pending := by
  unfold serveRetireOutage; (repeat' split) <;> simp

@[simp] theorem serveEntry_frame (e : Entry) (s : State) :
    (serveEntry e s).transaction = s.transaction ∧
    (serveEntry e s).sticky = s.sticky ∧
    (serveEntry e s).trainLinks = s.trainLinks ∧
    (serveEntry e s).clock = s.clock ∧
    (serveEntry e s).cavern = s.cavern ∧
    (serveEntry e s).tanks = s.tanks ∧
    (serveEntry e s).trains = s.trains ∧
    (serveEntry e s).dispatcher = s.dispatcher ∧
    (serveEntry e s).loader = s.loader ∧
    (serveEntry e s).arrivals = s.arrivals ∧
    (serveEntry e s).pending = s.pending := by
  unfold serveEntry serveRecord; (repeat' split) <;> simp

@[simp] theorem serveRounds_frame (n : Nat) (s : State) :
    (serveRounds n s).transaction = s.transaction ∧
    (serveRounds n s).sticky = s.sticky ∧
    (serveRounds n s).trainLinks = s.trainLinks ∧
    (serveRounds n s).clock = s.clock ∧
    (serveRounds n s).cavern = s.cavern ∧
    (serveRounds n s).tanks = s.tanks ∧
    (serveRounds n s).trains = s.trains ∧
    (serveRounds n s).dispatcher = s.dispatcher ∧
    (serveRounds n s).loader = s.loader ∧
    (serveRounds n s).arrivals = s.arrivals ∧
    (serveRounds n s).pending = s.pending := by
  induction n generalizing s with
  | zero => simp [serveRounds]
  | succ n ih =>
    unfold serveRounds
    split
    · simp
    · refine ⟨?_, ?_, ?_, ?_, ?_, ?_, ?_, ?_, ?_, ?_, ?_⟩ <;> simp [ih]

@[simp] theorem serveQueue_frame  (s : State) :
    (serveQueue s).transaction = s.transaction ∧
    (serveQueue s).sticky = s.sticky ∧
    (serveQueue s).trainLinks = s.trainLinks ∧
    (serveQueue s).clock = s.clock ∧
    (serveQueue s).cavern = s.cavern ∧
    (serveQueue s).tanks = s.tanks ∧
    (serveQueue s).trains = s.trains ∧
    (serveQueue s).dispatcher = s.dispatcher ∧
    (serveQueue s).loader = s.loader ∧
    (serveQueue s).arrivals = s.arrivals ∧
    (serveQueue s).pending = s.pending := by
  unfold serveQueue; simp

@[simp] theorem admitAmendment_frame (p : Port) (tag code : Octet) (a : Amendment) (s : State) :
    (admitAmendment p tag code a s).transaction = s.transaction ∧
    (admitAmendment p tag code a s).sticky = s.sticky ∧
    (admitAmendment p tag code a s).trainLinks = s.trainLinks ∧
    (admitAmendment p tag code a s).clock = s.clock ∧
    (admitAmendment p tag code a s).cavern = s.cavern ∧
    (admitAmendment p tag code a s).tanks = s.tanks ∧
    (admitAmendment p tag code a s).trains = s.trains ∧
    (admitAmendment p tag code a s).dispatcher = s.dispatcher ∧
    (admitAmendment p tag code a s).loader = s.loader ∧
    (admitAmendment p tag code a s).arrivals = s.arrivals ∧
    (admitAmendment p tag code a s).pending = s.pending := by
  unfold admitAmendment; dsimp only; (repeat' split) <;> simp

@[simp] theorem writeTrial_frame (t : Trial) (s : State) :
    (writeTrial t s).mp = s.mp ∧
    (writeTrial t s).sp = s.sp ∧
    (writeTrial t s).transaction = s.transaction ∧
    (writeTrial t s).sticky = s.sticky ∧
    (writeTrial t s).trainLinks = s.trainLinks ∧
    (writeTrial t s).clock = s.clock ∧
    (writeTrial t s).projector = s.projector ∧
    (writeTrial t s).cavern = s.cavern ∧
    (writeTrial t s).tanks = s.tanks ∧
    (writeTrial t s).trains = s.trains ∧
    (writeTrial t s).tables = s.tables ∧
    (writeTrial t s).dispatcher = s.dispatcher ∧
    (writeTrial t s).loader = s.loader ∧
    (writeTrial t s).raised = s.raised ∧
    (writeTrial t s).arrivals = s.arrivals ∧
    (writeTrial t s).pending = s.pending := by
  unfold writeTrial; (repeat' split) <;> simp

@[simp] theorem judgeTrial_frame (t : Trial) (e : Entry) (rows : List Row) (s : State) :
    (judgeTrial t e rows s).transaction = s.transaction ∧
    (judgeTrial t e rows s).trainLinks = s.trainLinks ∧
    (judgeTrial t e rows s).clock = s.clock ∧
    (judgeTrial t e rows s).cavern = s.cavern ∧
    (judgeTrial t e rows s).tanks = s.tanks ∧
    (judgeTrial t e rows s).trains = s.trains ∧
    (judgeTrial t e rows s).tables = s.tables ∧
    (judgeTrial t e rows s).dispatcher = s.dispatcher ∧
    (judgeTrial t e rows s).loader = s.loader ∧
    (judgeTrial t e rows s).raised = s.raised ∧
    (judgeTrial t e rows s).arrivals = s.arrivals ∧
    (judgeTrial t e rows s).pending = s.pending := by
  unfold judgeTrial; dsimp only; split <;> simp

@[simp] theorem decidePass_frame  (s : State) :
    (decidePass s).transaction = s.transaction ∧
    (decidePass s).trainLinks = s.trainLinks ∧
    (decidePass s).clock = s.clock ∧
    (decidePass s).cavern = s.cavern ∧
    (decidePass s).tanks = s.tanks ∧
    (decidePass s).trains = s.trains ∧
    (decidePass s).tables = s.tables ∧
    (decidePass s).dispatcher = s.dispatcher ∧
    (decidePass s).loader = s.loader ∧
    (decidePass s).raised = s.raised ∧
    (decidePass s).arrivals = s.arrivals ∧
    (decidePass s).pending = s.pending := by
  unfold decidePass; (repeat' split) <;> simp

@[simp] theorem completePass_frame  (s : State) :
    (completePass s).transaction = s.transaction ∧
    (completePass s).trainLinks = s.trainLinks ∧
    (completePass s).clock = s.clock ∧
    (completePass s).cavern = s.cavern ∧
    (completePass s).tanks = s.tanks ∧
    (completePass s).trains = s.trains ∧
    (completePass s).dispatcher = s.dispatcher ∧
    (completePass s).loader = s.loader ∧
    (completePass s).arrivals = s.arrivals ∧
    (completePass s).pending = s.pending := by
  unfold completePass; (repeat' split) <;> simp

@[simp] theorem answerServed_frame (reply : Reply) (s : State) :
    (answerServed reply s).transaction = s.transaction ∧
    (answerServed reply s).sticky = s.sticky ∧
    (answerServed reply s).trainLinks = s.trainLinks ∧
    (answerServed reply s).clock = s.clock ∧
    (answerServed reply s).projector = s.projector ∧
    (answerServed reply s).cavern = s.cavern ∧
    (answerServed reply s).tanks = s.tanks ∧
    (answerServed reply s).trains = s.trains ∧
    (answerServed reply s).tables = s.tables ∧
    (answerServed reply s).dispatcher = s.dispatcher ∧
    (answerServed reply s).loader = s.loader ∧
    (answerServed reply s).raised = s.raised ∧
    (answerServed reply s).arrivals = s.arrivals ∧
    (answerServed reply s).pending = s.pending := by
  unfold answerServed; (repeat' split) <;> simp

@[simp] theorem restartPass_frame  (s : State) :
    (restartPass s).transaction = s.transaction ∧
    (restartPass s).sticky = s.sticky ∧
    (restartPass s).trainLinks = s.trainLinks ∧
    (restartPass s).clock = s.clock ∧
    (restartPass s).cavern = s.cavern ∧
    (restartPass s).tanks = s.tanks ∧
    (restartPass s).trains = s.trains ∧
    (restartPass s).tables = s.tables ∧
    (restartPass s).dispatcher = s.dispatcher ∧
    (restartPass s).loader = s.loader ∧
    (restartPass s).raised = s.raised ∧
    (restartPass s).arrivals = s.arrivals ∧
    (restartPass s).pending = s.pending := by
  unfold restartPass; (repeat' split) <;> simp

@[simp] theorem shiftForBoundary_frame (b : Boundary) (s : State) :
    (shiftForBoundary b s).transaction = s.transaction ∧
    (shiftForBoundary b s).trainLinks = s.trainLinks ∧
    (shiftForBoundary b s).clock = s.clock ∧
    (shiftForBoundary b s).cavern = s.cavern ∧
    (shiftForBoundary b s).tanks = s.tanks ∧
    (shiftForBoundary b s).trains = s.trains ∧
    (shiftForBoundary b s).tables = s.tables ∧
    (shiftForBoundary b s).dispatcher = s.dispatcher ∧
    (shiftForBoundary b s).loader = s.loader ∧
    (shiftForBoundary b s).raised = s.raised ∧
    (shiftForBoundary b s).arrivals = s.arrivals ∧
    (shiftForBoundary b s).pending = s.pending := by
  unfold shiftForBoundary; dsimp only; split <;> simp

@[simp] theorem settleBoundary_frame (b : Boundary) (s : State) :
    (settleBoundary b s).mp = s.mp ∧
    (settleBoundary b s).sp = s.sp ∧
    (settleBoundary b s).transaction = s.transaction ∧
    (settleBoundary b s).trainLinks = s.trainLinks ∧
    (settleBoundary b s).clock = s.clock ∧
    (settleBoundary b s).projector = s.projector ∧
    (settleBoundary b s).cavern = s.cavern ∧
    (settleBoundary b s).tanks = s.tanks ∧
    (settleBoundary b s).trains = s.trains ∧
    (settleBoundary b s).tables = s.tables ∧
    (settleBoundary b s).dispatcher = s.dispatcher ∧
    (settleBoundary b s).loader = s.loader ∧
    (settleBoundary b s).arrivals = s.arrivals ∧
    (settleBoundary b s).pending = s.pending := by
  unfold settleBoundary; dsimp only; split <;> simp

@[simp] theorem deliverImbalance_frame (closed : Nat) (kwh : Int) (s : State) :
    (deliverImbalance closed kwh s).mp = s.mp ∧
    (deliverImbalance closed kwh s).sp = s.sp ∧
    (deliverImbalance closed kwh s).transaction = s.transaction ∧
    (deliverImbalance closed kwh s).sticky = s.sticky ∧
    (deliverImbalance closed kwh s).trainLinks = s.trainLinks ∧
    (deliverImbalance closed kwh s).clock = s.clock ∧
    (deliverImbalance closed kwh s).projector = s.projector ∧
    (deliverImbalance closed kwh s).cavern = s.cavern ∧
    (deliverImbalance closed kwh s).tanks = s.tanks ∧
    (deliverImbalance closed kwh s).trains = s.trains ∧
    (deliverImbalance closed kwh s).tables = s.tables ∧
    (deliverImbalance closed kwh s).dispatcher = s.dispatcher ∧
    (deliverImbalance closed kwh s).loader = s.loader ∧
    (deliverImbalance closed kwh s).raised = s.raised ∧
    (deliverImbalance closed kwh s).arrivals = s.arrivals ∧
    (deliverImbalance closed kwh s).pending = s.pending := by
  unfold deliverImbalance; (repeat' split) <;> simp

@[simp] theorem abortEntry_frame (served : Option Entry) (e : Entry) (s : State) :
    (abortEntry served s e).transaction = s.transaction ∧
    (abortEntry served s e).sticky = s.sticky ∧
    (abortEntry served s e).trainLinks = s.trainLinks ∧
    (abortEntry served s e).clock = s.clock ∧
    (abortEntry served s e).store = s.store ∧
    (abortEntry served s e).projector = s.projector ∧
    (abortEntry served s e).cavern = s.cavern ∧
    (abortEntry served s e).tanks = s.tanks ∧
    (abortEntry served s e).trains = s.trains ∧
    (abortEntry served s e).tables = s.tables ∧
    (abortEntry served s e).dispatcher = s.dispatcher ∧
    (abortEntry served s e).loader = s.loader ∧
    (abortEntry served s e).raised = s.raised ∧
    (abortEntry served s e).arrivals = s.arrivals ∧
    (abortEntry served s e).pending = s.pending := by
  unfold abortEntry; (repeat' split) <;> simp

@[simp] theorem abortAll_frame  (s : State) :
    (abortAll s).transaction = s.transaction ∧
    (abortAll s).sticky = s.sticky ∧
    (abortAll s).trainLinks = s.trainLinks ∧
    (abortAll s).clock = s.clock ∧
    (abortAll s).projector = s.projector ∧
    (abortAll s).cavern = s.cavern ∧
    (abortAll s).tanks = s.tanks ∧
    (abortAll s).trains = s.trains ∧
    (abortAll s).tables = s.tables ∧
    (abortAll s).dispatcher = s.dispatcher ∧
    (abortAll s).loader = s.loader ∧
    (abortAll s).raised = s.raised ∧
    (abortAll s).arrivals = s.arrivals ∧
    (abortAll s).pending = s.pending := by
  unfold abortAll
  exact ⟨(foldl_frame State.transaction _ _ _ fun s a => by simp).trans (by simp), (foldl_frame State.sticky _ _ _ fun s a => by simp).trans (by simp), (foldl_frame State.trainLinks _ _ _ fun s a => by simp).trans (by simp), (foldl_frame State.clock _ _ _ fun s a => by simp).trans (by simp), (foldl_frame State.projector _ _ _ fun s a => by simp).trans (by simp), (foldl_frame State.cavern _ _ _ fun s a => by simp).trans (by simp), (foldl_frame State.tanks _ _ _ fun s a => by simp).trans (by simp), (foldl_frame State.trains _ _ _ fun s a => by simp).trans (by simp), (foldl_frame State.tables _ _ _ fun s a => by simp).trans (by simp), (foldl_frame State.dispatcher _ _ _ fun s a => by simp).trans (by simp), (foldl_frame State.loader _ _ _ fun s a => by simp).trans (by simp), (foldl_frame State.raised _ _ _ fun s a => by simp).trans (by simp), (foldl_frame State.arrivals _ _ _ fun s a => by simp).trans (by simp), (foldl_frame State.pending _ _ _ fun s a => by simp).trans (by simp)⟩

@[simp] theorem resetLink_frame (p : Port) (s : State) :
    (resetLink p s).sticky = s.sticky ∧
    (resetLink p s).trainLinks = s.trainLinks ∧
    (resetLink p s).clock = s.clock ∧
    (resetLink p s).projector = s.projector ∧
    (resetLink p s).cavern = s.cavern ∧
    (resetLink p s).tanks = s.tanks ∧
    (resetLink p s).trains = s.trains ∧
    (resetLink p s).tables = s.tables ∧
    (resetLink p s).dispatcher = s.dispatcher ∧
    (resetLink p s).loader = s.loader ∧
    (resetLink p s).raised = s.raised ∧
    (resetLink p s).arrivals = s.arrivals ∧
    (resetLink p s).pending = s.pending := by
  unfold resetLink; cases p <;> simp

/-! ### Dispatcher -/

@[simp] theorem onDispatcher_frame (g : Dispatcher → Dispatcher) (s : State) :
    (onDispatcher g s).mp = s.mp ∧
    (onDispatcher g s).sp = s.sp ∧
    (onDispatcher g s).transaction = s.transaction ∧
    (onDispatcher g s).sticky = s.sticky ∧
    (onDispatcher g s).trainLinks = s.trainLinks ∧
    (onDispatcher g s).clock = s.clock ∧
    (onDispatcher g s).store = s.store ∧
    (onDispatcher g s).projector = s.projector ∧
    (onDispatcher g s).cavern = s.cavern ∧
    (onDispatcher g s).tanks = s.tanks ∧
    (onDispatcher g s).trains = s.trains ∧
    (onDispatcher g s).tables = s.tables ∧
    (onDispatcher g s).loader = s.loader ∧
    (onDispatcher g s).raised = s.raised ∧
    (onDispatcher g s).arrivals = s.arrivals ∧
    (onDispatcher g s).pending = s.pending := by
  unfold onDispatcher; (repeat' split) <;> simp

@[simp] theorem onTrain_frame (t : Train) (g : TrainContext → TrainContext) (s : State) :
    (onTrain t g s).mp = s.mp ∧
    (onTrain t g s).sp = s.sp ∧
    (onTrain t g s).transaction = s.transaction ∧
    (onTrain t g s).sticky = s.sticky ∧
    (onTrain t g s).trainLinks = s.trainLinks ∧
    (onTrain t g s).clock = s.clock ∧
    (onTrain t g s).store = s.store ∧
    (onTrain t g s).projector = s.projector ∧
    (onTrain t g s).cavern = s.cavern ∧
    (onTrain t g s).tanks = s.tanks ∧
    (onTrain t g s).tables = s.tables ∧
    (onTrain t g s).dispatcher = s.dispatcher ∧
    (onTrain t g s).loader = s.loader ∧
    (onTrain t g s).raised = s.raised ∧
    (onTrain t g s).arrivals = s.arrivals ∧
    (onTrain t g s).pending = s.pending := by
  unfold onTrain; simp [State.setTrain]

@[simp] theorem takeTarget_frame  (s : State) :
    (takeTarget s).mp = s.mp ∧
    (takeTarget s).sp = s.sp ∧
    (takeTarget s).transaction = s.transaction ∧
    (takeTarget s).sticky = s.sticky ∧
    (takeTarget s).trainLinks = s.trainLinks ∧
    (takeTarget s).clock = s.clock ∧
    (takeTarget s).store = s.store ∧
    (takeTarget s).projector = s.projector ∧
    (takeTarget s).cavern = s.cavern ∧
    (takeTarget s).tanks = s.tanks ∧
    (takeTarget s).trains = s.trains ∧
    (takeTarget s).tables = s.tables ∧
    (takeTarget s).loader = s.loader ∧
    (takeTarget s).raised = s.raised ∧
    (takeTarget s).arrivals = s.arrivals ∧
    (takeTarget s).pending = s.pending := by
  unfold takeTarget; simp

@[simp] theorem settleDirection_frame  (s : State) :
    (settleDirection s).mp = s.mp ∧
    (settleDirection s).sp = s.sp ∧
    (settleDirection s).transaction = s.transaction ∧
    (settleDirection s).sticky = s.sticky ∧
    (settleDirection s).trainLinks = s.trainLinks ∧
    (settleDirection s).clock = s.clock ∧
    (settleDirection s).store = s.store ∧
    (settleDirection s).projector = s.projector ∧
    (settleDirection s).cavern = s.cavern ∧
    (settleDirection s).tanks = s.tanks ∧
    (settleDirection s).trains = s.trains ∧
    (settleDirection s).tables = s.tables ∧
    (settleDirection s).loader = s.loader ∧
    (settleDirection s).raised = s.raised ∧
    (settleDirection s).arrivals = s.arrivals ∧
    (settleDirection s).pending = s.pending := by
  unfold settleDirection; simp

@[simp] theorem order_frame (t : Train) (c : OrderCommand) (s : State) :
    (order t c s).mp = s.mp ∧
    (order t c s).sp = s.sp ∧
    (order t c s).transaction = s.transaction ∧
    (order t c s).sticky = s.sticky ∧
    (order t c s).clock = s.clock ∧
    (order t c s).store = s.store ∧
    (order t c s).projector = s.projector ∧
    (order t c s).cavern = s.cavern ∧
    (order t c s).tanks = s.tanks ∧
    (order t c s).trains = s.trains ∧
    (order t c s).tables = s.tables ∧
    (order t c s).dispatcher = s.dispatcher ∧
    (order t c s).loader = s.loader ∧
    (order t c s).raised = s.raised ∧
    (order t c s).arrivals = s.arrivals ∧
    (order t c s).pending = s.pending := by
  unfold order; simp

@[simp] theorem orderAsStanding_frame (t : Train) (b : Bool) (s : State) :
    (orderAsStanding t b s).mp = s.mp ∧
    (orderAsStanding t b s).sp = s.sp ∧
    (orderAsStanding t b s).transaction = s.transaction ∧
    (orderAsStanding t b s).sticky = s.sticky ∧
    (orderAsStanding t b s).clock = s.clock ∧
    (orderAsStanding t b s).store = s.store ∧
    (orderAsStanding t b s).projector = s.projector ∧
    (orderAsStanding t b s).cavern = s.cavern ∧
    (orderAsStanding t b s).tanks = s.tanks ∧
    (orderAsStanding t b s).trains = s.trains ∧
    (orderAsStanding t b s).tables = s.tables ∧
    (orderAsStanding t b s).dispatcher = s.dispatcher ∧
    (orderAsStanding t b s).loader = s.loader ∧
    (orderAsStanding t b s).raised = s.raised ∧
    (orderAsStanding t b s).arrivals = s.arrivals ∧
    (orderAsStanding t b s).pending = s.pending := by
  unfold orderAsStanding; simp

@[simp] theorem unloadBelowMin_frame (t : Train) (s : State) :
    (unloadBelowMin t s).mp = s.mp ∧
    (unloadBelowMin t s).sp = s.sp ∧
    (unloadBelowMin t s).transaction = s.transaction ∧
    (unloadBelowMin t s).sticky = s.sticky ∧
    (unloadBelowMin t s).trainLinks = s.trainLinks ∧
    (unloadBelowMin t s).clock = s.clock ∧
    (unloadBelowMin t s).store = s.store ∧
    (unloadBelowMin t s).projector = s.projector ∧
    (unloadBelowMin t s).cavern = s.cavern ∧
    (unloadBelowMin t s).tanks = s.tanks ∧
    (unloadBelowMin t s).tables = s.tables ∧
    (unloadBelowMin t s).dispatcher = s.dispatcher ∧
    (unloadBelowMin t s).loader = s.loader ∧
    (unloadBelowMin t s).raised = s.raised ∧
    (unloadBelowMin t s).arrivals = s.arrivals ∧
    (unloadBelowMin t s).pending = s.pending := by
  unfold unloadBelowMin; dsimp only; (repeat' split) <;> simp [State.setTrain]

@[simp] theorem writeLowered_frame (t : Train) (v : Nat) (s : State) :
    (writeLowered t v s).mp = s.mp ∧
    (writeLowered t v s).sp = s.sp ∧
    (writeLowered t v s).transaction = s.transaction ∧
    (writeLowered t v s).sticky = s.sticky ∧
    (writeLowered t v s).trainLinks = s.trainLinks ∧
    (writeLowered t v s).clock = s.clock ∧
    (writeLowered t v s).store = s.store ∧
    (writeLowered t v s).projector = s.projector ∧
    (writeLowered t v s).cavern = s.cavern ∧
    (writeLowered t v s).tanks = s.tanks ∧
    (writeLowered t v s).tables = s.tables ∧
    (writeLowered t v s).dispatcher = s.dispatcher ∧
    (writeLowered t v s).loader = s.loader ∧
    (writeLowered t v s).raised = s.raised ∧
    (writeLowered t v s).arrivals = s.arrivals ∧
    (writeLowered t v s).pending = s.pending := by
  unfold writeLowered; (repeat' split) <;> simp

@[simp] theorem lowerSetpoint_frame (t : Train) (v : Nat) (s : State) :
    (lowerSetpoint t v s).mp = s.mp ∧
    (lowerSetpoint t v s).sp = s.sp ∧
    (lowerSetpoint t v s).transaction = s.transaction ∧
    (lowerSetpoint t v s).sticky = s.sticky ∧
    (lowerSetpoint t v s).clock = s.clock ∧
    (lowerSetpoint t v s).store = s.store ∧
    (lowerSetpoint t v s).projector = s.projector ∧
    (lowerSetpoint t v s).cavern = s.cavern ∧
    (lowerSetpoint t v s).tanks = s.tanks ∧
    (lowerSetpoint t v s).tables = s.tables ∧
    (lowerSetpoint t v s).dispatcher = s.dispatcher ∧
    (lowerSetpoint t v s).loader = s.loader ∧
    (lowerSetpoint t v s).raised = s.raised ∧
    (lowerSetpoint t v s).arrivals = s.arrivals ∧
    (lowerSetpoint t v s).pending = s.pending := by
  unfold lowerSetpoint; simp

@[simp] theorem lowerIfAbove_frame (t : Train) (s : State) :
    (lowerIfAbove s t).mp = s.mp ∧
    (lowerIfAbove s t).sp = s.sp ∧
    (lowerIfAbove s t).transaction = s.transaction ∧
    (lowerIfAbove s t).sticky = s.sticky ∧
    (lowerIfAbove s t).clock = s.clock ∧
    (lowerIfAbove s t).store = s.store ∧
    (lowerIfAbove s t).projector = s.projector ∧
    (lowerIfAbove s t).cavern = s.cavern ∧
    (lowerIfAbove s t).tanks = s.tanks ∧
    (lowerIfAbove s t).tables = s.tables ∧
    (lowerIfAbove s t).dispatcher = s.dispatcher ∧
    (lowerIfAbove s t).loader = s.loader ∧
    (lowerIfAbove s t).raised = s.raised ∧
    (lowerIfAbove s t).arrivals = s.arrivals ∧
    (lowerIfAbove s t).pending = s.pending := by
  unfold lowerIfAbove; split <;> simp

@[simp] theorem lowerAll_frame  (s : State) :
    (lowerAll s).mp = s.mp ∧
    (lowerAll s).sp = s.sp ∧
    (lowerAll s).transaction = s.transaction ∧
    (lowerAll s).sticky = s.sticky ∧
    (lowerAll s).clock = s.clock ∧
    (lowerAll s).store = s.store ∧
    (lowerAll s).projector = s.projector ∧
    (lowerAll s).cavern = s.cavern ∧
    (lowerAll s).tanks = s.tanks ∧
    (lowerAll s).tables = s.tables ∧
    (lowerAll s).dispatcher = s.dispatcher ∧
    (lowerAll s).loader = s.loader ∧
    (lowerAll s).raised = s.raised ∧
    (lowerAll s).arrivals = s.arrivals ∧
    (lowerAll s).pending = s.pending := by
  unfold lowerAll
  exact ⟨foldl_frame State.mp _ _ _ fun s a => by simp,
    foldl_frame State.sp _ _ _ fun s a => by simp,
    foldl_frame State.transaction _ _ _ fun s a => by simp,
    foldl_frame State.sticky _ _ _ fun s a => by simp,
    foldl_frame State.clock _ _ _ fun s a => by simp,
    foldl_frame State.store _ _ _ fun s a => by simp,
    foldl_frame State.projector _ _ _ fun s a => by simp,
    foldl_frame State.cavern _ _ _ fun s a => by simp,
    foldl_frame State.tanks _ _ _ fun s a => by simp,
    foldl_frame State.tables _ _ _ fun s a => by simp,
    foldl_frame State.dispatcher _ _ _ fun s a => by simp,
    foldl_frame State.loader _ _ _ fun s a => by simp,
    foldl_frame State.raised _ _ _ fun s a => by simp,
    foldl_frame State.arrivals _ _ _ fun s a => by simp,
    foldl_frame State.pending _ _ _ fun s a => by simp⟩

@[simp] theorem stopDecisions_frame (k : TrainKind) (n : Nat) (s : State) :
    (stopDecisions k n s).mp = s.mp ∧
    (stopDecisions k n s).sp = s.sp ∧
    (stopDecisions k n s).transaction = s.transaction ∧
    (stopDecisions k n s).sticky = s.sticky ∧
    (stopDecisions k n s).trainLinks = s.trainLinks ∧
    (stopDecisions k n s).clock = s.clock ∧
    (stopDecisions k n s).store = s.store ∧
    (stopDecisions k n s).projector = s.projector ∧
    (stopDecisions k n s).cavern = s.cavern ∧
    (stopDecisions k n s).tanks = s.tanks ∧
    (stopDecisions k n s).tables = s.tables ∧
    (stopDecisions k n s).dispatcher = s.dispatcher ∧
    (stopDecisions k n s).loader = s.loader ∧
    (stopDecisions k n s).raised = s.raised ∧
    (stopDecisions k n s).arrivals = s.arrivals ∧
    (stopDecisions k n s).pending = s.pending := by
  induction n generalizing s with
  | zero => simp [stopDecisions]
  | succ n ih =>
    unfold stopDecisions
    (repeat' split) <;> simp [ih]

@[simp] theorem startTrain_frame (t : Train) (d : Descriptor) (s : State) :
    (startTrain t d s).mp = s.mp ∧
    (startTrain t d s).sp = s.sp ∧
    (startTrain t d s).transaction = s.transaction ∧
    (startTrain t d s).sticky = s.sticky ∧
    (startTrain t d s).clock = s.clock ∧
    (startTrain t d s).store = s.store ∧
    (startTrain t d s).projector = s.projector ∧
    (startTrain t d s).cavern = s.cavern ∧
    (startTrain t d s).tanks = s.tanks ∧
    (startTrain t d s).tables = s.tables ∧
    (startTrain t d s).dispatcher = s.dispatcher ∧
    (startTrain t d s).loader = s.loader ∧
    (startTrain t d s).raised = s.raised ∧
    (startTrain t d s).arrivals = s.arrivals ∧
    (startTrain t d s).pending = s.pending := by
  unfold startTrain; simp [State.setTrain]

@[simp] theorem startDecisions_frame (k : TrainKind) (n : Nat) (s : State) :
    (startDecisions k n s).mp = s.mp ∧
    (startDecisions k n s).sp = s.sp ∧
    (startDecisions k n s).transaction = s.transaction ∧
    (startDecisions k n s).sticky = s.sticky ∧
    (startDecisions k n s).clock = s.clock ∧
    (startDecisions k n s).store = s.store ∧
    (startDecisions k n s).projector = s.projector ∧
    (startDecisions k n s).cavern = s.cavern ∧
    (startDecisions k n s).tanks = s.tanks ∧
    (startDecisions k n s).tables = s.tables ∧
    (startDecisions k n s).loader = s.loader ∧
    (startDecisions k n s).raised = s.raised ∧
    (startDecisions k n s).arrivals = s.arrivals ∧
    (startDecisions k n s).pending = s.pending := by
  induction n generalizing s with
  | zero => simp [startDecisions]
  | succ n ih =>
    unfold startDecisions
    dsimp only
    (repeat' split) <;> simp [ih]

@[simp] theorem writeShares_frame (shares : List (Train × Nat)) (s : State) :
    (writeShares shares s).mp = s.mp ∧
    (writeShares shares s).sp = s.sp ∧
    (writeShares shares s).transaction = s.transaction ∧
    (writeShares shares s).sticky = s.sticky ∧
    (writeShares shares s).trainLinks = s.trainLinks ∧
    (writeShares shares s).clock = s.clock ∧
    (writeShares shares s).store = s.store ∧
    (writeShares shares s).projector = s.projector ∧
    (writeShares shares s).cavern = s.cavern ∧
    (writeShares shares s).tanks = s.tanks ∧
    (writeShares shares s).tables = s.tables ∧
    (writeShares shares s).dispatcher = s.dispatcher ∧
    (writeShares shares s).loader = s.loader ∧
    (writeShares shares s).raised = s.raised ∧
    (writeShares shares s).arrivals = s.arrivals ∧
    (writeShares shares s).pending = s.pending := by
  unfold writeShares
  exact ⟨foldl_frame State.mp _ _ _ fun s a => by simp,
    foldl_frame State.sp _ _ _ fun s a => by simp,
    foldl_frame State.transaction _ _ _ fun s a => by simp,
    foldl_frame State.sticky _ _ _ fun s a => by simp,
    foldl_frame State.trainLinks _ _ _ fun s a => by simp,
    foldl_frame State.clock _ _ _ fun s a => by simp,
    foldl_frame State.store _ _ _ fun s a => by simp,
    foldl_frame State.projector _ _ _ fun s a => by simp,
    foldl_frame State.cavern _ _ _ fun s a => by simp,
    foldl_frame State.tanks _ _ _ fun s a => by simp,
    foldl_frame State.tables _ _ _ fun s a => by simp,
    foldl_frame State.dispatcher _ _ _ fun s a => by simp,
    foldl_frame State.loader _ _ _ fun s a => by simp,
    foldl_frame State.raised _ _ _ fun s a => by simp,
    foldl_frame State.arrivals _ _ _ fun s a => by simp,
    foldl_frame State.pending _ _ _ fun s a => by simp⟩

@[simp] theorem decideTrains_frame  (s : State) :
    (decideTrains s).mp = s.mp ∧
    (decideTrains s).sp = s.sp ∧
    (decideTrains s).transaction = s.transaction ∧
    (decideTrains s).sticky = s.sticky ∧
    (decideTrains s).clock = s.clock ∧
    (decideTrains s).store = s.store ∧
    (decideTrains s).projector = s.projector ∧
    (decideTrains s).cavern = s.cavern ∧
    (decideTrains s).tanks = s.tanks ∧
    (decideTrains s).tables = s.tables ∧
    (decideTrains s).loader = s.loader ∧
    (decideTrains s).raised = s.raised ∧
    (decideTrains s).arrivals = s.arrivals ∧
    (decideTrains s).pending = s.pending := by
  unfold decideTrains; dsimp only; split <;> simp

@[simp] theorem closeSegment_frame  (s : State) :
    (closeSegment s).mp = s.mp ∧
    (closeSegment s).sp = s.sp ∧
    (closeSegment s).transaction = s.transaction ∧
    (closeSegment s).sticky = s.sticky ∧
    (closeSegment s).trainLinks = s.trainLinks ∧
    (closeSegment s).clock = s.clock ∧
    (closeSegment s).store = s.store ∧
    (closeSegment s).projector = s.projector ∧
    (closeSegment s).cavern = s.cavern ∧
    (closeSegment s).tanks = s.tanks ∧
    (closeSegment s).trains = s.trains ∧
    (closeSegment s).tables = s.tables ∧
    (closeSegment s).loader = s.loader ∧
    (closeSegment s).raised = s.raised ∧
    (closeSegment s).arrivals = s.arrivals ∧
    (closeSegment s).pending = s.pending := by
  unfold closeSegment; simp

@[simp] theorem takeScheduleValue_frame  (s : State) :
    (takeScheduleValue s).mp = s.mp ∧
    (takeScheduleValue s).sp = s.sp ∧
    (takeScheduleValue s).transaction = s.transaction ∧
    (takeScheduleValue s).sticky = s.sticky ∧
    (takeScheduleValue s).trainLinks = s.trainLinks ∧
    (takeScheduleValue s).clock = s.clock ∧
    (takeScheduleValue s).store = s.store ∧
    (takeScheduleValue s).projector = s.projector ∧
    (takeScheduleValue s).cavern = s.cavern ∧
    (takeScheduleValue s).tanks = s.tanks ∧
    (takeScheduleValue s).trains = s.trains ∧
    (takeScheduleValue s).tables = s.tables ∧
    (takeScheduleValue s).loader = s.loader ∧
    (takeScheduleValue s).raised = s.raised ∧
    (takeScheduleValue s).arrivals = s.arrivals ∧
    (takeScheduleValue s).pending = s.pending := by
  unfold takeScheduleValue; dsimp only; split <;> simp

@[simp] theorem addDelivered_frame (t : Train) (power ms : Nat) (s : State) :
    (addDelivered t power ms s).mp = s.mp ∧
    (addDelivered t power ms s).sp = s.sp ∧
    (addDelivered t power ms s).transaction = s.transaction ∧
    (addDelivered t power ms s).sticky = s.sticky ∧
    (addDelivered t power ms s).trainLinks = s.trainLinks ∧
    (addDelivered t power ms s).clock = s.clock ∧
    (addDelivered t power ms s).store = s.store ∧
    (addDelivered t power ms s).projector = s.projector ∧
    (addDelivered t power ms s).cavern = s.cavern ∧
    (addDelivered t power ms s).tanks = s.tanks ∧
    (addDelivered t power ms s).trains = s.trains ∧
    (addDelivered t power ms s).tables = s.tables ∧
    (addDelivered t power ms s).loader = s.loader ∧
    (addDelivered t power ms s).raised = s.raised ∧
    (addDelivered t power ms s).arrivals = s.arrivals ∧
    (addDelivered t power ms s).pending = s.pending := by
  unfold addDelivered; simp

@[simp] theorem testStop_frame  (s : State) :
    (testStop s).mp = s.mp ∧
    (testStop s).sp = s.sp ∧
    (testStop s).transaction = s.transaction ∧
    (testStop s).sticky = s.sticky ∧
    (testStop s).trainLinks = s.trainLinks ∧
    (testStop s).clock = s.clock ∧
    (testStop s).store = s.store ∧
    (testStop s).projector = s.projector ∧
    (testStop s).cavern = s.cavern ∧
    (testStop s).tanks = s.tanks ∧
    (testStop s).trains = s.trains ∧
    (testStop s).tables = s.tables ∧
    (testStop s).loader = s.loader ∧
    (testStop s).raised = s.raised ∧
    (testStop s).arrivals = s.arrivals ∧
    (testStop s).pending = s.pending := by
  unfold testStop; (repeat' split) <;> simp

@[simp] theorem evaluate_frame  (s : State) :
    (evaluate s).mp = s.mp ∧
    (evaluate s).sp = s.sp ∧
    (evaluate s).transaction = s.transaction ∧
    (evaluate s).sticky = s.sticky ∧
    (evaluate s).clock = s.clock ∧
    (evaluate s).store = s.store ∧
    (evaluate s).projector = s.projector ∧
    (evaluate s).cavern = s.cavern ∧
    (evaluate s).tanks = s.tanks ∧
    (evaluate s).tables = s.tables ∧
    (evaluate s).loader = s.loader ∧
    (evaluate s).raised = s.raised ∧
    (evaluate s).arrivals = s.arrivals ∧
    (evaluate s).pending = s.pending := by
  unfold evaluate; simp

@[simp] theorem writeFormed_frame (t : Train) (state : TrainState) (v : Nat) (s : State) :
    (writeFormed t state v s).mp = s.mp ∧
    (writeFormed t state v s).sp = s.sp ∧
    (writeFormed t state v s).transaction = s.transaction ∧
    (writeFormed t state v s).sticky = s.sticky ∧
    (writeFormed t state v s).trainLinks = s.trainLinks ∧
    (writeFormed t state v s).clock = s.clock ∧
    (writeFormed t state v s).store = s.store ∧
    (writeFormed t state v s).projector = s.projector ∧
    (writeFormed t state v s).cavern = s.cavern ∧
    (writeFormed t state v s).tanks = s.tanks ∧
    (writeFormed t state v s).tables = s.tables ∧
    (writeFormed t state v s).dispatcher = s.dispatcher ∧
    (writeFormed t state v s).loader = s.loader ∧
    (writeFormed t state v s).raised = s.raised ∧
    (writeFormed t state v s).arrivals = s.arrivals ∧
    (writeFormed t state v s).pending = s.pending := by
  unfold writeFormed; (repeat' split) <;> simp

@[simp] theorem formSetpoint_frame (t : Train) (left : TrainState) (ms : Nat) (s : State) :
    (formSetpoint t left ms s).mp = s.mp ∧
    (formSetpoint t left ms s).sp = s.sp ∧
    (formSetpoint t left ms s).transaction = s.transaction ∧
    (formSetpoint t left ms s).sticky = s.sticky ∧
    (formSetpoint t left ms s).clock = s.clock ∧
    (formSetpoint t left ms s).store = s.store ∧
    (formSetpoint t left ms s).projector = s.projector ∧
    (formSetpoint t left ms s).cavern = s.cavern ∧
    (formSetpoint t left ms s).tanks = s.tanks ∧
    (formSetpoint t left ms s).tables = s.tables ∧
    (formSetpoint t left ms s).dispatcher = s.dispatcher ∧
    (formSetpoint t left ms s).loader = s.loader ∧
    (formSetpoint t left ms s).raised = s.raised ∧
    (formSetpoint t left ms s).arrivals = s.arrivals ∧
    (formSetpoint t left ms s).pending = s.pending := by
  unfold formSetpoint; simp

@[simp] theorem handleReport_frame (t : Train) (part : ReportPart) (s : State) :
    (handleReport t part s).mp = s.mp ∧
    (handleReport t part s).sp = s.sp ∧
    (handleReport t part s).transaction = s.transaction ∧
    (handleReport t part s).sticky = s.sticky ∧
    (handleReport t part s).clock = s.clock ∧
    (handleReport t part s).store = s.store ∧
    (handleReport t part s).projector = s.projector ∧
    (handleReport t part s).cavern = s.cavern ∧
    (handleReport t part s).tanks = s.tanks ∧
    (handleReport t part s).tables = s.tables ∧
    (handleReport t part s).loader = s.loader ∧
    (handleReport t part s).raised = s.raised ∧
    (handleReport t part s).arrivals = s.arrivals ∧
    (handleReport t part s).pending = s.pending := by
  unfold handleReport; simp

@[simp] theorem closeInterval_frame (b : Boundary) (s : State) :
    (closeInterval b s).mp = s.mp ∧
    (closeInterval b s).sp = s.sp ∧
    (closeInterval b s).transaction = s.transaction ∧
    (closeInterval b s).sticky = s.sticky ∧
    (closeInterval b s).clock = s.clock ∧
    (closeInterval b s).store = s.store ∧
    (closeInterval b s).projector = s.projector ∧
    (closeInterval b s).cavern = s.cavern ∧
    (closeInterval b s).tanks = s.tanks ∧
    (closeInterval b s).loader = s.loader ∧
    (closeInterval b s).arrivals = s.arrivals ∧
    (closeInterval b s).pending = s.pending := by
  unfold closeInterval; simp

@[simp] theorem resetTrain_frame (t : Train) (s : State) :
    (resetTrain s t).mp = s.mp ∧
    (resetTrain s t).sp = s.sp ∧
    (resetTrain s t).transaction = s.transaction ∧
    (resetTrain s t).sticky = s.sticky ∧
    (resetTrain s t).clock = s.clock ∧
    (resetTrain s t).store = s.store ∧
    (resetTrain s t).projector = s.projector ∧
    (resetTrain s t).cavern = s.cavern ∧
    (resetTrain s t).tanks = s.tanks ∧
    (resetTrain s t).tables = s.tables ∧
    (resetTrain s t).dispatcher = s.dispatcher ∧
    (resetTrain s t).loader = s.loader ∧
    (resetTrain s t).raised = s.raised ∧
    (resetTrain s t).arrivals = s.arrivals ∧
    (resetTrain s t).pending = s.pending := by
  unfold resetTrain; dsimp only; split <;> simp

@[simp] theorem resetTrains_frame  (s : State) :
    (resetTrains s).mp = s.mp ∧
    (resetTrains s).sp = s.sp ∧
    (resetTrains s).transaction = s.transaction ∧
    (resetTrains s).sticky = s.sticky ∧
    (resetTrains s).clock = s.clock ∧
    (resetTrains s).store = s.store ∧
    (resetTrains s).projector = s.projector ∧
    (resetTrains s).cavern = s.cavern ∧
    (resetTrains s).tanks = s.tanks ∧
    (resetTrains s).tables = s.tables ∧
    (resetTrains s).dispatcher = s.dispatcher ∧
    (resetTrains s).loader = s.loader ∧
    (resetTrains s).arrivals = s.arrivals ∧
    (resetTrains s).pending = s.pending := by
  unfold resetTrains
  exact ⟨(by simpa using foldl_frame State.mp resetTrain allTrains s fun s a => by simp), (by simpa using foldl_frame State.sp resetTrain allTrains s fun s a => by simp), (by simpa using foldl_frame State.transaction resetTrain allTrains s fun s a => by simp), (by simpa using foldl_frame State.sticky resetTrain allTrains s fun s a => by simp), (by simpa using foldl_frame State.clock resetTrain allTrains s fun s a => by simp), (by simpa using foldl_frame State.store resetTrain allTrains s fun s a => by simp), (by simpa using foldl_frame State.projector resetTrain allTrains s fun s a => by simp), (by simpa using foldl_frame State.cavern resetTrain allTrains s fun s a => by simp), (by simpa using foldl_frame State.tanks resetTrain allTrains s fun s a => by simp), (by simpa using foldl_frame State.tables resetTrain allTrains s fun s a => by simp), (by simpa using foldl_frame State.dispatcher resetTrain allTrains s fun s a => by simp), (by simpa using foldl_frame State.loader resetTrain allTrains s fun s a => by simp), (by simpa using foldl_frame State.arrivals resetTrain allTrains s fun s a => by simp), (by simpa using foldl_frame State.pending resetTrain allTrains s fun s a => by simp)⟩

@[simp] theorem hideCreditLimits_frame  (s : State) :
    (hideCreditLimits s).mp = s.mp ∧
    (hideCreditLimits s).sp = s.sp ∧
    (hideCreditLimits s).transaction = s.transaction ∧
    (hideCreditLimits s).sticky = s.sticky ∧
    (hideCreditLimits s).trainLinks = s.trainLinks ∧
    (hideCreditLimits s).clock = s.clock ∧
    (hideCreditLimits s).store = s.store ∧
    (hideCreditLimits s).projector = s.projector ∧
    (hideCreditLimits s).cavern = s.cavern ∧
    (hideCreditLimits s).tanks = s.tanks ∧
    (hideCreditLimits s).tables = s.tables ∧
    (hideCreditLimits s).dispatcher = s.dispatcher ∧
    (hideCreditLimits s).loader = s.loader ∧
    (hideCreditLimits s).raised = s.raised ∧
    (hideCreditLimits s).arrivals = s.arrivals ∧
    (hideCreditLimits s).pending = s.pending := by
  unfold hideCreditLimits; simp

@[simp] theorem resetDispatcher_frame  (s : State) :
    (resetDispatcher s).mp = s.mp ∧
    (resetDispatcher s).sp = s.sp ∧
    (resetDispatcher s).transaction = s.transaction ∧
    (resetDispatcher s).sticky = s.sticky ∧
    (resetDispatcher s).trainLinks = s.trainLinks ∧
    (resetDispatcher s).clock = s.clock ∧
    (resetDispatcher s).store = s.store ∧
    (resetDispatcher s).projector = s.projector ∧
    (resetDispatcher s).cavern = s.cavern ∧
    (resetDispatcher s).tanks = s.tanks ∧
    (resetDispatcher s).tables = s.tables ∧
    (resetDispatcher s).loader = s.loader ∧
    (resetDispatcher s).raised = s.raised ∧
    (resetDispatcher s).arrivals = s.arrivals ∧
    (resetDispatcher s).pending = s.pending := by
  unfold resetDispatcher; simp

@[simp] theorem expireStart_frame (t : Train) (s : State) :
    (expireStart t s).mp = s.mp ∧
    (expireStart t s).sp = s.sp ∧
    (expireStart t s).transaction = s.transaction ∧
    (expireStart t s).clock = s.clock ∧
    (expireStart t s).store = s.store ∧
    (expireStart t s).cavern = s.cavern ∧
    (expireStart t s).tanks = s.tanks ∧
    (expireStart t s).tables = s.tables ∧
    (expireStart t s).dispatcher = s.dispatcher ∧
    (expireStart t s).loader = s.loader ∧
    (expireStart t s).raised = s.raised ∧
    (expireStart t s).arrivals = s.arrivals ∧
    (expireStart t s).pending = s.pending := by
  unfold expireStart; simp

@[simp] theorem judgeStart_frame (t : Train) (s : State) :
    (judgeStart t s).mp = s.mp ∧
    (judgeStart t s).sp = s.sp ∧
    (judgeStart t s).transaction = s.transaction ∧
    (judgeStart t s).clock = s.clock ∧
    (judgeStart t s).store = s.store ∧
    (judgeStart t s).cavern = s.cavern ∧
    (judgeStart t s).tanks = s.tanks ∧
    (judgeStart t s).tables = s.tables ∧
    (judgeStart t s).dispatcher = s.dispatcher ∧
    (judgeStart t s).loader = s.loader ∧
    (judgeStart t s).raised = s.raised ∧
    (judgeStart t s).arrivals = s.arrivals ∧
    (judgeStart t s).pending = s.pending := by
  unfold judgeStart; (repeat' split) <;> simp

@[simp] theorem takeRow_frame (t : Train) (n : Nat) (row : EnvelopeRow) (s : State) :
    (takeRow t n row s).mp = s.mp ∧
    (takeRow t n row s).sp = s.sp ∧
    (takeRow t n row s).transaction = s.transaction ∧
    (takeRow t n row s).clock = s.clock ∧
    (takeRow t n row s).store = s.store ∧
    (takeRow t n row s).cavern = s.cavern ∧
    (takeRow t n row s).tanks = s.tanks ∧
    (takeRow t n row s).tables = s.tables ∧
    (takeRow t n row s).dispatcher = s.dispatcher ∧
    (takeRow t n row s).loader = s.loader ∧
    (takeRow t n row s).raised = s.raised ∧
    (takeRow t n row s).arrivals = s.arrivals ∧
    (takeRow t n row s).pending = s.pending := by
  unfold takeRow; dsimp only; split <;> simp

@[simp] theorem deselect_frame (t : Train) (s : State) :
    (deselect t s).mp = s.mp ∧
    (deselect t s).sp = s.sp ∧
    (deselect t s).transaction = s.transaction ∧
    (deselect t s).sticky = s.sticky ∧
    (deselect t s).clock = s.clock ∧
    (deselect t s).store = s.store ∧
    (deselect t s).projector = s.projector ∧
    (deselect t s).cavern = s.cavern ∧
    (deselect t s).tanks = s.tanks ∧
    (deselect t s).tables = s.tables ∧
    (deselect t s).dispatcher = s.dispatcher ∧
    (deselect t s).loader = s.loader ∧
    (deselect t s).raised = s.raised ∧
    (deselect t s).arrivals = s.arrivals ∧
    (deselect t s).pending = s.pending := by
  unfold deselect; dsimp only; (repeat' split) <;> simp [State.setTrain]

/-! ### Configuration Loader -/

@[simp] theorem onLoader_frame (g : Loader → Loader) (s : State) :
    (onLoader g s).mp = s.mp ∧
    (onLoader g s).sp = s.sp ∧
    (onLoader g s).transaction = s.transaction ∧
    (onLoader g s).sticky = s.sticky ∧
    (onLoader g s).trainLinks = s.trainLinks ∧
    (onLoader g s).clock = s.clock ∧
    (onLoader g s).store = s.store ∧
    (onLoader g s).projector = s.projector ∧
    (onLoader g s).cavern = s.cavern ∧
    (onLoader g s).tanks = s.tanks ∧
    (onLoader g s).trains = s.trains ∧
    (onLoader g s).tables = s.tables ∧
    (onLoader g s).dispatcher = s.dispatcher ∧
    (onLoader g s).raised = s.raised ∧
    (onLoader g s).arrivals = s.arrivals ∧
    (onLoader g s).pending = s.pending := by
  unfold onLoader; (repeat' split) <;> simp

@[simp] theorem expireSilence_frame (t : Train) (s : State) :
    (expireSilence t s).mp = s.mp ∧
    (expireSilence t s).sp = s.sp ∧
    (expireSilence t s).transaction = s.transaction ∧
    (expireSilence t s).trainLinks = s.trainLinks ∧
    (expireSilence t s).clock = s.clock ∧
    (expireSilence t s).store = s.store ∧
    (expireSilence t s).cavern = s.cavern ∧
    (expireSilence t s).tanks = s.tanks ∧
    (expireSilence t s).tables = s.tables ∧
    (expireSilence t s).dispatcher = s.dispatcher ∧
    (expireSilence t s).loader = s.loader ∧
    (expireSilence t s).arrivals = s.arrivals ∧
    (expireSilence t s).pending = s.pending := by
  unfold expireSilence; simp

@[simp] theorem judgeSilence_frame (t : Train) (s : State) :
    (judgeSilence s t).mp = s.mp ∧
    (judgeSilence s t).sp = s.sp ∧
    (judgeSilence s t).transaction = s.transaction ∧
    (judgeSilence s t).trainLinks = s.trainLinks ∧
    (judgeSilence s t).clock = s.clock ∧
    (judgeSilence s t).store = s.store ∧
    (judgeSilence s t).cavern = s.cavern ∧
    (judgeSilence s t).tanks = s.tanks ∧
    (judgeSilence s t).tables = s.tables ∧
    (judgeSilence s t).dispatcher = s.dispatcher ∧
    (judgeSilence s t).loader = s.loader ∧
    (judgeSilence s t).arrivals = s.arrivals ∧
    (judgeSilence s t).pending = s.pending := by
  unfold judgeSilence; split <;> simp

@[simp] theorem takeSilenceTimeout_frame (ms : Nat) (s : State) :
    (takeSilenceTimeout ms s).mp = s.mp ∧
    (takeSilenceTimeout ms s).sp = s.sp ∧
    (takeSilenceTimeout ms s).transaction = s.transaction ∧
    (takeSilenceTimeout ms s).trainLinks = s.trainLinks ∧
    (takeSilenceTimeout ms s).clock = s.clock ∧
    (takeSilenceTimeout ms s).store = s.store ∧
    (takeSilenceTimeout ms s).cavern = s.cavern ∧
    (takeSilenceTimeout ms s).tanks = s.tanks ∧
    (takeSilenceTimeout ms s).tables = s.tables ∧
    (takeSilenceTimeout ms s).dispatcher = s.dispatcher ∧
    (takeSilenceTimeout ms s).arrivals = s.arrivals ∧
    (takeSilenceTimeout ms s).pending = s.pending := by
  unfold takeSilenceTimeout
  exact ⟨(foldl_frame State.mp _ _ _ fun s a => by simp).trans (by simp), (foldl_frame State.sp _ _ _ fun s a => by simp).trans (by simp), (foldl_frame State.transaction _ _ _ fun s a => by simp).trans (by simp), (foldl_frame State.trainLinks _ _ _ fun s a => by simp).trans (by simp), (foldl_frame State.clock _ _ _ fun s a => by simp).trans (by simp), (foldl_frame State.store _ _ _ fun s a => by simp).trans (by simp), (foldl_frame State.cavern _ _ _ fun s a => by simp).trans (by simp), (foldl_frame State.tanks _ _ _ fun s a => by simp).trans (by simp), (foldl_frame State.tables _ _ _ fun s a => by simp).trans (by simp), (foldl_frame State.dispatcher _ _ _ fun s a => by simp).trans (by simp), (foldl_frame State.arrivals _ _ _ fun s a => by simp).trans (by simp), (foldl_frame State.pending _ _ _ fun s a => by simp).trans (by simp)⟩

@[simp] theorem takeRotations_frame (a b : List Train) (s : State) :
    (takeRotations a b s).mp = s.mp ∧
    (takeRotations a b s).sp = s.sp ∧
    (takeRotations a b s).transaction = s.transaction ∧
    (takeRotations a b s).sticky = s.sticky ∧
    (takeRotations a b s).clock = s.clock ∧
    (takeRotations a b s).store = s.store ∧
    (takeRotations a b s).projector = s.projector ∧
    (takeRotations a b s).cavern = s.cavern ∧
    (takeRotations a b s).tanks = s.tanks ∧
    (takeRotations a b s).tables = s.tables ∧
    (takeRotations a b s).loader = s.loader ∧
    (takeRotations a b s).raised = s.raised ∧
    (takeRotations a b s).arrivals = s.arrivals ∧
    (takeRotations a b s).pending = s.pending := by
  unfold takeRotations; simp

@[simp] theorem bindTrain_frame (t : Train) (b : Tank × Option Nat) (s : State) :
    (bindTrain t b s).mp = s.mp ∧
    (bindTrain t b s).sp = s.sp ∧
    (bindTrain t b s).transaction = s.transaction ∧
    (bindTrain t b s).clock = s.clock ∧
    (bindTrain t b s).store = s.store ∧
    (bindTrain t b s).cavern = s.cavern ∧
    (bindTrain t b s).tanks = s.tanks ∧
    (bindTrain t b s).tables = s.tables ∧
    (bindTrain t b s).dispatcher = s.dispatcher ∧
    (bindTrain t b s).loader = s.loader ∧
    (bindTrain t b s).raised = s.raised ∧
    (bindTrain t b s).arrivals = s.arrivals ∧
    (bindTrain t b s).pending = s.pending := by
  unfold bindTrain; dsimp only; (repeat' split) <;> simp

@[simp] theorem takeBindings_frame (b : PerTrain (Tank × Option Nat)) (s : State) :
    (takeBindings b s).mp = s.mp ∧
    (takeBindings b s).sp = s.sp ∧
    (takeBindings b s).transaction = s.transaction ∧
    (takeBindings b s).clock = s.clock ∧
    (takeBindings b s).store = s.store ∧
    (takeBindings b s).cavern = s.cavern ∧
    (takeBindings b s).tanks = s.tanks ∧
    (takeBindings b s).tables = s.tables ∧
    (takeBindings b s).dispatcher = s.dispatcher ∧
    (takeBindings b s).loader = s.loader ∧
    (takeBindings b s).arrivals = s.arrivals ∧
    (takeBindings b s).pending = s.pending := by
  have h : ∀ {β : Type} (g : State → β), (∀ t c k, g (bindTrain t c k) = g k) →
      g (allTrains.foldl (fun k t => bindTrain t (b.get t) k) s) = g s := fun g hg =>
    foldl_frame g _ _ _ fun k t => hg t _ k
  unfold takeBindings
  simp [h]

@[simp] theorem takeItem_frame (i : ConfigItem) (s : State) :
    (takeItem i s).mp = s.mp ∧
    (takeItem i s).sp = s.sp ∧
    (takeItem i s).transaction = s.transaction ∧
    (takeItem i s).store = s.store ∧
    (takeItem i s).arrivals = s.arrivals ∧
    (takeItem i s).pending = s.pending := by
  unfold takeItem; split <;> simp

@[simp] theorem takeValid_frame (i : ConfigItem) (s : State) :
    (takeValid i s).mp = s.mp ∧
    (takeValid i s).sp = s.sp ∧
    (takeValid i s).transaction = s.transaction ∧
    (takeValid i s).store = s.store ∧
    (takeValid i s).arrivals = s.arrivals ∧
    (takeValid i s).pending = s.pending := by
  unfold takeValid; simp

@[simp] theorem configured_frame  (s : State) :
    (configured s).mp = s.mp ∧
    (configured s).sp = s.sp ∧
    (configured s).transaction = s.transaction ∧
    (configured s).sticky = s.sticky ∧
    (configured s).trainLinks = s.trainLinks ∧
    (configured s).clock = s.clock ∧
    (configured s).store = s.store ∧
    (configured s).cavern = s.cavern ∧
    (configured s).tanks = s.tanks ∧
    (configured s).trains = s.trains ∧
    (configured s).tables = s.tables ∧
    (configured s).loader = s.loader ∧
    (configured s).raised = s.raised ∧
    (configured s).arrivals = s.arrivals ∧
    (configured s).pending = s.pending := by
  unfold configured; (repeat' split) <;> simp

@[simp] theorem endLoad_frame  (s : State) :
    (endLoad s).mp = s.mp ∧
    (endLoad s).sp = s.sp ∧
    (endLoad s).transaction = s.transaction ∧
    (endLoad s).sticky = s.sticky ∧
    (endLoad s).trainLinks = s.trainLinks ∧
    (endLoad s).clock = s.clock ∧
    (endLoad s).store = s.store ∧
    (endLoad s).cavern = s.cavern ∧
    (endLoad s).tanks = s.tanks ∧
    (endLoad s).trains = s.trains ∧
    (endLoad s).tables = s.tables ∧
    (endLoad s).raised = s.raised ∧
    (endLoad s).arrivals = s.arrivals ∧
    (endLoad s).pending = s.pending := by
  unfold endLoad; (repeat' split) <;> simp

@[simp] theorem judgeLoad_frame (memory : List Octet) (s : State) :
    (judgeLoad memory s).mp = s.mp ∧
    (judgeLoad memory s).sp = s.sp ∧
    (judgeLoad memory s).transaction = s.transaction ∧
    (judgeLoad memory s).trainLinks = s.trainLinks ∧
    (judgeLoad memory s).clock = s.clock ∧
    (judgeLoad memory s).store = s.store ∧
    (judgeLoad memory s).cavern = s.cavern ∧
    (judgeLoad memory s).tanks = s.tanks ∧
    (judgeLoad memory s).trains = s.trains ∧
    (judgeLoad memory s).tables = s.tables ∧
    (judgeLoad memory s).arrivals = s.arrivals ∧
    (judgeLoad memory s).pending = s.pending := by
  unfold judgeLoad; simp

end Sys2Proof.Machine
end

