-- ==== Sys2Proof/Laws/Octets.lean ====
section
/-!
SUPPORT. Reading what was written: each reader of body fields gives back the field its encoding stands for (R31), one
lemma per kind of field and one per request body.
-/
namespace Sys2Proof.Machine

/-! ### Readers in sequence -/

theorem parser_bind {α β : Type} (x : Parser α) (g : α → Parser β) (at_ : Nat × List Octet) :
    (x >>= g) at_ =
      match x at_ with
      | .error e => .error e
      | .ok (a, next) => g a next := by
  show StateT.bind x g at_ = _
  unfold StateT.bind
  cases x at_ with
  | error e => rfl
  | ok v => rfl

theorem parser_pure {α : Type} (a : α) (at_ : Nat × List Octet) : (pure a : Parser α) at_ = .ok (a, at_) := rfl

/-! ### Single fields -/

theorem parseU8_u8 (k n : Nat) (rest : List Octet) (h : n < 256) :
    parseU8 (k, u8 n ++ rest) = .ok (n, (k + 1, rest)) := by
  have hn : n % 256 = n := Nat.mod_eq_of_lt h
  simp [parseU8, parser_bind, parseOctet, parser_pure, u8, hn]

theorem parseU16_u16 (k n : Nat) (rest : List Octet) (h : n < 65536) :
    parseU16 (k, u16 n ++ rest) = .ok (n, (k + 2, rest)) := by
  have h1 : u8 n = u8 (n % 256) := by
    simp only [u8]
    congr 1
    exact BitVec.eq_of_toNat_eq (by simp)
  have h2 : u16 n ++ rest = u8 (n / 256) ++ (u8 (n % 256) ++ rest) := by simp [u16, ← h1]
  rw [h2]
  simp only [parseU16, parser_bind]
  rw [parseU8_u8 _ _ _ (by omega)]
  dsimp only
  rw [parseU8_u8 _ _ _ (by omega)]
  simp only [parser_pure, Except.ok.injEq, Prod.mk.injEq, and_true]
  omega

theorem parseU32_u32 (k n : Nat) (rest : List Octet) (h : n < 4294967296) :
    parseU32 (k, u32 n ++ rest) = .ok (n, (k + 4, rest)) := by
  have h1 : u16 n = u16 (n % 65536) := by
    have a : n / 256 % 256 = n % 65536 / 256 := by omega
    have b : n % 256 = n % 65536 % 256 := by omega
    simp only [u16, u8]
    congr 2 <;> apply BitVec.eq_of_toNat_eq <;> simp <;> omega
  have h2 : u32 n ++ rest = u16 (n / 65536) ++ (u16 (n % 65536) ++ rest) := by simp [u32, ← h1]
  rw [h2]
  simp only [parseU32, parser_bind]
  rw [parseU16_u16 _ _ _ (by omega)]
  dsimp only
  rw [parseU16_u16 _ _ _ (by omega)]
  simp only [parser_pure, Except.ok.injEq, Prod.mk.injEq, and_true]
  omega

theorem parseS16_s16 (k : Nat) (x : Int) (rest : List Octet) (h : fitsS16 x) :
    parseS16 (k, s16 x ++ rest) = .ok (x, (k + 2, rest)) := by
  obtain ⟨h1, h2⟩ := h
  have hb : (x % 65536).toNat < 65536 := by omega
  simp only [parseS16, s16, parser_bind]
  rw [parseU16_u16 _ _ _ hb]
  simp only [parser_pure, Except.ok.injEq, Prod.mk.injEq, and_true]
  split <;> omega

/-- A field drawn from a listing. -/
theorem parseListed_u8 {α : Type} (listed : Nat → Option α) (k n : Nat) (a : α) (rest : List Octet) (h : n < 256)
    (hl : listed n = some a) : parseListed listed (k, u8 n ++ rest) = .ok (a, (k + 1, rest)) := by
  simp only [parseListed]
  rw [parseU8_u8 _ _ _ h]
  simp [hl]

theorem parseFlag_flag (k : Nat) (b : Bool) (rest : List Octet) :
    parseFlag (k, flag b ++ rest) = .ok (b, (k + 1, rest)) := by
  cases b
  · exact parseListed_u8 listedFlag k 0 false rest (by omega) rfl
  · exact parseListed_u8 listedFlag k 1 true rest (by omega) rfl

/-- An optional two-octet field. -/
theorem parseOptional_u16 (k : Nat) (m : Option Nat) (rest : List Octet) (h : ∀ v, m = some v → v < 65536) :
    ∃ k', parseOptional parseU16 (k, optional u16 m ++ rest) = .ok (m, (k', rest)) := by
  cases m with
  | none =>
    refine ⟨k + 1, ?_⟩
    simp only [parseOptional, optional, parser_bind]
    rw [show u8 0 = flag false from rfl, parseFlag_flag]
    simp [parser_pure]
  | some v =>
    refine ⟨k + 1 + 2, ?_⟩
    simp only [parseOptional, optional, parser_bind, List.append_assoc]
    rw [show u8 1 = flag true from rfl, parseFlag_flag]
    simp only [if_true, parser_bind]
    rw [parseU16_u16 _ _ _ (h v rfl)]
    simp [parser_pure]

/-- A counted run of items, each of which reads back. -/
theorem parseItems_flatMap {α : Type} (item : Parser α) (write : α → List Octet) (items : List α)
    (h : ∀ a ∈ items, ∀ k rest, ∃ k', item (k, write a ++ rest) = .ok (a, (k', rest))) (k : Nat) (rest : List Octet) :
    ∃ k', parseItems item items.length (k, items.flatMap write ++ rest) = .ok (items, (k', rest)) := by
  induction items generalizing k with
  | nil => exact ⟨k, rfl⟩
  | cons a as ih =>
    obtain ⟨k1, h1⟩ := h a (by simp) k (as.flatMap write ++ rest)
    obtain ⟨k2, h2⟩ := ih (fun b hb => h b (by simp [hb])) k1
    refine ⟨k2, ?_⟩
    simp only [List.length_cons, parseItems, parser_bind, List.flatMap_cons, List.append_assoc, h1, h2, parser_pure]

/-- A list of varying length. -/
theorem parseList_counted {α : Type} (item : Parser α) (write : α → List Octet) (items : List α)
    (hl : items.length < 256)
    (h : ∀ a ∈ items, ∀ k rest, ∃ k', item (k, write a ++ rest) = .ok (a, (k', rest))) (k : Nat) (rest : List Octet) :
    ∃ k', parseList item (k, counted write items ++ rest) = .ok (items, (k', rest)) := by
  obtain ⟨k', h'⟩ := parseItems_flatMap item write items h (k + 1) rest
  refine ⟨k', ?_⟩
  simp only [parseList, counted, parser_bind, List.append_assoc]
  rw [parseU8_u8 _ _ _ hl]
  exact h'

/-! ### Whole bodies -/

/-- A body read to its end. -/
theorem parseBody_of {α : Type} (fields : Parser α) (body : List Octet) (a : α) (k : Nat)
    (h : fields (0, body) = .ok (a, (k, []))) : parseBody fields body = .ok a := by
  simp [parseBody, h]

theorem parseBody_empty : parseBody parseEmpty [] = .ok () := rfl

theorem parseBody_u8 (n : Nat) (h : n < 256) : parseBody parseU8 (u8 n) = .ok n :=
  parseBody_of _ _ _ 1 (by simpa using parseU8_u8 0 n [] h)

theorem parseBody_u16 (n : Nat) (h : n < 65536) : parseBody parseU16 (u16 n) = .ok n :=
  parseBody_of _ _ _ 2 (by simpa using parseU16_u16 0 n [] h)

theorem parseBody_u32 (n : Nat) (h : n < 4294967296) : parseBody parseU32 (u32 n) = .ok n :=
  parseBody_of _ _ _ 4 (by simpa using parseU32_u32 0 n [] h)

theorem listed_kind (k : CommitmentKind) : listedKind (kindCode k) = some k := by cases k <;> rfl
theorem listed_standing (k : Standing) : listedStanding (standingCode k) = some k := by cases k <;> rfl
theorem listed_field (k : AmendField) : listedField (fieldCode k) = some k := by cases k <;> rfl
theorem listed_operation (k : AmendOperation) : listedOperation (operationCode k) = some k := by cases k <;> rfl
theorem listed_outageKind (k : OutageKind) : listedOutageKind (outageKindCode k) = some k := by cases k <;> rfl
theorem listed_trainKind (k : TrainKind) : listedTrainKind (trainKindCode k) = some k := by cases k <;> rfl
theorem listed_train (t : Train) : trainAt (trainIndex t) = some t := by cases t <;> rfl
theorem listed_tank (t : Tank) : tankAt (tankIndex t) = some t := by cases t <;> rfl
theorem kindCode_lt (k : CommitmentKind) : kindCode k < 256 := by cases k <;> decide
theorem standingCode_lt (k : Standing) : standingCode k < 256 := by cases k <;> decide
theorem fieldCode_lt (k : AmendField) : fieldCode k < 256 := by cases k <;> decide
theorem operationCode_lt (k : AmendOperation) : operationCode k < 256 := by cases k <;> decide
theorem outageKindCode_lt (k : OutageKind) : outageKindCode k < 256 := by cases k <;> decide
theorem trainKindCode_lt (k : TrainKind) : trainKindCode k < 256 := by cases k <;> decide
theorem trainIndex_lt (t : Train) : trainIndex t < 256 := by cases t <;> decide
theorem tankIndex_lt (t : Tank) : tankIndex t < 256 := by cases t <;> decide

theorem parseBody_train (t : Train) : parseBody (parseListed trainAt) (u8 (trainIndex t)) = .ok t :=
  parseBody_of _ _ _ 1 (by simpa using parseListed_u8 trainAt 0 _ t [] (trainIndex_lt t) (listed_train t))

theorem parseBody_tank (t : Tank) : parseBody (parseListed tankAt) (u8 (tankIndex t)) = .ok t :=
  parseBody_of _ _ _ 1 (by simpa using parseListed_u8 tankAt 0 _ t [] (tankIndex_lt t) (listed_tank t))

theorem parseBody_enter (q : EnterRequest) (h : q.encodable) : parseBody parseEnter (enterOctets q) = .ok q := by
  obtain ⟨h1, h2, h3, h4⟩ := h
  refine parseBody_of _ _ _ (0 + 1 + 1 + 4 + 1 + 2 + 4) ?_
  simp only [parseEnter, enterOctets, List.append_assoc, parser_bind]
  rw [parseListed_u8 listedKind _ _ _ _ (kindCode_lt _) (listed_kind _)]
  dsimp only
  rw [parseListed_u8 listedStanding _ _ _ _ (standingCode_lt _) (listed_standing _)]
  dsimp only
  rw [parseU32_u32 _ _ _ h1]
  dsimp only
  rw [parseU8_u8 _ _ _ h2]
  dsimp only
  rw [parseS16_s16 _ _ _ h3]
  dsimp only
  rw [show u32 q.reference = u32 q.reference ++ [] by simp, parseU32_u32 _ _ _ h4]
  rfl

theorem parseOperand_octets (field : AmendField) (x : Int) (k : Nat)
    (h : match field with
      | .power => fitsS16 x
      | .length => 0 ≤ x ∧ x < 256
      | .marketReference => 0 ≤ x ∧ x < 4294967296) :
    ∃ k', parseOperand field (k, operandOctets field x) = .ok (x, (k', [])) := by
  cases field with
  | power =>
    refine ⟨k + 2, ?_⟩
    simpa [parseOperand, operandOctets] using parseS16_s16 k x [] h
  | length =>
    refine ⟨k + 1, ?_⟩
    have hx : x.toNat < 256 := by omega
    have hc : ((x.toNat : Nat) : Int) = x := by omega
    simp only [parseOperand, operandOctets, parser_bind]
    rw [show u8 x.toNat = u8 x.toNat ++ [] by simp, parseU8_u8 _ _ _ hx]
    simp only [parser_pure, hc]
  | marketReference =>
    refine ⟨k + 4, ?_⟩
    have hx : x.toNat < 4294967296 := by omega
    have hc : ((x.toNat : Nat) : Int) = x := by omega
    simp only [parseOperand, operandOctets, parser_bind]
    rw [show u32 x.toNat = u32 x.toNat ++ [] by simp, parseU32_u32 _ _ _ hx]
    simp only [parser_pure, hc]

theorem parseBody_amend (q : AmendRequest) (h : q.encodable) : parseBody parseAmend (amendOctets q) = .ok q := by
  obtain ⟨h1, h2⟩ := h
  obtain ⟨k', hop⟩ := parseOperand_octets q.field q.operand (0 + 2 + 1 + 1 + 1) h2
  refine parseBody_of _ _ _ k' ?_
  simp only [parseAmend, amendOctets, List.append_assoc, parser_bind]
  rw [parseU16_u16 _ _ _ h1]
  dsimp only
  rw [parseListed_u8 listedField _ _ _ _ (fieldCode_lt _) (listed_field _)]
  dsimp only
  rw [parseListed_u8 listedOperation _ _ _ _ (operationCode_lt _) (listed_operation _)]
  dsimp only
  rw [parseFlag_flag]
  simp only [hop]
  rfl

theorem parseBody_deploy (h a : Nat) (hh : h < 65536) (ha : a < 65536) :
    parseBody parseDeploy (u16 h ++ u16 a) = .ok (h, a) := by
  refine parseBody_of _ _ _ (0 + 2 + 2) ?_
  simp only [parseDeploy, parser_bind]
  rw [parseU16_u16 _ _ _ hh]
  dsimp only
  rw [show u16 a = u16 a ++ [] by simp, parseU16_u16 _ _ _ ha]
  rfl

theorem parseBody_key (b : Bool) (key : Nat) (h : key < 4294967296) :
    parseBody parseKey (flag b ++ u32 key) = .ok (b, key) := by
  refine parseBody_of _ _ _ (0 + 1 + 4) ?_
  simp only [parseKey, parser_bind, listedKeyKind]
  have := parseFlag_flag 0 b (u32 key)
  rw [parseFlag] at this
  rw [this]
  dsimp only
  rw [show u32 key = u32 key ++ [] by simp, parseU32_u32 _ _ _ h]
  rfl

theorem parseBody_search (b : Bool) (handle : Nat) (h : handle < 256) :
    parseBody parseSearch (flag b ++ u8 handle) = .ok (b, handle) := by
  refine parseBody_of _ _ _ (0 + 1 + 1) ?_
  simp only [parseSearch, parser_bind, listedSearch]
  have := parseFlag_flag 0 b (u8 handle)
  rw [parseFlag] at this
  rw [this]
  dsimp only
  rw [show u8 handle = u8 handle ++ [] by simp, parseU8_u8 _ _ _ h]
  rfl

theorem parseBody_outage (q : OutageRequest) (h : q.encodable) : parseBody parseOutage (outageOctets q) = .ok q := by
  obtain ⟨h1, h2, h3⟩ := h
  obtain ⟨k', ho⟩ := parseOptional_u16 (0 + 1 + 4 + 4 + 1) q.derateMax [] h3
  refine parseBody_of _ _ _ k' ?_
  simp only [parseOutage, outageOctets, List.append_assoc, parser_bind]
  rw [parseListed_u8 trainAt _ _ _ _ (trainIndex_lt _) (listed_train _)]
  dsimp only
  rw [parseU32_u32 _ _ _ h1]
  dsimp only
  rw [parseU32_u32 _ _ _ h2]
  dsimp only
  rw [parseListed_u8 listedOutageKind _ _ _ _ (outageKindCode_lt _) (listed_outageKind _)]
  dsimp only
  rw [show optional u16 q.derateMax = optional u16 q.derateMax ++ [] by simp, ho]
  rfl

theorem parseBody_select (t : Train) (n : Nat) (h : n < 256) :
    parseBody parseSelect (u8 (trainIndex t) ++ u8 n) = .ok (t, n) := by
  refine parseBody_of _ _ _ (0 + 1 + 1) ?_
  simp only [parseSelect, parser_bind]
  rw [parseListed_u8 trainAt _ _ _ _ (trainIndex_lt _) (listed_train _)]
  dsimp only
  rw [show u8 n = u8 n ++ [] by simp, parseU8_u8 _ _ _ h]
  rfl

theorem parseBody_bind (t : Train) (tank : Tank) :
    parseBody parseBind (u8 (trainIndex t) ++ u8 (tankIndex tank)) = .ok (t, tank) := by
  refine parseBody_of _ _ _ (0 + 1 + 1) ?_
  simp only [parseBind, parser_bind]
  rw [parseListed_u8 trainAt _ _ _ _ (trainIndex_lt _) (listed_train _)]
  dsimp only
  rw [show u8 (tankIndex tank) = u8 (tankIndex tank) ++ [] by simp,
    parseListed_u8 tankAt _ _ _ _ (tankIndex_lt _) (listed_tank _)]
  rfl

theorem parseBody_amendEnvelope (n : Nat) (d : Descriptor) (hn : n < 256) (h : d.encodable) :
    parseBody parseAmendEnvelope (u8 n ++ descriptorOctets d) = .ok (n, d) := by
  obtain ⟨h1, h2, h3, h4, h5, h6, h7⟩ := h
  obtain ⟨k1, ho1⟩ := parseOptional_u16 (0 + 1 + 1 + 1 + 2 + 2) d.coldMax
    (u8 d.rampUp ++ (u8 d.rampDown ++ (u16 d.startLimit ++ (optional u16 d.heatRate ++ flag d.reserveCapable)))) h3
  obtain ⟨k2, ho2⟩ := parseOptional_u16 (k1 + 1 + 1 + 2) d.heatRate (flag d.reserveCapable) h7
  refine parseBody_of _ _ _ (k2 + 1) ?_
  simp only [parseAmendEnvelope, parseDescriptor, descriptorOctets, List.append_assoc, parser_bind]
  rw [parseU8_u8 _ _ _ hn]
  dsimp only
  rw [parseListed_u8 listedTrainKind _ _ _ _ (trainKindCode_lt _) (listed_trainKind _)]
  dsimp only
  rw [parseFlag_flag]
  dsimp only
  rw [parseU16_u16 _ _ _ h1]
  dsimp only
  rw [parseU16_u16 _ _ _ h2]
  simp only [ho1]
  rw [parseU8_u8 _ _ _ h4]
  dsimp only
  rw [parseU8_u8 _ _ _ h5]
  dsimp only
  rw [parseU16_u16 _ _ _ h6]
  simp only [ho2]
  rw [show flag d.reserveCapable = flag d.reserveCapable ++ [] by simp, parseFlag_flag]
  rfl

theorem parseBody_survey (tank : Tank) (layers : List (Nat × Nat)) (h : surveyEncodable layers) :
    parseBody parseSurvey (surveyOctets tank layers) = .ok (tank, layers) := by
  obtain ⟨h1, h2⟩ := h
  obtain ⟨k', hl⟩ := parseList_counted parseLayer surveyLayerOctets layers h1 (fun l hl k rest => by
    refine ⟨k + 2 + 4, ?_⟩
    simp only [parseLayer, surveyLayerOctets, parser_bind, List.append_assoc]
    rw [parseU16_u16 _ _ _ (h2 l hl).1]
    dsimp only
    rw [parseU32_u32 _ _ _ (h2 l hl).2]
    rfl) (0 + 1) []
  refine parseBody_of _ _ _ k' ?_
  simp only [parseSurvey, surveyOctets, parser_bind]
  rw [parseListed_u8 tankAt _ _ _ _ (tankIndex_lt _) (listed_tank _)]
  dsimp only
  rw [show counted surveyLayerOctets layers = counted surveyLayerOctets layers ++ [] by simp, hl]
  rfl

theorem parseBody_time (day second : Nat) (hd : day < 65536) (hs : second < 4294967296) :
    parseBody parseTime (u16 day ++ u32 second) = .ok (day, second) := by
  refine parseBody_of _ _ _ (0 + 2 + 4) ?_
  simp only [parseTime, parser_bind]
  rw [parseU16_u16 _ _ _ hd]
  dsimp only
  rw [show u32 second = u32 second ++ [] by simp, parseU32_u32 _ _ _ hs]
  rfl

theorem parseBody_configure (identifier : Nat) (words : List Nat) (h : configureEncodable identifier words) :
    parseBody parseConfigure (configureOctets identifier words) = .ok (identifier, words) := by
  obtain ⟨h1, h2, h3⟩ := h
  obtain ⟨k', hl⟩ := parseList_counted parseU16 u16 words h2
    (fun w hw k rest => ⟨k + 2, parseU16_u16 k w rest (h3 w hw)⟩) (0 + 1) []
  refine parseBody_of _ _ _ k' ?_
  simp only [parseConfigure, configureOctets, parser_bind]
  rw [parseU8_u8 _ _ _ h1]
  dsimp only
  rw [show counted u16 words = counted u16 words ++ [] by simp, hl]
  rfl

/-! ### Check octets (R29) -/

theorem octetSum_foldl (octets : List Octet) (start : Octet) :
    octets.foldl (· + ·) start = start + octetSum octets := by
  induction octets generalizing start with
  | nil => simp [octetSum]
  | cons o rest ih =>
    simp only [List.foldl_cons, octetSum]
    rw [ih, ih (0 + o), BitVec.add_assoc]
    congr 2
    exact (BitVec.zero_add o).symm

theorem octetSum_append (first second : List Octet) : octetSum (first ++ second) = octetSum first + octetSum second := by
  rw [octetSum, List.foldl_append, octetSum_foldl]
  rfl

/-- Octets followed by their check octet sum to zero modulo 256. -/
theorem octetSum_checkOctet (octets : List Octet) : octetSum (octets ++ [checkOctet octets]) = 0 := by
  rw [octetSum_append]
  show octetSum octets + (0 + (0 - octetSum octets)) = 0
  bv_omega

/-- A quantity of two octets is read back from them. -/
theorem wordOf_octetsOf (w : Word) : ∃ hi lo, octetsOf w = [hi, lo] ∧ wordOf hi lo = w := by
  refine ⟨_, _, rfl, ?_⟩
  apply BitVec.eq_of_toNat_eq
  simp [wordOf]
  omega

/-- Two octets are those of the quantity they spell. -/
theorem octetsOf_wordOf (hi lo : Octet) : octetsOf (wordOf hi lo) = [hi, lo] := by
  simp only [octetsOf, wordOf]
  congr 1
  · apply BitVec.eq_of_toNat_eq
    simp
    omega
  · congr 1
    apply BitVec.eq_of_toNat_eq
    simp
    omega

end Sys2Proof.Machine
end

