-- ==== Sys2Proof/Laws/Requests.lean ====
section
/-!
SUPPORT. What the admission of a request does, case by case, and what the taking of a raised event does; and that answers
and taken events leave the rest of the state as it is.
-/
namespace Sys2Proof.Machine

/-! ### Admission (R16, R17) -/

variable {α : Type} {code : Octet} {ports : Port → Bool} {fields : Parser α} {f : Frame} {s : State}

theorem takeRequest_noRoom {owner : Port → Octet → α → State → State}
    (h : hasRoom (viaPort f.via) (received f s) = false) :
    takeRequest code ports fields owner f s = received f s := by
  simp [takeRequest, h]

theorem takeRequest_broken {owner : Port → Octet → α → State → State} {fault : BodyFault}
    (h : hasRoom (viaPort f.via) (received f s) = true) (hf : bodyFault fields f = some fault) :
    takeRequest code ports fields owner f s =
      respond (viaPort f.via) f.tag code (badRequest fault) (received f s) := by
  unfold bodyFault at hf
  split at hf <;> simp_all [takeRequest]

theorem takeRequest_notPermitted {owner : Port → Octet → α → State → State}
    (h : hasRoom (viaPort f.via) (received f s) = true) (hf : bodyFault fields f = none)
    (hp : ports (viaPort f.via) = false) :
    takeRequest code ports fields owner f s =
      respond (viaPort f.via) f.tag code (.bare .notPermitted) (received f s) := by
  unfold bodyFault at hf
  split at hf <;> simp_all [takeRequest]

theorem takeRequest_loading {owner : Port → Octet → α → State → State}
    (h : hasRoom (viaPort f.via) (received f s) = true) (hf : bodyFault fields f = none)
    (hp : ports (viaPort f.via) = true) (hl : (received f s).loader.loadState = .loading) :
    takeRequest code ports fields owner f s =
      respond (viaPort f.via) f.tag code (.bare .wrongState) (received f s) := by
  unfold bodyFault at hf
  split at hf <;> simp_all [takeRequest]

theorem takeRequest_admitted {owner : Port → Octet → α → State → State} {r : State} {a : α}
    (h : Admitted ports f s r) (hb : parseBody fields f.body = .ok a) :
    takeRequest code ports fields owner f s = owner (viaPort f.via) f.tag a r := by
  obtain ⟨h1, h2, h3, h4⟩ := h
  subst h1
  simp only [takeRequest, hasRoom, h3, hb, h2, h4, decide_true, if_true, reduceCtorEq, if_false]

theorem atOnce_admitted {owner : Port → α → State → Reply × State} {r : State} {a : α} (h : Admitted ports f s r)
    (hb : parseBody fields f.body = .ok a) :
    atOnce code ports fields owner f s =
      respond (viaPort f.via) f.tag code (owner (viaPort f.via) a r).1 (owner (viaPort f.via) a r).2 := by
  rw [atOnce, takeRequest_admitted h hb]

theorem lookup_admitted {answer : α → State → Reply} {r : State} {a : α} (h : Admitted bothPorts f s r)
    (hb : parseBody fields f.body = .ok a) :
    lookup code fields answer f s = respond (viaPort f.via) f.tag code (answer a r) r := by
  rw [lookup, atOnce_admitted h hb]

/-! ### Supervisory Port transactions (R15) -/

@[simp] theorem Response.frame_length (r : Response) : r.frame.length = r.frameLength := by
  simp [Response.frame, Response.frameLength, u8]

theorem responsesLeft_empty {n : Nat} {s : State} (h : s.sp.responses = []) : responsesLeft n s = [] := by
  simp [responsesLeft, h]

/-- The response that the transaction shifts out leaves the queue once every octet of it was clocked. -/
theorem responsesLeft_sent {n : Nat} {s : State} {r : Response} {rest : List Response} (h : s.sp.responses = r :: rest)
    (hs : s.shifts r = true) (hn : r.frameLength ≤ n) : responsesLeft n s = rest := by
  simp [responsesLeft, h, hs, hn]

/-- A response that was not shifted out, or not in full, stays at the head of the queue. -/
theorem responsesLeft_kept {n : Nat} {s : State} {r : Response} {rest : List Response} (h : s.sp.responses = r :: rest)
    (hs : s.shifts r = false ∨ n < r.frameLength) : responsesLeft n s = r :: rest := by
  rcases hs with hs | hs <;> simp [responsesLeft, h, hs]

/-! ### Raised events (log 2) -/

theorem takeFirst_none {α β : Type} (pick : α → Option β) (l : List α) (h : ∀ a ∈ l, pick a = none) :
    takeFirst pick l = none := by
  induction l with
  | nil => rfl
  | cons a l ih => simp [takeFirst, h a (by simp), ih fun b hb => h b (by simp [hb])]

theorem takeFirst_append {α β : Type} (pick : α → Option β) (before : List α) (a : α) (after : List α) (b : β)
    (hb : pick a = some b) (h : ∀ q ∈ before, pick q = none) :
    takeFirst pick (before ++ a :: after) = some (b, before ++ after) := by
  induction before with
  | nil => simp [takeFirst, hb]
  | cons q l ih => simp [takeFirst, h q (by simp), ih fun x hx => h x (by simp [hx])]

/-- With no event of its kind raised, a command finds nothing to handle. -/
theorem handleRaised_none {β : Type} {pick : Raised → Option β} {handle : β → State → State} {s : State}
    (h : ∀ r ∈ s.raised, pick r = none) : handleRaised pick handle s = s := by
  simp [handleRaised, takeFirst_none pick s.raised h]

/-- The oldest event of its kind is handled, and leaves the list. -/
theorem handleRaised_oldest {β : Type} {pick : Raised → Option β} {handle : β → State → State} {s : State} {event : β}
    {left : List Raised} (h : Oldest pick s.raised event left) :
    handleRaised pick handle s = handle event (s.setRaised left) := by
  obtain ⟨before, r, after, h1, h2, h3, h4⟩ := h
  simp [handleRaised, h1, takeFirst_append pick before r after event h3 h4, h2]

/-- What a taken event was: one of those raised, and those left were raised. -/
theorem takeFirst_mem {α β : Type} {pick : α → Option β} {l : List α} {b : β} {left : List α}
    (h : takeFirst pick l = some (b, left)) : (∃ a ∈ l, pick a = some b) ∧ ∀ a ∈ left, a ∈ l := by
  induction l generalizing left with
  | nil => simp [takeFirst] at h
  | cons a l ih =>
    unfold takeFirst at h
    split at h
    · simp only [Option.some.injEq, Prod.mk.injEq] at h
      obtain ⟨rfl, rfl⟩ := h
      exact ⟨⟨a, by simp, by assumption⟩, fun x hx => by simp [hx]⟩
    · cases hf : takeFirst pick l with
      | none => simp [hf] at h
      | some found =>
        simp only [hf, Option.map_some, Option.some.injEq, Prod.mk.injEq] at h
        obtain ⟨rfl, rfl⟩ := h
        obtain ⟨⟨x, hx, hp⟩, hl⟩ := ih hf
        refine ⟨⟨x, by simp [hx], hp⟩, fun y hy => ?_⟩
        simp only [List.mem_cons] at hy ⊢
        exact hy.imp id (hl y)

end Sys2Proof.Machine
end

