-- ==== Sys2Proof/Laws/Trains.lean ====
section
/-!
SUPPORT. What the operations on one train read and write: of the trains, that train's context and link alone. So the
lowerings of an evaluation, and the taking of rows by a reload or by the bindings, may be judged train by train.
-/
namespace Sys2Proof.Machine

/-- Two states agree in all that an operation on one train reads: its context and its link, and what stands outside the
Train Contexts. -/
structure SameTrain (t : Train) (s s' : State) : Prop where
  train : s'.train t = s.train t
  link : s'.trainLinks.get t = s.trainLinks.get t
  tanks : s'.tanks = s.tanks
  tables : s'.tables = s.tables
  loader : s'.loader = s.loader
  cavern : s'.cavern = s.cavern
  clock : s'.clock = s.clock
  mode : s'.dispatcher.mode = s.dispatcher.mode

namespace SameTrain

variable {t u : Train} {s s' s'' : State}

theorem refl (t : Train) (s : State) : SameTrain t s s := ⟨rfl, rfl, rfl, rfl, rfl, rfl, rfl, rfl⟩

theorem trans (h : SameTrain t s s') (k : SameTrain t s' s'') : SameTrain t s s'' :=
  ⟨k.train.trans h.train, k.link.trans h.link, k.tanks.trans h.tanks, k.tables.trans h.tables, k.loader.trans h.loader,
   k.cavern.trans h.cavern, k.clock.trans h.clock, k.mode.trans h.mode⟩

/-! ### What is read -/

theorem trainLimit (h : SameTrain t s s') : Machine.trainLimit s' t = Machine.trainLimit s t := by
  have top : topStanding s' (s.train t).boundTank = topStanding s (s.train t).boundTank := by
    simp [topStanding, State.tank, h.tanks, h.loader]
  have now : s'.interval = s.interval := by simp [State.interval, h.clock]
  unfold Machine.trainLimit currentLimit
  rw [h.train, h.tables, top, now]

theorem lowerBound (h : SameTrain t s s') : Machine.lowerBound s' t = Machine.lowerBound s t := by
  simp [Machine.lowerBound, h.trainLimit, h.cavern]

theorem creditNeed (h : SameTrain t s s') (v : Nat) : Machine.creditNeed s' t v = Machine.creditNeed s t v := by
  unfold Machine.creditNeed creditNeedIn
  rw [h.train, h.loader]

theorem orderTemperature (h : SameTrain t s s') : Machine.orderTemperature s' t = Machine.orderTemperature s t := by
  simp [Machine.orderTemperature, h.train, State.tank, h.tanks]

/-! ### What is written, on the train itself -/

theorem setTrain (h : SameTrain t s s') (c : TrainContext) : SameTrain t (s.setTrain t c) (s'.setTrain t c) :=
  ⟨by simp, h.link, h.tanks, h.tables, h.loader, h.cavern, h.clock, h.mode⟩

theorem issueOrder (h : SameTrain t s s') (o : Order) :
    SameTrain t (Machine.issueOrder t o s) (Machine.issueOrder t o s') :=
  ⟨h.train, by simp [Machine.issueOrder, h.link], h.tanks, h.tables, h.loader,
   h.cavern, h.clock, h.mode⟩

theorem order (h : SameTrain t s s') (c : OrderCommand) : SameTrain t (Machine.order t c s) (Machine.order t c s') := by
  unfold Machine.order formOrder
  rw [h.train, h.orderTemperature]
  exact h.issueOrder _

theorem orderAsStanding (h : SameTrain t s s') (b : Bool) :
    SameTrain t (Machine.orderAsStanding t b s) (Machine.orderAsStanding t b s') := by
  unfold Machine.orderAsStanding
  dsimp only
  rw [h.train, h.mode]
  exact h.order _

theorem unloadBelowMin (h : SameTrain t s s') :
    SameTrain t (Machine.unloadBelowMin t s) (Machine.unloadBelowMin t s') := by
  unfold Machine.unloadBelowMin
  dsimp only
  rw [h.train]
  split
  · exact h
  · split
    · exact h.setTrain _
    · exact h

theorem partialReturn (h : SameTrain t s s') (need : Nat) :
    SameTrain t (Machine.partialReturn t need s) (Machine.partialReturn t need s') := by
  unfold Machine.partialReturn
  dsimp only
  rw [h.train]
  exact h.setTrain _

theorem limitByCredit (h : SameTrain t s s') (v : Nat) :
    SameTrain t (Machine.limitByCredit t v s) (Machine.limitByCredit t v s') := by
  unfold Machine.limitByCredit
  dsimp only
  rw [h.train, h.loader]
  split <;> exact h.setTrain _

theorem writeLowered (h : SameTrain t s s') (v : Nat) :
    SameTrain t (Machine.writeLowered t v s) (Machine.writeLowered t v s') := by
  unfold Machine.writeLowered onTrain
  split
  · rw [h.train]
    exact h.setTrain _
  · rw [h.creditNeed]
    exact (h.partialReturn _).limitByCredit _

theorem lowerSetpoint (h : SameTrain t s s') (v : Nat) :
    SameTrain t (Machine.lowerSetpoint t v s) (Machine.lowerSetpoint t v s') := by
  unfold Machine.lowerSetpoint
  dsimp only
  rw [((h.writeLowered v).unloadBelowMin).train]
  exact ((h.writeLowered v).unloadBelowMin).orderAsStanding _

theorem lowerIfAbove (h : SameTrain t s s') : SameTrain t (Machine.lowerIfAbove s t) (Machine.lowerIfAbove s' t) := by
  unfold Machine.lowerIfAbove
  rw [h.lowerBound, h.train]
  split
  · exact h.lowerSetpoint _
  · exact h

/-! ### What is written, on any other train -/

theorem setTrain_other (h : u ≠ t) (s : State) (c : TrainContext) : SameTrain u s (s.setTrain t c) :=
  ⟨State.train_setTrain_other s t u c h, rfl, rfl, rfl, rfl, rfl, rfl, rfl⟩

theorem issueOrder_other (h : u ≠ t) (s : State) (o : Order) : SameTrain u s (Machine.issueOrder t o s) :=
  ⟨rfl, PerTrain.get_set_other _ t u _ h, rfl, rfl, rfl, rfl, rfl, rfl⟩

theorem unloadBelowMin_other (h : u ≠ t) (s : State) : SameTrain u s (Machine.unloadBelowMin t s) := by
  unfold Machine.unloadBelowMin
  dsimp only
  split
  · exact refl u s
  · split
    · exact setTrain_other h s _
    · exact refl u s

theorem limitByCredit_other (h : u ≠ t) (s : State) (v : Nat) : SameTrain u s (Machine.limitByCredit t v s) := by
  unfold Machine.limitByCredit
  dsimp only
  split <;> exact setTrain_other h s _

theorem writeLowered_other (h : u ≠ t) (s : State) (v : Nat) : SameTrain u s (Machine.writeLowered t v s) := by
  unfold Machine.writeLowered onTrain
  split
  · exact setTrain_other h s _
  · exact (setTrain_other h s _).trans (limitByCredit_other h _ v)

theorem lowerSetpoint_other (h : u ≠ t) (s : State) (v : Nat) : SameTrain u s (Machine.lowerSetpoint t v s) := by
  unfold Machine.lowerSetpoint
  dsimp only
  exact ((writeLowered_other h s v).trans (unloadBelowMin_other h _)).trans (issueOrder_other h _ _)

theorem lowerIfAbove_other (h : u ≠ t) (s : State) : SameTrain u s (Machine.lowerIfAbove s t) := by
  unfold Machine.lowerIfAbove
  split
  · exact lowerSetpoint_other h s _
  · exact refl u s

theorem moveToRest_other (h : u ≠ t) (s : State) (into : TrainState) : SameTrain u s (Machine.moveToRest t into s) := by
  have k := setTrain_other h s ((s.train t).rest into)
  unfold Machine.moveToRest triggerPassIf setEntryCondition
  dsimp only
  split <;> split <;>
    exact ⟨k.train, k.link, k.tanks, k.tables, k.loader, k.cavern, k.clock, k.mode⟩

theorem judgeStart_other (h : u ≠ t) (s : State) : SameTrain u s (Machine.judgeStart t s) := by
  unfold Machine.judgeStart
  split
  · exact (moveToRest_other h s _).trans (issueOrder_other h _ _)
  · exact refl u s

theorem takeRow_other (h : u ≠ t) (s : State) (n : Nat) (row : EnvelopeRow) :
    SameTrain u s (Machine.takeRow t n row s) := by
  unfold Machine.takeRow onTrain
  dsimp only
  refine .trans ?_ (judgeStart_other h _)
  split
  · exact (setTrain_other h s _).trans (lowerSetpoint_other h _ _)
  · exact setTrain_other h s _

theorem deselect_other (h : u ≠ t) (s : State) : SameTrain u s (Machine.deselect t s) := by
  unfold Machine.deselect
  dsimp only
  split
  · refine .trans ?_ (issueOrder_other h _ _)
    split
    · exact (setTrain_other h s _).trans (setTrain_other h _ _)
    · exact setTrain_other h s _
  · exact setTrain_other h s _

end SameTrain

/-! ### Step 5 of an evaluation (R185) -/

theorem lowerings_other (l : List Train) (u : Train) (h : u ∉ l) (s : State) :
    SameTrain u s (l.foldl lowerIfAbove s) := by
  induction l generalizing s with
  | nil => exact .refl u s
  | cons t l ih =>
    simp only [List.mem_cons, not_or] at h
    exact (SameTrain.lowerIfAbove_other h.1 s).trans (ih h.2 _)

theorem lowerings_member (l : List Train) (hl : l.Nodup) (u : Train) (h : u ∈ l) (s : State) :
    SameTrain u (lowerIfAbove s u) (l.foldl lowerIfAbove s) := by
  induction l generalizing s with
  | nil => simp at h
  | cons t l ih =>
    simp only [List.nodup_cons] at hl
    rcases List.mem_cons.1 h with rfl | hm
    · exact lowerings_other l u hl.1 _
    · have hne : u ≠ t := fun hu => hl.1 (hu ▸ hm)
      exact (SameTrain.lowerIfAbove_other hne s).lowerIfAbove.trans (ih hl.2 hm _)

/-- Each train's context and link after step 5 are those its own lowering leaves. -/
theorem lowerAll_sameTrain (s : State) (u : Train) : SameTrain u (lowerIfAbove s u) (lowerAll s) :=
  lowerings_member allTrains (by decide) u (by cases u <;> decide) s

end Sys2Proof.Machine
end

