-- ==== Sys2Proof/Tests/Slice0.lean ====
section
/-!
SUPPORT. The tests of the model: the smoke test of the well-formedness checks, single commands on small states with the
results that the spec's worked cases give, and for each statement with hypotheses concrete states and operands that meet
them, clause by clause.
-/
namespace Sys2Proof.Tests
open Sys2Proof Sys2Proof.Machine

/-! ### Small states and frames -/

/-- The state after power-on with the configuration load ended. -/
def loaded : State := State.reset.setLoader { State.reset.loader with loadState := .ended }

/-- The ended load in a given Operating Mode. -/
def inMode (m : Mode) : State := loaded.setDispatcher { loaded.dispatcher with mode := m }

/-- A state with its Clock set to an instant. -/
def atTime (day second : Nat) (s : State) : State :=
  s.setClock { s.clock with day := day, second := second, timeSet := true }

/-- A state with the given events raised. -/
def raising (events : List Raised) (s : State) : State := { s with raised := events }

/-- A state whose Cavern Account holds the given mass, Residue and Band, with the Pressure that follows. -/
def withMass (mass : Nat) (residue : Int) (band : Band) (s : State) : State :=
  s.setCavern
    { s.cavern with
      mass := mass, residue := residue, band := band,
      pressure := forwardPressure s.cavern.characteristic mass }

/-- A layer founded by a train in an interval. -/
def layer (temperature energy : Nat) (origin : Origin) (entry : Nat) : Layer :=
  { temperature := temperature, energy := energy, origin := origin, entry := entry }

/-- A surveyed Tank. -/
def surveyed (capacity : Nat) (layers : List Layer) : TankState :=
  { TankState.powerOn with capacity := capacity, layers := layers, surveyed := true }

/-- A descriptor of a compressor. -/
def compressor (minLoad maxLoad heatRate : Nat) : Descriptor :=
  { kind := .compressor, valid := true, minLoad := minLoad, maxLoad := maxLoad, coldMax := none, rampUp := 20,
    rampDown := 30, startLimit := 300, heatRate := some heatRate, reserveCapable := true }

/-- A descriptor of an expander. -/
def expander (minLoad maxLoad coldMax : Nat) : Descriptor :=
  { kind := .expander, valid := true, minLoad := minLoad, maxLoad := maxLoad, coldMax := some coldMax, rampUp := 20,
    rampDown := 30, startLimit := 300, heatRate := none, reserveCapable := true }

/-- A train in a State, with a descriptor and a Setpoint. -/
def train (tank : Tank) (state : TrainState) (d : Descriptor) (setpoint : Nat) : TrainContext :=
  { TrainContext.powerOn tank with
    state := state, selection := some { selector := 0, descriptor := d, generation := 0 }, setpoint := setpoint,
    silence := some 0 }

/-- A commitment from the Market Port. -/
def record (handle : Nat) (kind : CommitmentKind) (standing : Standing) (phase : Phase) (start length : Nat)
    (power : Int) : Commitment :=
  { handle := handle, reference := 0, kind := kind, standing := standing, phase := phase, start := start,
    length := length, power := power, deployed := 0, atRisk := none, source := .mp }

/-- A frame on the Market Port. -/
def mpFrame (body : List Octet) : Frame := { via := .mp, tag := 1, body := body }

/-- A frame in a Supervisory Port transaction. -/
def spFrame (body : List Octet) : Frame := { via := .sp 0, tag := 1, body := body }

/-- The state a command answers. -/
def after (c : Instr) (s : State) : State :=
  match exec c s with
  | .next t => t
  | .fault _ => s
  | .refused _ => s

/-- The status of the last response of a port. -/
def lastStatus (responses : List Response) : Option Status := responses.getLast?.map fun r => r.reply.status

/-- The body of the last response of a port. -/
def lastBody (responses : List Response) : Option (List Octet) := responses.getLast?.map fun r => r.reply.body

/-! ### Well-formed commands: each check refuses an ill-formed term -/

theorem test_wellFormed_frame (body : List Octet) (h : body.length = 253) :
    Instr.wellFormed (.enter (mpFrame body)) = false := by
  simp [Instr.wellFormed, Frame.wellFormed, mpFrame, h]
theorem test_wellFormed_amend : Instr.wellFormed (.amend (mpFrame [0, 1, 0, 0, 1, 0, 0])) = false := by decide
theorem test_wellFormed_preview : Instr.wellFormed (.amendPreview (mpFrame [0, 1, 0, 0, 0, 0, 0])) = false := by decide
theorem test_wellFormed_memory (memory : List Octet) (h : memory.length = 131073) :
    Instr.wellFormed (.loadEnd memory) = false := by
  simp [Instr.wellFormed, h]
theorem test_wellFormed_unknown : Instr.wellFormed (.unknownCode 0x4B (mpFrame [])) = false := by decide
theorem test_wellFormed_badCheck : Instr.wellFormed (.badCheckFrame .mp [0xA5, 3, 1, 1, 0xFB]) = false := by decide
theorem test_wellFormed_badFrame : Instr.wellFormed (.badCheckFrame .mp [0xA5, 3, 1, 1]) = false := by decide
theorem test_wellFormed_tainted : Instr.wellFormed (.taintedFrame [0xA5, 4, 1, 1, 0xFB]) = false := by decide
theorem test_wellFormed_idle : Instr.wellFormed (.spIdleTransaction [0xA5, 3]) = false := by decide
theorem test_wellFormed_report : Instr.wellFormed (.trainFrameDiscarded .k1 (List.replicate 13 0) false) = false := by decide
theorem test_wellFormed_reportLength : Instr.wellFormed (.trainFrameDiscarded .k1 [0] true) = false := by decide
theorem test_wellFormed_grantTrain : Instr.wellFormed (.heatCreditGrant .x1 100) = false := by decide
theorem test_wellFormed_deposit : Instr.wellFormed (.heatDeposit .x1) = false := by decide
theorem test_wellFormed_draw : Instr.wellFormed (.heatDraw .k1) = false := by decide
theorem test_wellFormed_grant : Instr.wellFormed (.heatCreditGrant .k1 4294967296) = false := by decide
theorem test_wellFormed_short : Instr.wellFormed (.shortLengthFrame 3) = false := by decide

/-! ### Single commands, with the results of the spec's worked cases -/

-- spec/06, 6.3.1
theorem test_forward_pressures :
    [18400000, 17750000, 17749999, 24000000, 24000001, 13999999].map (forwardPressure Config.defaultCharacteristic) =
      [5612, 5410, 5409, 7460, 7460, 4300] := by decide

/-- The account after one report of a train (spec/06, 6.4.1). -/
def integrated (t : Train) (flow elapsed mass : Nat) (residue : Int) : Nat × Int × Bool :=
  let s := after (.massIntegration t) (raising [.mass t flow elapsed] (withMass mass residue .normal loaded))
  (s.cavern.mass, s.cavern.residue, s.sticky.getLsbD 24)

theorem test_integration_x1 : integrated .x1 4125 1000 18400000 0 = (18399588, -5000, false) := by decide
theorem test_integration_k1 : integrated .k1 6400 7200 18399408 (-5449) = (18402407, 4551, true) := by decide

/-- The account after a CALIBRATE: status conditions, mass, Pressure and Band (spec/06, 6.6.1). -/
def calibrated (measured mass : Nat) (band : Band) : Nat × Nat × Band × Bool :=
  let s := after (.calibrate (spFrame (u16 measured))) (withMass mass 4551 band (inMode .standby))
  (s.cavern.mass, s.cavern.pressure, s.cavern.band, s.sticky.getLsbD 4)

theorem test_calibrate_truncates : calibrated 5612 18402407 .normal = (18397435, 5611, .normal, false) := by decide
theorem test_calibrate_outside : calibrated 4250 18402407 .normal = (14000000, 4300, .lowLimit, true) := by decide

-- spec/06, 6.6.2
theorem test_band_sequence :
    [(4799, Band.normal), (4602, .lowWarn), (4599, .lowWarn), (4734, .lowLimit), (4816, .lowLimit), (4822, .lowWarn)].map
        (fun p => evaluateBand State.reset.cavern.thresholds p.1 p.2) =
      [.lowWarn, .lowWarn, .lowLimit, .lowLimit, .lowWarn, .normal] := by decide

-- spec/07, 7.2.1
theorem test_deposit_merges :
    placeHeat 150 (layer 5860 900 .k2 78402) [layer 5800 120000 .k2 78390, layer 5600 300000 .k2 78350] =
      [layer 5800 120900 .k2 78390, layer 5600 300000 .k2 78350] := by decide

theorem test_deposit_cascades :
    placeHeat 150 (layer 4900 10000 .k3 9)
        [layer 6200 4000 .k3 1, layer 5900 1000 .k3 2, layer 5700 20000 .survey 3, layer 4800 80000 .k3 4] =
      [layer 5533 35000 .survey 3, layer 4800 80000 .k3 4] := by decide

/-- K1's 3,000 MJ Reservation in a Tank with 2,000 MJ free. -/
def nearlyFull : State :=
  ((loaded.setTank .t1 (surveyed 1200000 [layer 5700 1195000 .survey 1])).setTrain .k1
    { train .t1 .running (compressor 300 900 2300) 300 with reservation := 3000 })

theorem test_deposit_spills :
    (let s := after (.heatDeposit .k1) (raising [.deposit .k1 6500 5700 .t1] nearlyFull)
     ((s.tank .t1).spillTotal, storedEnergy (s.tank .t1).layers, (s.train .k1).reservation, s.sticky.getLsbD 9)) =
      (1500, 1200000, 0, true) := by decide

-- spec/07, 7.3.1
theorem test_draw_pops :
    drawLayers 150000 [layer 5784 125900 .k2 1, layer 5600 300000 .k2 2, layer 4700 200000 .survey 3] =
      ([layer 5600 275900 .k2 2, layer 4700 200000 .survey 3], 0) := by decide

theorem test_underdraw :
    (let s := after (.heatDraw .x2)
      (raising [.draw .x2 8000 .t2] (loaded.setTank .t2 (surveyed 1200000 [layer 4700 5000 .k2 1])))
     ((s.tank .t2).layers, (s.tank .t2).lastUnderdraw.map Underdraw.amount, s.sticky.getLsbD 7, s.raised)) =
      ([], some 3000, true, [.top .t2]) := by decide

-- spec/07, 7.4.1
theorem test_standing_loss :
    coolTimes 500 2 1
        [layer 5800 120900 .k1 1, layer 5600 300000 .k1 1, layer 4505 200000 .k1 1, layer 501 400 .k1 1, layer 501 1 .k1 1] =
      [layer 5789 120658 .k1 1, layer 5589 299400 .k1 1, layer 4496 199600 .k1 1] := by decide

theorem test_standing_loss_three_times :
    coolTimes 500 2 3 [layer 5800 120900 .k1 1] = [layer 5767 120175 .k1 1] := by decide

-- spec/08, 8.8
theorem test_needs :
    [300, 500, 700, 900].map (needAt 600 (compressor 300 900 2300)) = [11500, 19200, 26900, 34500] := by decide

theorem test_credit_setpoints :
    [26900, 33500, 31500, 34500].map (fun r => creditSetpoint 600 r (compressor 300 900 2300)) =
      [701, 873, 821, 900] := by decide

/-- K2 RUNNING in a Tank with 8,100 MJ free, Reservation 25,400 MJ (the third report of 8.8). -/
def thirdReport : State :=
  (loaded.setTank .t2 (surveyed 1200000 [layer 5800 1166500 .k2 1])).setTrain .k2
    { train .t2 .running (compressor 300 900 2300) 700 with reservation := 25400 }

theorem test_credit_limit_binds :
    (let s := writeFormed .k2 .running 900 thirdReport
     ((s.train .k2).reservation, (s.train .k2).setpoint, (s.train .k2).creditLimit)) = (33500, 873, true) := by decide

theorem test_partial_return :
    ((partialReturn .k2 19200 (loaded.setTrain .k2
      { TrainContext.powerOn .t2 with reservation := 25650 })).train .k2).reservation = 19250 := by decide

/-- The Start State of the worked projection (spec/05, 5.8). -/
def projected : StartState :=
  let k (m : Nat) : TrainSample := { available := true, descriptor := some (compressor 300 m 2300) }
  let x (reserve : Bool) : TrainSample :=
    { available := true, descriptor := some { expander 200 1200 600 with reserveCapable := reserve } }
  { mass := 18348000, pressure := 5596, usable := 880804, free := 300000, remaining := 300, base := 78400,
    trains := ⟨k 900, k 900, k 900, x true, x true, x false⟩,
    outages :=
      [{ handle := 1, train := .x3, first := 78400, last := 78405, kind := .derate, derateMax := some 800 },
       { handle := 2, train := .x1, first := 78403, last := 78403, kind := .full, derateMax := none }],
    commitments :=
      [record 60 .energy .firm .pending 78399 2 (-1200), record 61 .energy .firm .pending 78401 2 2900,
       record 62 .reserveUp .firm .pending 78402 1 400, record 63 .energy .firm .pending 78403 1 1500],
    rates := { genMass := 4700, chgMass := 5200, genHeat := 1900, chgHeat := 2100 },
    heat := { tRef := 500, tUse := 4500, tNom := 5800, band := 150, loss := 2 },
    characteristic := Config.defaultCharacteristic,
    thresholds := { lowLimit := 4600, lowWarn := 4800, highWarn := 7100, highLimit := 7300 }, rateLimit := 250 }

theorem test_worked_projection :
    (evalRows projected projected.commitments 4 0 (firstStart projected)).map
        (fun r => (r.net, r.genCapacity, r.endMass, r.endPressure, r.endUsable, r.endFree)) =
      [(-1200, 3200, 18400000, 5612, 900000, 280804), (2900, 3200, 18059250, 5506, 760725, 420079),
       (2900, 3200, 17718500, 5400, 621729, 559075), (1500, 2000, 17542250, 5346, 549378, 631426)] := by decide

theorem test_worked_verdicts :
    (evalRows projected projected.commitments 4 0 (firstStart projected)).map Row.verdict =
      [.feasible, .feasible, .failing [(.capacity, .upPoint)], .feasible] := by decide

/-- X2 RUNNING at 1,100 under a row whose Max Load was lowered to 1,000 (spec/09, 9.3.1). -/
def staleX2 : State :=
  let s := (inMode .dispatching).setTrain .x2 (train .t2 .running (expander 200 1200 600) 1100)
  let s := s.setTank .t2 (surveyed 1200000 [layer 5800 1000 .k2 1])
  s.setTables
    { s.tables with
      envelopes := { descriptor := expander 200 1000 600, generation := 1 } :: List.replicate 23 EnvelopeRow.default }

theorem test_reload_lowers :
    (let s := after (.reloadEnvelopes (spFrame [])) staleX2
     ((s.train .x2).setpoint, (s.train .x2).selection.map Selection.generation, lastBody s.sp.responses)) =
      (1000, some 1, some [6, 0, 0, 0, 0, 2, 0]) := by decide

/-- A report of X2 with a status and a power. -/
def reportX2 (status : Octet) (power : Word) : Instr :=
  .trainReport .x2
    { number := 4, status := status, power := power, massFlow := 0, heat := 0, temperature := 0, elapsed := 1000 }

theorem test_report_trips :
    (let s := after (reportX2 5 900) staleX2
     ((s.train .x2).state, (s.train .x2).setpoint, s.sticky.getLsbD 16)) = (.tripped, 0, true) := by decide

theorem test_report_reenters :
    (let s := after (reportX2 3 450) (staleX2.setTrain .x2 (train .t2 .lost (expander 200 1000 600) 0))
     ((s.train .x2).state, (s.train .x2).setpoint, (s.train .x2).runStart)) = (.unloading, 450, some (0, 0)) := by decide

/-- The Dispatcher's part of the last K2 report of the worked reversal (spec/10, 10.9). -/
def lastPart : ReportPart := { status := .stopping, power := 150, elapsed := 5000, left := .unloading }

/-- The last K2 report of the worked reversal (spec/10, 10.9), with K2 at 150, and X1's outage and X3's derate. -/
def reversal : State :=
  let s := atTime 817 62100 (inMode .dispatching)
  let full := surveyed 1200000 [layer 5800 1000 .k2 1]
  let s := s.setTanks ⟨full, full, full⟩
  let k := compressor 300 900 2300
  let x := expander 200 1200 600
  let s := s.setTrains ⟨train .t1 .unloading k 0, train .t2 .unloading k 150, train .t3 .ready k 0,
    train .t1 .ready x 0, train .t2 .ready x 0, train .t3 .ready x 0⟩
  let s := s.setStore { s.store with commitments := [record 2 .energy .firm (.active 4) 78501 4 2200] }
  let s := s.setCavern { s.cavern with band := .normal }
  (s.setTables
    { s.tables with
      outages :=
        [{ handle := 1, train := .x1, first := 78501, last := 78501, kind := .full, derateMax := none },
         { handle := 2, train := .x3, first := 78501, last := 78510, kind := .derate, derateMax := some 800 }] })

theorem test_reversal_starts :
    (let s := after (.setpointFormation .k2) (raising [.formation .k2 lastPart] reversal)
     (s.dispatcher.target, s.dispatcher.direction, (s.train .x2).share, (s.train .x3).share, s.dispatcher.expanderRotation.pointer)) =
      (2000, .generating, 1200, 800, 3) := by decide

theorem test_reversal_orders :
    (let s := after (.setpointFormation .k2) (raising [.formation .k2 lastPart] reversal)
     [s.trainLinks.k2.sending, s.trainLinks.x2.sending, s.trainLinks.x3.sending]) =
      [some { command := .stop, setpoint := 0, topTemperature := 0 },
       some { command := .start, setpoint := 200, topTemperature := 5800 },
       some { command := .start, setpoint := 200, topTemperature := 5800 }] := by decide

-- spec/10, 10.9
theorem test_close_imbalance : kwhOf (-1078560000) - kwhOf (-1080000000) = 40 := by decide

-- spec/03, 3.10
theorem test_length_held :
    amendResult 78012 (record 38 .reserveUp .firm (.active 3) 78011 4 400)
        { handle := 38, field := .length, operation := .subtract, preview := false, operand := 3 } =
      { value := 2, zero := false, saturated := true } := by decide

theorem test_deploy_saturates :
    (let s := inMode .dispatching
     let s := s.setStore { s.store with commitments := [record 38 .reserveUp .firm (.active 4) 78011 4 400] }
     let t := after (.deploy (mpFrame (u16 38 ++ u16 500))) s
     (t.store.commitments.map Commitment.deployed, lastStatus t.mp.responses, t.raised)) =
      ([400], some .done, [.activeFirm]) := by decide

/-- An entry of the worked passing sequence (spec/04, 4.4). -/
def waiting (arrival : Nat) (cls : EntryClass) (passing : Nat) : Entry :=
  { cls := cls, source := .mp, tag := 1, code := 1, amendment := .confirm 1, arrival := arrival, passing := passing }

theorem test_passing_first :
    (pickEntry [waiting 1 .tentative 0, waiting 4 .firm 0, waiting 5 .availability 0, waiting 6 .firm 0]).map Entry.arrival =
      some 5 := by decide

theorem test_passing_guarded :
    (pickEntry [waiting 1 .tentative 4, waiting 2 .tentative 4, waiting 8 .firm 0, waiting 9 .availability 1]).map
      Entry.arrival = some 1 := by decide

-- spec/01, R2 and R3
theorem test_clock_turns_the_day :
    (let s := after .clockAdvance (atTime 3 86399 loaded)
     (s.clock.day, s.clock.second, s.interval, s.raised.length)) = (4, 0, 384, 4) := by decide

theorem test_clock_unset : (after .clockAdvance loaded).clock.second = 0 := by decide

-- spec/02, R13, R23 and R26
theorem test_power_on_alerts : (alertLine State.reset .sp, alertLine State.reset .mp) = (true, false) := by decide

-- spec/11, R201
theorem test_absent_memory : readImage [] = none := by decide

theorem test_configure_gate_lead :
    (let s := after (.configure (spFrame (configureOctets 8 [16]))) loaded
     (s.clock.gateLead, s.loader.validity, lastStatus s.sp.responses)) = (16, 0x80#12, some .done) := by decide

theorem test_configure_gate_lead_out_of_range :
    (let s := after (.configure (spFrame (configureOctets 8 [17]))) loaded
     (s.clock.gateLead, lastStatus s.sp.responses, s.sticky.getLsbD 25)) = (4, some .outOfRange, true) := by decide

theorem test_decode_none : decodeTableWord 0 0 = none := by decide

/-! ### Witnesses: states and operands that meet the hypotheses of the statements -/

/-- The parts of an admission, as one check. -/
def admits (ports : Port → Bool) (f : Frame) (s : State) : Bool :=
  let r := received f s
  ports (viaPort f.via) &&
  decide ((r.link (viaPort f.via)).responses.length + (r.link (viaPort f.via)).outstanding < 32) &&
  decide (r.loader.loadState = .ended)

theorem admitted {ports : Port → Bool} {f : Frame} {s : State} (h : admits ports f s = true) :
    Admitted ports f s (received f s) := by
  simp only [admits, Bool.and_eq_true, decide_eq_true_eq] at h
  exact ⟨rfl, h.1.1, h.1.2, h.2⟩

/-- An admitted frame whose admission leaves a state with a property. -/
abbrev Meets (ports : Port → Bool) (f : Frame) (s : State) (p : State → Prop) : Prop :=
  Admitted ports f s (received f s) ∧ p (received f s)

theorem meets {ports : Port → Bool} {f : Frame} {s : State} {p : State → Prop} (h : admits ports f s = true)
    (hp : p (received f s)) : Meets ports f s p := ⟨admitted h, hp⟩

theorem oldest {β : Type} {pick : Raised → Option β} {r : Raised} {event : β} {left : List Raised}
    (h : pick r = some event) : Oldest pick (r :: left) event left := ⟨[], r, left, rfl, rfl, h, by simp⟩

/-- A port with a number of responses waiting. -/
def filled (n : Nat) (s : State) : State :=
  s.setLink .mp
    { s.link .mp with
      responses := List.replicate n { tag := 0, code := 0, reply := .bare .done } }

theorem test_witness_nothingRaised :
    takesRaised .bandNotice = true ∧ ∀ r ∈ (raising [.activeFirm] loaded).raised, r.command ≠ .bandNotice := by decide

theorem test_witness_turnedAway :
    (∃ q, requestOf (.walkNext (mpFrame [])) = some q ∧ q.fault = none ∧ q.ports .mp = true ∧
      (received (mpFrame []) State.reset).loader.loadState = .loading) ∧
    (∃ q, requestOf (.walkNext (mpFrame [])) = some q ∧ q.fault = none ∧
      32 ≤ ((received (mpFrame []) (filled 32 loaded)).link .mp).responses.length) ∧
    (∃ q fault, requestOf (.walkNext (mpFrame [0])) = some q ∧ q.fault = some fault ∧
      ((received (mpFrame [0]) (filled 31 loaded)).link .mp).responses.length = 31) ∧
    (∃ q, requestOf (.setTime (mpFrame (u16 0 ++ u32 0))) = some q ∧ q.fault = none ∧ q.ports .mp = false) :=
  ⟨⟨_, rfl, by decide, by decide, by decide⟩, ⟨_, rfl, by decide, by decide⟩,
    ⟨_, { detail := .bodyLong, offset := 0 }, rfl, by rfl, by decide⟩, ⟨_, rfl, by decide, by decide⟩⟩

theorem test_witness_badRequests :
    ((received (mpFrame [9]) (filled 31 loaded)).link .mp).responses.length +
      ((received (mpFrame [9]) (filled 31 loaded)).link .mp).outstanding < 32 ∧
    32 ≤ ((received (mpFrame [9]) (filled 32 loaded)).link .mp).responses.length ∧
    Meets bothPorts (mpFrame []) loaded (fun _ => (mpFrame []).body = []) ∧
    Meets bothPorts (mpFrame [6]) loaded (fun _ => 6 ≤ (6 : Octet).toNat) ∧
    Meets bothPorts (mpFrame [5, 0]) loaded (fun _ => (5 : Octet).toNat < 6) := by
  exact ⟨by decide, by decide, meets (by decide) (by decide), meets (by decide) (by decide),
    meets (by decide) (by decide)⟩

/-- The Supervisory Port with one bare response of 7 octets in its queue. -/
def oneResponse : State :=
  loaded.setLink .sp { loaded.sp with responses := [{ tag := 0, code := 0, reply := .bare .done }] }

theorem test_witness_shiftOut :
    loaded.sp.responses = [] ∧ oneResponse.transaction = none ∧
    (let s := oneResponse.setTransaction (some { response := none, sent := [0, 0] })
     ∃ tr head, s.transaction = some tr ∧ s.sp.responses.head? = some head ∧ tr.response ≠ some head) ∧
    ∃ head rest, oneResponse.sp.responses = head :: rest ∧ head.reply.body.length + 7 ≤ (List.replicate 7 0).length ∧
      (List.replicate 6 0).length < head.reply.body.length + 7 ∧ (spFrame [0, 0]).via = .sp 0 :=
  ⟨rfl, rfl, ⟨_, _, rfl, rfl, by decide⟩, _, _, rfl, by decide, by decide, rfl⟩

/-- An order in transmission on K1's line. -/
def sending : State :=
  loaded.setTrainLinks (loaded.trainLinks.set .k1
    { TrainLink.powerOn with sending := some { command := .hold, setpoint := 0, topTemperature := 0 } })

theorem test_witness_orders :
    (loaded.trainLinks.get .k1).sending = none ∧ (∃ o, (sending.trainLinks.get .k1).sending = some o) ∧
    Train.k2 ≠ Train.k1 := ⟨rfl, ⟨_, rfl⟩, by decide⟩

theorem test_witness_lookups :
    Meets bothPorts (mpFrame []) loaded (fun r => ∃ first rest, r.projector.horizon = first :: rest) :=
  meets (by decide) ⟨_, _, rfl⟩

theorem test_witness_clearConditions :
    Meets bothPorts (mpFrame (u32 67108864)) loaded (fun _ => 67108864 < 4294967296 ∧ 67108864 ≤ 67108864) ∧
    Meets bothPorts (mpFrame (u32 67108863)) loaded (fun _ => 67108863 < 67108864) :=
  ⟨meets (by decide) (by decide), meets (by decide) (by decide)⟩

theorem test_witness_setAlertMask :
    Meets bothPorts (mpFrame (u32 67108864)) loaded (fun _ => 67108864 ≤ 67108864) ∧
    Meets bothPorts (mpFrame (u32 67108863)) loaded (fun _ => viaPort (mpFrame []).via = .mp) ∧
    Meets bothPorts (spFrame (u32 0)) loaded (fun _ => viaPort (spFrame []).via = .sp) :=
  ⟨meets (by decide) (by decide), meets (by decide) (by decide), meets (by decide) (by decide)⟩

theorem test_witness_clockAdvance :
    loaded.clock.timeSet = false ∧
    (let c := (atTime 65535 86399 loaded).clock; c.day = 65535 ∧ c.second = 86399 ∧ c.timeSet = true) ∧
    (let c := (atTime 0 900 loaded).clock; c.timeSet = true ∧ c.second < 86399 ∧ (c.second + 1) % 900 ≠ 0) ∧
    (let c := (atTime 0 899 loaded).clock; c.timeSet = true ∧ c.second < 86399 ∧ (c.second + 1) % 900 = 0) ∧
    (let c := (atTime 65534 86399 loaded).clock; c.timeSet = true ∧ c.second = 86399 ∧ c.day < 65535) := by decide

theorem test_witness_setTime :
    Meets supervisoryOnly (spFrame (u16 0 ++ u32 86400)) (inMode .standby) (fun r => 86399 < 86400 ∧ r.clock.second ≤ 86399) ∧
    Meets supervisoryOnly (spFrame (u16 5 ++ u32 959)) (atTime 5 1020 (inMode .dispatching))
      (fun r => r.clock.second ≤ 86399 ∧ r.dispatcher.mode = .dispatching ∧
        ¬ (-60 ≤ ((5 * 86400 + 959 : Nat) : Int) - ((r.clock.day * 86400 + r.clock.second : Nat) : Int))) ∧
    Meets supervisoryOnly (spFrame (u16 5 ++ u32 960)) (atTime 5 1020 (inMode .dispatching))
      (fun r => -60 ≤ ((5 * 86400 + 960 : Nat) : Int) - ((r.clock.day * 86400 + r.clock.second : Nat) : Int) ∧
        5 * 96 + 960 / 900 = r.interval) ∧
    Meets supervisoryOnly (spFrame (u16 65535 ++ u32 86399)) (inMode .unconfigured)
      (fun r => r.interval ≤ 65535 * 96 + 86399 / 900 ∧ 65535 * 96 + 86399 / 900 ≠ r.interval) ∧
    Meets supervisoryOnly (spFrame (u16 0 ++ u32 0)) (atTime 5 0 (inMode .standby))
      (fun r => r.store.commitments = [] ∧ 0 * 96 + 0 / 900 ≠ r.interval) :=
  ⟨meets (by decide) (by decide), meets (by decide) (by decide), meets (by decide) (by decide),
    meets (by decide) (by decide), meets (by decide) (by decide)⟩

theorem test_witness_dayStart : 95 < 96 ∧ 96 ≤ 96 ∧ 96 % 96 = 0 ∧ (0 : Nat) < 96 := by decide

/-- STANDBY with the time set, the cavern calibrated, and the Tanks' Survey Flags as given. -/
def prepared (t1 t2 t3 : Bool) : State :=
  let s := atTime 5 0 (inMode .standby)
  let s := s.setCavern { s.cavern with calibrated := true }
  let tank (b : Bool) : TankState := { TankState.powerOn with surveyed := b }
  s.setTanks ⟨tank t1, tank t2, tank t3⟩

/-- The prepared state with K1 READY. -/
def ready : State := (prepared true true true).setTrain .k1 (train .t1 .ready (compressor 300 900 2300) 0)

theorem test_witness_startDispatch :
    Meets supervisoryOnly (spFrame []) (inMode .dispatching) (fun r => r.dispatcher.mode = .dispatching) ∧
    Meets supervisoryOnly (spFrame []) (inMode .unconfigured) (fun r => r.dispatcher.mode = .unconfigured) ∧
    Meets supervisoryOnly (spFrame []) (inMode .stopping) (fun r => r.dispatcher.mode = .stopping) ∧
    Meets supervisoryOnly (spFrame []) (inMode .standby) (fun r => r.clock.timeSet = false) ∧
    Meets supervisoryOnly (spFrame []) (atTime 5 0 (inMode .standby))
      (fun r => r.clock.timeSet = true ∧ r.cavern.calibrated = false) ∧
    Meets supervisoryOnly (spFrame []) (prepared false true true) (fun r => r.tanks.t1.surveyed = false) ∧
    Meets supervisoryOnly (spFrame []) (prepared true false true) (fun r => r.tanks.t2.surveyed = false) ∧
    Meets supervisoryOnly (spFrame []) (prepared true true false) (fun r => r.tanks.t3.surveyed = false) ∧
    Meets supervisoryOnly (spFrame []) (prepared true true true)
      (fun r => r.tanks.t3.surveyed = true ∧ ¬ ∃ t, (r.train t).state = .ready) ∧
    Meets supervisoryOnly (spFrame []) ready (fun r => ∃ t, (r.train t).state = .ready) := by
  refine ⟨meets (by decide) (by decide), meets (by decide) (by decide), meets (by decide) (by decide),
    meets (by decide) (by decide), meets (by decide) (by decide), meets (by decide) (by decide),
    meets (by decide) (by decide), meets (by decide) (by decide), meets (by decide) ⟨by decide, ?_⟩,
    meets (by decide) ⟨.k1, by decide⟩⟩
  rintro ⟨t, h⟩
  cases t <;> exact absurd h (by decide)

theorem test_witness_stopDispatch :
    Meets supervisoryOnly (spFrame []) (inMode .standby) (fun r => r.dispatcher.mode ≠ .dispatching) ∧
    Meets supervisoryOnly (spFrame []) (inMode .dispatching) (fun r => ∀ t, (r.train t).setpoint = 0 ∧
      (r.train t).state ≠ .starting ∧ (r.train t).state ≠ .running ∧ (r.train t).state ≠ .unloading) ∧
    Meets supervisoryOnly (spFrame []) staleX2 (fun r => ¬ ∀ t, (r.train t).setpoint = 0) :=
  ⟨meets (by decide) (by decide), meets (by decide) (by intro t; cases t <;> decide),
    meets (by decide) (fun h => absurd (h .x2) (by decide))⟩

theorem test_witness_resetDispatch :
    Meets supervisoryOnly (spFrame []) (inMode .unconfigured) (fun r => r.dispatcher.mode = .unconfigured) ∧
    Meets supervisoryOnly (spFrame []) (inMode .stopping) (fun r => r.dispatcher.mode ≠ .unconfigured) :=
  ⟨meets (by decide) (by decide), meets (by decide) (by decide)⟩

/-! #### The Commitment Table and the Amendment Queue -/

/-- The fields of an ENTER. -/
def entering (standing : Standing) (start length : Nat) (power : Int) (reference : Nat) : EnterRequest :=
  { kind := .energy, standing := standing, start := start, length := length, power := power, reference := reference }

/-- DISPATCHING at Interval Number 480 (Gate Lead 4) with given records and no Pass pending. -/
def scheduled (records : List Commitment) : State :=
  let s := atTime 5 0 (inMode .dispatching)
  s.setStore { s.store with commitments := records }

/-- Many records, for a full table. -/
def manyRecords : List Commitment :=
  (List.range 64).map fun i => record (i + 1) .energy .firm .pending 600 1 100

theorem test_witness_enterRefused :
    let m (q : EnterRequest) (records : List Commitment) (p : State → Prop) : Prop :=
      q.encodable ∧ Meets bothPorts (mpFrame (enterOctets q)) (scheduled records) p
    Meets bothPorts (mpFrame (enterOctets (entering .firm 481 1 1 0))) (inMode .unconfigured)
      (fun r => r.dispatcher.mode = .unconfigured) ∧
    Meets bothPorts (spFrame (enterOctets (entering .firm 481 1 1 0))) (scheduled [])
      (fun r => r.store.authority = .market) ∧
    m (entering .firm 481 193 1 0) [] (fun _ => ¬ 193 ≤ 192) ∧
    m (entering .firm 481 0 1 0) [] (fun _ => ¬ 1 ≤ 0) ∧
    m (entering .firm 481 1 3601 0) [] (fun _ => ¬ (3601 : Int) ≤ 3600) ∧
    m (entering .firm 481 1 (-2701) 0) [] (fun _ => ¬ (-2700 : Int) ≤ -2701) ∧
    m (entering .firm 480 1 3600 0) [] (fun r => 480 ≤ r.interval) ∧
    m (entering .tentative 483 1 (-2700) 0) [] (fun r => 483 < r.interval + r.clock.gateLead) ∧
    m (entering .tentative 484 189 1 0) [] (fun r => r.interval + r.clock.gateLead ≤ 484 ∧ r.interval + 191 < 484 + 189 - 1) ∧
    m (entering .firm 481 191 1 7) [{ record 1 .energy .firm .pending 600 1 100 with reference := 7 }]
      (fun r => r.interval < 481 ∧ 481 + 191 - 1 ≤ r.interval + 191 ∧ ∃ c ∈ r.store.commitments, c.reference = 7) ∧
    m (entering .firm 481 191 1 7) manyRecords
      (fun r => 64 ≤ r.store.commitments.length ∧ ∀ c ∈ r.store.commitments, c.reference ≠ 7) := by
  refine ⟨meets (by decide) (by decide), meets (by decide) (by decide), ?_⟩
  refine ⟨⟨?_, meets (by decide) (by decide)⟩, ⟨?_, meets (by decide) (by decide)⟩,
    ⟨?_, meets (by decide) (by decide)⟩, ⟨?_, meets (by decide) (by decide)⟩, ⟨?_, meets (by decide) (by decide)⟩,
    ⟨?_, meets (by decide) (by decide)⟩, ⟨?_, meets (by decide) (by decide)⟩,
    ⟨?_, meets (by decide) ⟨by decide, by decide, _, List.mem_cons_self, rfl⟩⟩, ⟨?_, meets (by decide) (by decide)⟩⟩ <;>
    simp [EnterRequest.encodable, fitsS16, entering]

theorem test_witness_enterDecided :
    (∀ standing, (entering standing 484 1 3600 0).encodable ∧
      Meets bothPorts (mpFrame (enterOctets (entering standing 484 1 3600 0))) (scheduled [])
        (fun r => r.dispatcher.mode ≠ .unconfigured ∧
          hasRight r.store.authority .mp (.enter (entering standing 484 1 3600 0)) = true ∧
          enterInRange (entering standing 484 1 3600 0) = true ∧
          enterRefusal (entering standing 484 1 3600 0) r = none ∧ (r.link .mp).outstanding < 12 ∧
          r.store.queue = [] ∧ r.store.inService = none ∧ r.projector.passState = .idle ∧ behindReset r = false)) ∧
    (let st : Store := { loaded.store with nextHandle := 4095, commitments := [record 4095 .energy .firm .pending 9 1 1] }
     1 ≤ st.nextHandle ∧ st.nextHandle ≤ 4095 ∧ st.commitments.length ≤ 64) := by
  refine ⟨fun standing => ⟨by simp [EnterRequest.encodable, fitsS16, entering], ?_⟩, by decide⟩
  cases standing <;> exact meets (by decide) (by decide)

/-- The fields of an AMEND of Handle 9. -/
def amending (field : AmendField) (operation : AmendOperation) (operand : Int) (preview : Bool) : AmendRequest :=
  { handle := 9, field := field, operation := operation, preview := preview, operand := operand }

theorem test_witness_amendResults :
    (record 9 .energy .firm .pending 500 4 100).power - 100 = 0 ∧ (record 9 .energy .firm .pending 500 4 100).power ≠ 0 ∧
    (record 9 .reserveUp .firm .pending 500 4 100).kind ≠ .energy ∧
    (let c := record 9 .energy .firm (.active 4) 480 4 100; c.start ≤ 480 + 191 ∧ c.isActive = true ∧ c.start ≤ 480 ∧
      480 < c.start + 192) ∧
    (let c := record 9 .energy .firm .pending 671 1 100; c.start ≤ 480 + 191 ∧ c.isActive = false) := by decide

theorem test_witness_amendDecided :
    let m (q : AmendRequest) (c : Commitment) (p : State → Prop) : Prop :=
      q.encodable ∧ q.preview = false ∧ (q.field = .marketReference → q.operation = .set) ∧
      (c.standing = .tentative → 480 < c.start) ∧
      Meets bothPorts (mpFrame (amendOctets q)) (scheduled [c]) (fun r => p r ∧ r.dispatcher.mode ≠ .unconfigured ∧
        r.interval = 480 ∧ hasRight r.store.authority .mp (.amend q) = true ∧
        findHandle q.handle r.store.commitments = some c ∧
        amendArrivalRefusal c q (amendResult r.interval c q) r = none ∧ (r.link .mp).outstanding < 12 ∧
        r.store.queue = [] ∧ r.store.inService = none ∧ r.projector.passState = .idle ∧ behindReset r = false)
    let firm := record 9 .energy .firm .pending 500 4 100
    let tentative := record 9 .energy .tentative .pending 484 4 100
    m (amending .power .set 100 false) firm
      (fun _ => (amendResult 480 firm (amending .power .set 100 false)).value = firm.power) ∧
    m (amending .marketReference .set 4294967295 false) firm (fun _ => firm.reference = 0) ∧
    m (amending .power .add (-100) false) tentative
      (fun _ => (amendResult 480 tentative (amending .power .add (-100) false)).zero = true) ∧
    m (amending .length .set 172 false) firm (fun _ => firm.standing = .firm) ∧
    m (amending .length .add 1 false) tentative (fun _ => tentative.standing = .tentative) := by
  refine ⟨⟨?_, by decide, by decide, by decide, meets (by decide) (by decide)⟩,
    ⟨?_, by decide, by decide, by decide, meets (by decide) (by decide)⟩,
    ⟨?_, by decide, by decide, by decide, meets (by decide) (by decide)⟩,
    ⟨?_, by decide, by decide, by decide, meets (by decide) (by decide)⟩,
    ⟨?_, by decide, by decide, by decide, meets (by decide) (by decide)⟩⟩ <;>
    simp [AmendRequest.encodable, fitsS16, amending]

theorem test_witness_preview :
    let m (q : AmendRequest) (s : State) (p : State → Prop) : Prop :=
      q.encodable ∧ q.preview = true ∧ Meets bothPorts (mpFrame (amendOctets q)) s p
    let late := record 9 .energy .tentative .pending 483 4 100
    let firm := record 9 .energy .firm .pending 500 4 100
    m (amending .power .set 1 true) (inMode .unconfigured) (fun r => r.dispatcher.mode = .unconfigured) ∧
    m (amending .power .set 1 true) ((scheduled []).setStore { (scheduled []).store with authority := .supervisory })
      (fun r => hasRight r.store.authority .mp (.amend (amending .power .set 1 true)) = false) ∧
    m (amending .power .set 1 true) (scheduled []) (fun r => ∀ c ∈ r.store.commitments, c.handle ≠ 9) ∧
    m (amending .marketReference .add 1 true) (scheduled [firm]) (fun r => findHandle 9 r.store.commitments = some firm) ∧
    m (amending .power .set 1 true) (scheduled [late]) (fun r => findHandle 9 r.store.commitments = some late ∧
      ∃ refusal, amendArrivalRefusal late (amending .power .set 1 true)
        (amendResult r.interval late (amending .power .set 1 true)) r = some refusal) ∧
    m (amending .power .set 3601 true) (scheduled [firm]) (fun r => findHandle 9 r.store.commitments = some firm ∧
      amendArrivalRefusal firm (amending .power .set 3601 true)
        (amendResult r.interval firm (amending .power .set 3601 true)) r = none) := by
  refine ⟨⟨?_, by decide, meets (by decide) (by decide)⟩, ⟨?_, by decide, meets (by decide) (by decide)⟩,
    ⟨?_, by decide, meets (by decide) (by decide)⟩, ⟨?_, by decide, meets (by decide) (by decide)⟩,
    ⟨?_, by decide, meets (by decide) ⟨by decide, .gateClosed, by decide⟩⟩,
    ⟨?_, by decide, meets (by decide) (by decide)⟩⟩ <;>
    simp [AmendRequest.encodable, fitsS16, amending]

theorem test_witness_confirmRetire :
    let m (records : List Commitment) (p : State → Prop) : Prop :=
      Meets bothPorts (mpFrame (u16 9)) (scheduled records) (fun r => p r ∧ r.dispatcher.mode ≠ .unconfigured ∧
        r.store.authority ≠ .supervisory ∧ (r.link .mp).outstanding < 12 ∧ r.store.queue = [] ∧
        r.store.inService = none ∧ r.projector.passState = .idle ∧ behindReset r = false)
    m [] (fun r => ∀ c ∈ r.store.commitments, c.handle ≠ 9) ∧
    m [record 9 .energy .tentative .pending 500 4 100] (fun r => ∃ c, findHandle 9 r.store.commitments = some c ∧
      c.standing = .tentative) ∧
    m [record 9 .energy .firm (.active 4) 480 4 100] (fun r => ∃ c, findHandle 9 r.store.commitments = some c ∧
      c.standing = .firm) :=
  ⟨meets (by decide) (by decide), meets (by decide) ⟨⟨_, rfl, rfl⟩, by decide⟩,
    meets (by decide) ⟨⟨_, rfl, rfl⟩, by decide⟩⟩

theorem test_witness_deploy :
    let m (amount : Nat) (s : State) (p : State → Prop) : Prop :=
      amount < 65536 ∧ Meets marketOnly (mpFrame (u16 9 ++ u16 amount)) s p
    let called := { record 9 .reserveUp .firm (.active 4) 480 4 400 with deployed := 400 }
    m 1 (inMode .unconfigured) (fun r => r.dispatcher.mode = .unconfigured) ∧
    m 1 (scheduled []) (fun r => ∀ c ∈ r.store.commitments, c.handle ≠ 9) ∧
    m 1 (scheduled [record 9 .energy .firm (.active 4) 480 4 400]) (fun r =>
      ∃ c, findHandle 9 r.store.commitments = some c ∧ c.kind = .energy) ∧
    m 400 (scheduled [called]) (fun r => findHandle 9 r.store.commitments = some called ∧
      called.deployed = min 400 called.power.toNat) ∧
    m 401 (scheduled [{ called with deployed := 0 }]) (fun r =>
      findHandle 9 r.store.commitments = some { called with deployed := 0 } ∧ 0 ≠ min 401 called.power.toNat) :=
  ⟨⟨by decide, meets (by decide) (by decide)⟩, ⟨by decide, meets (by decide) (by decide)⟩,
    ⟨by decide, meets (by decide) ⟨_, rfl, rfl⟩⟩, ⟨by decide, meets (by decide) (by decide)⟩,
    ⟨by decide, meets (by decide) (by decide)⟩⟩

/-- An outage record of K1. -/
def outage (handle : Nat) : Outage :=
  { handle := handle, train := .k1, first := 480, last := 480, kind := .full, derateMax := none }

/-- A state with Outage Records. -/
def withOutages (those : List Outage) (s : State) : State := s.setTables { s.tables with outages := those }

theorem test_witness_recordsLookedUp :
    let c := { record 4095 .energy .firm .pending 500 4 100 with reference := 4294967295 }
    let s := withOutages [outage 3, outage 255] (scheduled [c])
    Meets bothPorts (mpFrame (flag false ++ u32 9)) s (fun r => ∀ c ∈ r.store.commitments, c.handle ≠ 9) ∧
    Meets bothPorts (mpFrame (flag true ++ u32 0)) s (fun _ => 0 < 4294967296) ∧
    Meets bothPorts (mpFrame (flag true ++ u32 8)) s (fun r => ∀ c ∈ r.store.commitments, c.reference ≠ 8) ∧
    Meets bothPorts (mpFrame (flag false ++ u32 4095)) s (fun r => r.store.commitments = [] ++ c :: [] ∧ c.handle = 4095) ∧
    Meets bothPorts (mpFrame (flag true ++ u32 4294967295)) s
      (fun r => r.store.commitments = [] ++ c :: [] ∧ c.reference = 4294967295) ∧
    Meets bothPorts (mpFrame (flag false ++ u8 2)) s (fun r => ∀ o ∈ r.tables.outages, o.handle ≠ 2) ∧
    Meets bothPorts (mpFrame (flag true ++ u8 255)) s (fun r => ∀ o ∈ r.tables.outages, o.handle ≤ 255) ∧
    Meets bothPorts (mpFrame (flag false ++ u8 255)) s (fun r => r.tables.outages = [outage 3] ++ outage 255 :: []) ∧
    Meets bothPorts (mpFrame (flag true ++ u8 3)) s
      (fun r => r.tables.outages = [outage 3] ++ outage 255 :: [] ∧ 3 < (outage 255).handle ∧ (outage 3).handle ≤ 3) :=
  ⟨meets (by decide) (by decide), meets (by decide) (by decide), meets (by decide) (by decide),
    meets (by decide) (by decide), meets (by decide) (by decide), meets (by decide) (by decide),
    meets (by decide) (by decide), meets (by decide) (by decide), meets (by decide) (by decide)⟩

theorem test_witness_walks :
    let c := record 1 .energy .firm .pending 500 4 100
    let s := scheduled [c]
    Meets bothPorts (mpFrame (u32 501)) s (fun r => ∀ c ∈ r.store.commitments, ¬ (501 < c.start ∨ (501 = c.start ∧ 0 < c.handle))) ∧
    Meets bothPorts (mpFrame (u32 500)) s (fun r => r.store.commitments = [] ++ c :: [] ∧ 500 = c.start ∧ 0 < c.handle) ∧
    Meets bothPorts (mpFrame []) s (fun r => (r.link .mp).cursor = none) ∧
    Meets bothPorts (mpFrame []) (s.setLink .mp { s.link .mp with cursor := some (500, 0) })
      (fun r => (r.link .mp).cursor = some (500, 0)) :=
  ⟨meets (by decide) (by decide), meets (by decide) (by decide), meets (by decide) (by decide),
    meets (by decide) (by decide)⟩

/-- A Boundary. -/
def boundary (now : Nat) (step : BoundaryStep) : Boundary := { newInterval := now, step := step, dayStart := false }

theorem test_witness_settle :
    Oldest (pickBoundary .commitmentStore) (raising [.boundary .commitmentStore (boundary 480 (.forward 1))] loaded).raised
      (boundary 480 (.forward 1)) [] ∧
    (let c := record 1 .energy .firm (.active 2) 479 2 100
     c.phase = .active 2 ∧ 2 + 480 = c.start + c.length - 1 + 2 ∧ 480 ≤ c.start + c.length - 1) ∧
    (let c := record 1 .energy .firm (.active 1) 479 1 100
     c.phase = .active 1 ∧ 1 + 480 = c.start + c.length - 1 + 2 ∧ c.start + c.length - 1 < 480) ∧
    (let c := record 1 .energy .firm (.active 1) 479 2 100
     c.phase = .active 1 ∧ 1 + 480 = c.start + c.length - 1 + 1 ∧ c.standing = .firm ∧ c.isActive = true ∧ c.start ≤ 480) ∧
    (let c := record 1 .energy .tentative .pending 480 4 100; c.phase = .pending ∧ c.start = 480 ∧ c.standing = .tentative) ∧
    (let c := record 1 .energy .firm .pending 480 1 100; c.start = 480 ∧ c.standing = .firm ∧ 1 ≤ c.length) ∧
    (let c := record 1 .energy .firm .pending 481 1 100; 480 < c.start ∧ c.standing = .firm) ∧
    (let c := record 1 .energy .firm .pending 478 2 100; c.start + c.length - 1 < 480) ∧
    (let c := record 1 .energy .firm .pending 478 3 100; c.start ≤ 480 ∧ 480 ≤ c.start + c.length - 1) :=
  ⟨oldest (by decide), by decide⟩

theorem test_witness_imbalance :
    Oldest pickImbalance (raising [.imbalance 479 (-2000000001)] loaded).raised (479, -2000000001) [] :=
  oldest (by decide)

theorem test_witness_authority :
    let s (a : Authority) : State := (scheduled []).setStore { (scheduled []).store with authority := a }
    (∀ a, Meets bothPorts (mpFrame []) (s a) (fun r => r.store.authority = a)) ∧
    (∀ a, Meets bothPorts (spFrame []) (s a) (fun r => r.store.authority = a)) ∧
    (∀ a, Meets marketOnly (mpFrame []) (s a) (fun r => r.store.authority = a)) ∧
    ∃ e : Entry, e.source = .sp ∧ e.amendment = .confirm 9 := by
  refine ⟨fun a => ?_, fun a => ?_, fun a => ?_, { waiting 0 .firm 0 with source := .sp, amendment := .confirm 9 }, rfl, rfl⟩ <;>
    cases a <;> exact meets (by decide) (by decide)

/-- A state with entries waiting, none in service. -/
def queued (n : Nat) (outstanding : Nat) : State :=
  let s := scheduled []
  (s.setStore { s.store with queue := (List.range n).map fun i => waiting i .firm 0, nextArrival := n }).setLink .mp
    { s.link .mp with outstanding := outstanding }

theorem test_witness_queue :
    12 ≤ ((queued 12 12).link .mp).outstanding ∧
    (((queued 16 11).link .mp).outstanding < 12 ∧ 16 ≤ (queued 16 11).store.queue.length) ∧
    (let s := (queued 15 11).setStore { (queued 15 11).store with inService := some (waiting 20 .firm 0) }
     (s.link .mp).outstanding < 12 ∧ s.store.queue.length < 16 ∧ s.store.inService ≠ none) ∧
    (let q := [waiting 1 .tentative 4, waiting 2 .firm 0]
     q.Pairwise (fun a b => a.arrival < b.arrival) ∧ (∀ k ∈ q, k.passing ≤ 4) ∧ pickEntry q = some (waiting 1 .tentative 4) ∧
       ∃ k ∈ q, k.passing = 4) ∧
    (let q := [waiting 1 .firm 3, waiting 2 .availability 0]
     (∀ k ∈ q, k.passing ≤ 4) ∧ pickEntry q = some (waiting 2 .availability 0) ∧ ¬ ∃ k ∈ q, k.passing = 4) ∧
    (let q := [waiting 1 .tentative 3, waiting 2 .firm 0]
     pickEntry q = some (waiting 2 .firm 0) ∧ ¬ ∃ k ∈ q, k.cls = .availability) ∧
    (let q := [waiting 1 .tentative 3, waiting 2 .tentative 0]
     pickEntry q = some (waiting 1 .tentative 3) ∧ ¬ ∃ k ∈ q, k.cls = .firm) := by
  refine ⟨by decide, by decide, by decide, ⟨by simp [waiting], by decide, by decide, _, List.mem_cons_self, rfl⟩,
    ⟨by decide, by decide, ?_⟩, ⟨by decide, ?_⟩, ⟨by decide, ?_⟩⟩ <;> simp [waiting]

/-! #### The Horizon Projector -/

/-- A Pass in flight, with a Trial or without, and an Entry in Service or none. -/
def inPass (trial : Option Trial) (entry : Option Entry) (s : State) : State :=
  (s.setProjector
    { s.projector with
      passState := if trial.isSome then .screening else .projecting, trial := trial, start := some projected }).setStore
    { s.store with inService := entry }

/-- The Trial of an ENTER that starts at an interval. -/
def offer (start length : Nat) : Trial := .enter (record 7 .energy .tentative .pending start length 100)

theorem test_witness_horizonShift :
    let b := boundary 480 (.forward 1)
    let s (trial : Option Trial) : State :=
      raising [.boundary .horizonProjector b] (inPass trial (some (waiting 0 .tentative 0)) (scheduled []))
    (∀ trial, Oldest (pickBoundary .horizonProjector) (s trial).raised b []) ∧
    (scheduled []).projector.passState = .idle ∧
    ((s none).projector.passState ≠ .idle ∧ (s none).projector.trial = none) ∧
    ((s (some (offer 484 188))).projector.passState ≠ .idle ∧ trialRefusal (offer 484 188) (s (some (offer 484 188))) = none) ∧
    (trialRefusal (offer 483 1) (s (some (offer 483 1))) = some .gateClosed ∧
      (s (some (offer 483 1))).store.inService = some (waiting 0 .tentative 0)) ∧
    (trialRefusal (offer 484 189) (s (some (offer 484 189))) = some .outOfRange ∧
      (s (some (offer 484 189))).store.inService = some (waiting 0 .tentative 0)) ∧
    loaded.projector.horizon.map Row.interval = (List.range 192).map (0 + ·) ∧ 0 + 480 = 480 :=
  ⟨fun _ => oldest (by decide), by decide, by decide, by decide, by decide, by decide,
    by simp [loaded, State.reset, State.setLoader, Function.comp_def, Row.unprojected], by decide⟩

/-- One evaluated row with a Verdict. -/
def judged (interval : Nat) (verdict : Verdict) : Row := { Row.unprojected interval with verdict := verdict }

theorem test_witness_passCompletion :
    (scheduled []).projector.passState = .idle ∧
    ((inPass none none (scheduled [])).projector.passState ≠ .idle ∧ (inPass none none (scheduled [])).projector.trial = none) ∧
    (let s := inPass (some (offer 484 1)) none (scheduled [])
     s.projector.passState ≠ .idle ∧ s.projector.trial ≠ none ∧ s.store.inService = none) ∧
    (let s := inPass (some (offer 484 1)) (some (waiting 0 .tentative 0)) (scheduled [])
     s.projector.passState ≠ .idle ∧ s.projector.trial = some (offer 484 1) ∧
       s.store.inService = some (waiting 0 .tentative 0)) ∧
    breakingRows [judged 480 .feasible] [judged 480 (.failing [(.rate, .scheduled)])] =
      judged 480 (.failing [(.rate, .scheduled)]) :: [] ∧
    breakingRows [judged 480 .unprojected] [judged 480 (.failing [(.rate, .scheduled)])] = [] ∧
    (∃ c, findHandle (offer 484 1).handle
      ((writeTrial (offer 484 1) (scheduled [])).store.commitments.map fun c => { c with atRisk := none }) = some c) ∧
    [judged 480 .feasible, judged 481 .feasible].Pairwise (fun a b => a.interval < b.interval) :=
  ⟨by decide, by decide, by decide, by decide, by decide, by decide, ⟨_, rfl⟩, by simp [judged, Row.unprojected]⟩

theorem test_witness_keyedLookups :
    let s := scheduled []
    let row := Row.unprojected 480
    let h := s.setProjector { s.projector with horizon := [row, Row.unprojected 671] }
    Meets bothPorts (mpFrame (u32 479)) s (fun r => 479 < r.interval) ∧
    Meets bothPorts (mpFrame (u32 672)) s (fun r => r.interval + 191 < 672) ∧
    Meets bothPorts (mpFrame (u32 480)) h (fun r => r.interval ≤ 480 ∧ r.projector.horizon = [] ++ row :: [Row.unprojected 671]) ∧
    Meets bothPorts (mpFrame (u32 671)) h
      (fun r => 671 ≤ r.interval + 191 ∧ r.projector.horizon = [row] ++ Row.unprojected 671 :: [] ∧ row.interval ≠ 671) ∧
    Meets bothPorts (mpFrame (u8 5)) s (fun _ => u8 5 = u8 (trainIndex .x3)) ∧
    Meets bothPorts (mpFrame (u8 24)) s (fun r => r.tables.envelopes.length ≤ 24) ∧
    Meets bothPorts (mpFrame (u8 23)) s (fun r => r.tables.envelopes[23]? = some EnvelopeRow.default) ∧
    Meets bothPorts (mpFrame (u8 2)) s (fun _ => u8 2 = u8 (tankIndex .t3)) :=
  ⟨meets (by decide) (by decide), meets (by decide) (by decide), meets (by decide) ⟨by decide, rfl⟩,
    meets (by decide) ⟨by decide, rfl, by decide⟩, meets (by decide) (by decide), meets (by decide) (by decide),
    meets (by decide) rfl, meets (by decide) (by decide)⟩

theorem test_witness_resets :
    Oldest pickStoreReset [Raised.storeReset] () [] ∧ Oldest pickProjectorReset [Raised.projectorReset] () [] ∧
    Oldest pickHeatReset [Raised.heatReset] () [] ∧ Oldest pickTrainReset [Raised.trainReset] () [] ∧
    [waiting 1 .firm 0, waiting 2 .firm 0].Pairwise (fun a b => a.arrival < b.arrival) ∧
    (∀ k ∈ [waiting 1 .firm 0, waiting 2 .firm 0], k.arrival ≠ (waiting 0 .tentative 0).arrival) ∧
    (inUse (staleX2.train .x2).state = true ∧ inUse (staleX2.train .x1).state = false) :=
  ⟨oldest rfl, oldest rfl, oldest rfl, oldest rfl, by simp [waiting], by decide, by decide⟩

theorem test_witness_rows :
    (firstStart projected).mass ≤ 4294967295 ∧
    (projected.trains.k1.available = true ∧ projected.trains.k1.descriptor = some (compressor 300 900 2300)) ∧
    (sampleTrain { TrainContext.powerOn .t1 with state := .tripped }).available = false ∧
    (∃ a b, (evalRows projected projected.commitments 2 0 (firstStart projected))[0]? = some a ∧
      (evalRows projected projected.commitments 2 0 (firstStart projected))[1]? = some b) :=
  ⟨by decide, by decide, by decide, _, _, rfl, rfl⟩

/-! #### Trains, envelopes and outages -/

/-- The fields of an ENTER_OUTAGE of K1. -/
def outageOf (first last : Nat) (kind : OutageKind) (derateMax : Option Nat) : OutageRequest :=
  { train := .k1, first := first, last := last, kind := kind, derateMax := derateMax }

theorem test_witness_outages :
    let m (q : OutageRequest) (s : State) (p : State → Prop) : Prop :=
      q.encodable ∧ Meets supervisoryOnly (spFrame (outageOctets q)) s p
    let idle (r : State) : Prop := (r.link .sp).outstanding < 12 ∧ r.store.queue = [] ∧ r.store.inService = none ∧
      r.projector.passState = .idle ∧ behindReset r = false
    m (outageOf 480 480 .full none) (inMode .unconfigured) (fun r => r.dispatcher.mode = .unconfigured) ∧
    m (outageOf 480 480 .full (some 1)) (scheduled []) (fun r => r.dispatcher.mode ≠ .unconfigured) ∧
    m (outageOf 480 480 .derate (some 901)) (scheduled []) (fun _ => 900 < 901) ∧
    m (outageOf 480 480 .derate (some 0)) (scheduled []) (fun _ => ¬ 1 ≤ 0) ∧
    m (outageOf 481 480 .full none) (scheduled []) (fun _ => ¬ 481 ≤ 480) ∧
    m (outageOf 0 479 .full none) (scheduled []) (fun r => 479 < r.interval) ∧
    m (outageOf 480 480 .derate (some 900)) (withOutages ((List.range 16).map fun i => outage (i + 1)) (scheduled []))
      (fun r => 16 ≤ (r.tables.outages.filter fun o => r.interval ≤ o.last).length) ∧
    m (outageOf 480 480 .derate (some 1)) (withOutages ((List.range 15).map fun i => outage (i + 1)) (scheduled []))
      (fun r => (r.tables.outages.filter fun o => r.interval ≤ o.last).length < 16 ∧ 1 ≤ r.tables.nextOutage ∧
        r.tables.nextOutage ≤ 255 ∧ idle r) ∧
    Meets supervisoryOnly (spFrame (u8 255)) (scheduled []) (fun r => ∀ o ∈ r.tables.outages, o.handle ≠ 255) ∧
    Meets supervisoryOnly (spFrame (u8 255)) (withOutages [outage 255] (scheduled []))
      (fun r => r.tables.outages = [] ++ outage 255 :: [] ∧ idle r) := by
  refine ⟨⟨?_, meets (by decide) (by decide)⟩, ⟨?_, meets (by decide) (by decide)⟩, ⟨?_, meets (by decide) (by decide)⟩,
    ⟨?_, meets (by decide) (by decide)⟩, ⟨?_, meets (by decide) (by decide)⟩, ⟨?_, meets (by decide) (by decide)⟩,
    ⟨?_, meets (by decide) (by decide)⟩, ⟨?_, meets (by decide) (by decide)⟩, meets (by decide) (by decide),
    meets (by decide) (by decide)⟩ <;>
    simp [OutageRequest.encodable, outageOf]

/-- DISPATCHING with row 0 of the Envelope Table written once and X2 holding an older copy of it, as `staleX2`. -/
theorem test_witness_select :
    let m (t : Train) (n : Nat) (s : State) (p : State → Prop) : Prop :=
      n < 256 ∧ Meets supervisoryOnly (spFrame (u8 (trainIndex t) ++ u8 n)) s p
    let row : EnvelopeRow := { descriptor := expander 200 1000 600, generation := 1 }
    let x2 := staleX2.train .x2
    let held := staleX2.setTrain .x2
      { x2 with selection := some { selector := 0, descriptor := expander 200 1000 600, generation := 1 } }
    m .x2 24 staleX2 (fun r => r.tables.envelopes.length ≤ 24) ∧
    m .x2 23 staleX2 (fun r => ∃ row, r.tables.envelopes[23]? = some row ∧ row.descriptor.valid = false) ∧
    m .k1 0 staleX2 (fun r => r.tables.envelopes[0]? = some row ∧ row.descriptor.kind ≠ trainKind .k1) ∧
    m .x2 0 held (fun r => r.tables.envelopes[0]? = some row ∧ ∃ sel, (r.train .x2).selection = some sel ∧
      sel.selector = 0 ∧ sel.generation = row.generation) ∧
    m .x2 0 staleX2 (fun r => r.tables.envelopes[0]? = some row ∧ row.descriptor.valid = true ∧
      row.descriptor.kind = trainKind .x2 ∧ ∃ sel, (r.train .x2).selection = some sel ∧ sel.generation ≠ row.generation) ∧
    Meets supervisoryOnly (spFrame []) staleX2 (fun r => ∃ sel, (r.train .x2).selection = some sel ∧ sel.generation ≠ 1) ∧
    Meets supervisoryOnly (spFrame []) loaded (fun r => (r.train .x2).selection = none) ∧
    (let c := { x2 with state := .starting, startTimer := some 300001 }
     c.state = .starting ∧ c.startTimer = some 300001 ∧ row.descriptor.startLimit * 1000 < 300001) :=
  ⟨⟨by decide, meets (by decide) (by decide)⟩, ⟨by decide, meets (by decide) ⟨_, rfl, by decide⟩⟩,
    ⟨by decide, meets (by decide) (by decide)⟩,
    ⟨by decide, meets (by decide) ⟨by decide, _, rfl, by decide, by decide⟩⟩,
    ⟨by decide, meets (by decide) ⟨by decide, by decide, by decide, _, rfl, by decide⟩⟩,
    meets (by decide) ⟨_, rfl, by decide⟩, meets (by decide) (by decide), by decide⟩

theorem test_witness_amendEnvelope :
    let m (n : Nat) (d : Descriptor) (p : State → Prop) : Prop :=
      n < 256 ∧ d.encodable ∧ Meets supervisoryOnly (spFrame (u8 n ++ descriptorOctets d)) staleX2 p
    m 24 (expander 200 1000 600) (fun r => r.tables.envelopes.length ≤ 24) ∧
    m 0 { expander 200 1000 600 with heatRate := some 1 } (fun r => r.tables.envelopes[0]?.isSome = true) ∧
    m 0 (expander 1000 1000 600) (fun _ => ¬ 1000 < 1000) ∧
    m 0 (expander 200 1201 600) (fun _ => ¬ 1201 ≤ 1200) ∧
    m 0 (expander 200 1000 600) (fun r => r.tables.envelopes[0]?.map EnvelopeRow.descriptor = some (expander 200 1000 600)) ∧
    m 0 (expander 1199 1200 1200) (fun r =>
      ∃ row, r.tables.envelopes[0]? = some row ∧ row.descriptor ≠ expander 1199 1200 1200) := by
  refine ⟨⟨by decide, ?_, meets (by decide) (by decide)⟩, ⟨by decide, ?_, meets (by decide) (by decide)⟩,
    ⟨by decide, ?_, meets (by decide) (by decide)⟩, ⟨by decide, ?_, meets (by decide) (by decide)⟩,
    ⟨by decide, ?_, meets (by decide) (by decide)⟩, ⟨by decide, ?_, meets (by decide) ⟨_, rfl, by decide⟩⟩⟩ <;>
    simp [Descriptor.encodable, expander]

theorem test_witness_bindRestore :
    Meets supervisoryOnly (spFrame (u8 (trainIndex .x2) ++ u8 (tankIndex .t3))) staleX2 (fun r => (r.train .x2).state = .running) ∧
    Meets supervisoryOnly (spFrame (u8 (trainIndex .x1) ++ u8 (tankIndex .t1))) staleX2
      (fun r => (r.train .x1).state = .offline ∧ (r.train .x1).boundTank = .t1) ∧
    Meets supervisoryOnly (spFrame (u8 (trainIndex .x1) ++ u8 (tankIndex .t3))) staleX2
      (fun r => (r.train .x1).state = .offline ∧ (r.train .x1).boundTank ≠ .t3) ∧
    Meets supervisoryOnly (spFrame (u8 (trainIndex .x2))) staleX2 (fun r => (r.train .x2).state ≠ .tripped) ∧
    Meets supervisoryOnly (spFrame (u8 (trainIndex .k1)))
      (loaded.setTrain .k1 { TrainContext.powerOn .t1 with state := .tripped }) (fun r => (r.train .k1).state = .tripped) :=
  ⟨meets (by decide) (by decide), meets (by decide) (by decide), meets (by decide) (by decide),
    meets (by decide) (by decide), meets (by decide) (by decide)⟩

/-- A report frame of a train number and a status octet. -/
def reportOf (number status : Octet) : ReportFrame :=
  { number := number, status := status, power := 1201, massFlow := 6001, heat := 0, temperature := 8001, elapsed := 5001 }

theorem test_witness_reports :
    (reportOf 3 0).number.toNat ≠ trainIndex .x2 ∧ 5 < (reportOf 4 6).status.toNat ∧
    (∀ status, (reportOf 4 (BitVec.ofNat 8 (reportStatusCode status))).number.toNat = trainIndex .x2 ∧
      (reportOf 4 (BitVec.ofNat 8 (reportStatusCode status))).status.toNat = reportStatusCode status) :=
  ⟨by decide, by decide, fun status => by cases status <;> decide⟩

theorem test_witness_timers :
    (let c := { train .t1 .starting (compressor 300 900 2300) 300 with startTimer := some 0 }
     c.state = .starting ∧ c.startTimer = some 0 ∧ c.selection ≠ none ∧ c.silence = some 0) ∧
    (loaded.train .k1).state = .offline := by decide

/-! #### The Cavern Account, the heat stores and the credits -/

theorem test_witness_calibrate :
    Meets (fun p => p = .mp) (mpFrame (u16 5000)) (inMode .standby) (fun _ => viaPort (mpFrame []).via = .mp) ∧
    Meets supervisoryOnly (spFrame (u16 65535)) (inMode .unconfigured) (fun r => r.dispatcher.mode = .unconfigured) ∧
    Meets supervisoryOnly (spFrame (u16 4299)) (inMode .standby) (fun r =>
      r.cavern.characteristic.head? = some (14000000, 4300) ∧ r.cavern.characteristic.getLast? = some (24000000, 7460) ∧
      r.dispatcher.mode ≠ .unconfigured) ∧
    Config.defaultCharacteristic.Pairwise (fun x y => x.1 < y.1 ∧ x.2 < y.2) ∧
    Config.defaultCharacteristic = [] ++ (14000000, 4300) :: (15250000, 4660) :: Config.defaultCharacteristic.drop 2 ∧
    Config.defaultCharacteristic = Config.defaultCharacteristic.take 8 ++ [(24000000, 7460)] ∧
    4300 ≤ 4659 ∧ 4659 < 4660 :=
  ⟨meets (by decide) (by decide), meets (by decide) (by decide), meets (by decide) (by decide), by decide, by decide,
    by decide, by decide⟩

theorem test_witness_integration :
    Oldest (pickMass .k1) [Raised.mass .k1 6001 5001] (6001, 5001) [] ∧
    Oldest (pickMass .k1) [Raised.mass .k1 0 5000] (0, 5000) [] ∧
    Oldest (pickMass .k1) [Raised.mass .k1 1 0] (1, 0) [] ∧
    (loaded.cavern.characteristic.head? = some (14000000, 4300) ∧
      loaded.cavern.characteristic.getLast? = some (24000000, 7460)) ∧
    (let th := loaded.cavern.thresholds
     th.lowLimit < th.lowWarn ∧ th.lowWarn < th.highWarn ∧ th.highWarn < th.highLimit ∧
      bandStep th 4819 .lowWarn = none ∧ bandStep th 4820 .lowWarn = some .normal) :=
  ⟨oldest (by decide), oldest (by decide), oldest (by decide), by decide, by decide⟩

theorem test_witness_survey :
    let m (layers : List (Nat × Nat)) (s : State) (p : State → Prop) : Prop :=
      surveyEncodable layers ∧ Meets supervisoryOnly (spFrame (surveyOctets .t2 layers)) s p
    Meets (fun p => p = .mp) (mpFrame (surveyOctets .t2 [])) (inMode .standby) (fun _ => viaPort (mpFrame []).via = .mp) ∧
    m [] (inMode .unconfigured) (fun r => r.dispatcher.mode = .unconfigured) ∧
    m [] staleX2 (fun r => (r.train .x2).boundTank = .t2 ∧ (r.train .x2).state = .running) ∧
    m (List.replicate 9 (501, 1)) (inMode .standby) (fun _ => 8 < 9) ∧
    m [(500, 1)] (inMode .standby) (fun r => ¬ r.loader.heat.tRef + 1 ≤ 500) ∧
    m [(8001, 1)] (inMode .standby) (fun _ => ¬ 8001 ≤ 8000) ∧
    m [(8000, 1200001)] (inMode .standby) (fun r => (r.tank .t2).capacity < 1200001) ∧
    m [(8000, 1199999), (501, 1)] (inMode .standby)
      (fun r => 1200000 + reservedEnergy r.trains .t2 ≤ (r.tank .t2).capacity ∧ r.loader.heat.tRef + 1 ≤ 501) := by
  refine ⟨meets (by decide) (by decide), ⟨?_, meets (by decide) (by decide)⟩, ⟨?_, meets (by decide) (by decide)⟩,
    ⟨?_, meets (by decide) (by decide)⟩, ⟨?_, meets (by decide) (by decide)⟩, ⟨?_, meets (by decide) (by decide)⟩,
    ⟨?_, meets (by decide) (by decide)⟩, ⟨?_, meets (by decide) (by decide)⟩⟩ <;> simp [surveyEncodable]

theorem test_witness_deposits :
    (∀ h td, Oldest (pickDeposit .k1) [Raised.deposit .k1 h td .t1] (h, td, .t1) []) ∧ trainKind .k1 = .compressor ∧
    (loaded.tank .t1).surveyed = false ∧
    ((nearlyFull.tank .t1).surveyed = true ∧ nearlyFull.loader.heat.tRef < 501 ∧ 500 ≤ nearlyFull.loader.heat.tRef) ∧
    (let top := layer 5800 10 .k1 1; top.temperature + 150 < 5951 ∧ 5950 ≤ top.temperature + 150) ∧
    (layer 5800 10 .k1 1 :: List.replicate 7 (layer 4000 5 .k1 1) =
      (layer 5800 10 .k1 1 :: List.replicate 5 (layer 4000 5 .k1 1)) ++ [layer 4000 5 .k1 1, layer 4000 5 .k1 1] ∧
      (List.replicate 7 (layer 4000 5 .k1 1)).length = 7) :=
  ⟨fun _ _ => oldest rfl, by decide, by decide, by decide, by decide, by decide⟩

theorem test_witness_drawsLosses :
    (∀ h, Oldest (pickDraw .x2) [Raised.draw .x2 h .t2] (h, .t2) []) ∧ trainKind .x2 = .expander ∧
    (loaded.tank .t2).surveyed = false ∧ (staleX2.tank .t2).surveyed = true ∧
    ((drawLayers 1000 (staleX2.tank .t2).layers).2 = 0 ∧ (drawLayers 1001 (staleX2.tank .t2).layers).2 = 1) ∧
    (∀ l ∈ (staleX2.tank .t2).layers, 1 ≤ l.energy) ∧
    (∀ b, Oldest (pickBoundary .heatStoreUnit) [Raised.boundary .heatStoreUnit b] b []) ∧
    ((boundary 480 (.forward 1)).step = .forward 1 ∧ (boundary 479 .rebase).step = .rebase) :=
  ⟨fun _ => oldest rfl, by decide, by decide, by decide, by decide, by decide, fun _ => oldest rfl, by decide⟩

theorem test_witness_credits :
    trainKind .k2 = .compressor ∧ (thirdReport.train .k2).state = .running ∧ (loaded.train .k2).state = .offline ∧
    (compressor 300 900 2300).heatRate = some 2300 ∧ (loaded.train .k2).selection = none ∧
    (∃ sel, (thirdReport.train .k2).selection = some sel) ∧ 25400 ≤ (thirdReport.train .k2).reservation :=
  ⟨by decide, by decide, by decide, by decide, by decide, ⟨_, rfl⟩, by decide⟩

/-! #### Dispatch -/

theorem test_witness_formation :
    (∀ t part, Oldest (pickFormation t) [Raised.formation t part] part []) ∧
    (reversal.train .k2).state = .unloading ∧ (reversal.train .k3).state = .ready ∧
    (∃ sel, (reversal.train .k2).selection = some sel ∧ sel.descriptor.heatRate = some 2300) ∧
    (∃ sel, (staleX2.train .x2).selection = some sel ∧ sel.descriptor.minLoad ≤ (staleX2.train .x2).setpoint) ∧
    ((reversal.train .x1).setpoint = 0 ∧ trainKind .k2 ≠ trainKind .x1 ∧ 0 < (reversal.train .k2).setpoint) ∧
    (reversal.tank .t1).layers = layer 5800 1000 .k2 1 :: [] :=
  ⟨fun t _ => oldest (by cases t <;> rfl), by decide, by decide, ⟨_, rfl, by decide⟩, ⟨_, rfl, by decide⟩, by decide,
    by decide⟩

theorem test_witness_target :
    (let bands := [Band.normal, .lowWarn, .lowLimit, .highWarn, .highLimit]
     ∀ b ∈ bands, (reversal.setCavern { reversal.cavern with band := b }).cavern.band = b) ∧
    reversal.dispatcher.mode = .dispatching ∧ loaded.dispatcher.mode ≠ .dispatching ∧
    (loaded.train .x1).selection = none ∧
    (∃ sel, (reversal.train .x2).selection = some sel ∧ sel.descriptor.coldMax = some 600) ∧
    topStanding reversal (reversal.train .x2).boundTank = .usable ∧ topStanding loaded .t2 ≠ .usable ∧
    (∃ sel, (reversal.train .k1).selection = some sel ∧ sel.descriptor.heatRate = some 2300) ∧
    (∃ o ∈ reversal.tables.outages, o.train = .x1 ∧ o.kind = .full ∧ o.first ≤ reversal.interval ∧
      reversal.interval ≤ o.last) ∧
    (∀ o ∈ reversal.tables.outages, o.train = .x3 → o.kind = .derate) :=
  ⟨by decide, by decide, by decide, by decide, ⟨_, rfl, by decide⟩, by decide, by decide, ⟨_, rfl, by decide⟩,
    ⟨_, List.mem_cons_self, by decide⟩, by decide⟩

theorem test_witness_notices :
    Oldest (pickNotice .activeFirm) [Raised.activeFirm] () [] ∧ Oldest (pickNotice .band) [Raised.band] () [] ∧
    (∀ tank, Oldest (pickNotice (.top tank)) [Raised.top tank] () []) ∧
    (∀ t, Oldest (pickNotice (.train t)) [Raised.train t] () []) ∧
    (0 < (evaluate reversal).dispatcher.target ∧ 0 < (reversal.train .k2).setpoint ∧
      (evaluate reversal).dispatcher.scheduleValue ≠ reversal.dispatcher.scheduleValue) ∧
    (∀ k, ∀ t ∈ (reversal.dispatcher.rotation k).phases, trainKind t = k) ∧
    (∃ sel, (reversal.train .k2).selection = some sel) :=
  ⟨oldest (by decide), oldest (by decide), fun tank => oldest (by cases tank <;> decide),
    fun t => oldest (by cases t <;> decide), by decide, fun k => by cases k <;> decide, ⟨_, rfl⟩⟩

/-- GENERATING at a Target, with X2 at rest and X3 running. -/
def generating (target : Int) : State :=
  let s := reversal.setTrain .k2 (train .t2 .ready (compressor 300 900 2300) 0)
  let s := s.setTrain .x3 (train .t3 .running (expander 200 1200 600) 500)
  s.setDispatcher { s.dispatcher with direction := .generating, target := target }

theorem test_witness_decisions :
    (let u := stopDecisions .expander 3 (generating 1)
     eldest u (runningSet u .expander) = some .x3) ∧
    ([Train.x2, .x3] ≠ []) ∧
    ((generating 800).dispatcher.target.natAbs ≤ runningSum (generating 800) .expander) ∧
    (runningSum (generating 801) .expander < (generating 801).dispatcher.target.natAbs ∧
      startable (generating 801) false .x1 = none ∧
      startable (generating 801) (deploymentDriven (generating 801) .expander) .x2 = some (expander 200 1200 600) ∧
      ((generating 801).dispatcher.rotation .expander).walk = [(0, .x1)] ++ (1, .x2) ::
        ((generating 801).dispatcher.rotation .expander).walk.drop 2 ∧
      startable (generating 801) (deploymentDriven (generating 801) .expander) .x1 = none) ∧
    (let s := generating 801
     let s := s.setCavern { s.cavern with band := .lowWarn }
     runningSum s .expander < s.dispatcher.target.natAbs ∧
       ∀ p ∈ (s.dispatcher.rotation .expander).walk, startable s (deploymentDriven s .expander) p.2 = none) := by
  decide

theorem test_witness_intervalClose :
    ∀ b, Oldest (pickBoundary .dispatcher) [Raised.boundary .dispatcher b] b [] := fun _ => oldest rfl

/-! #### The Configuration Loader -/

/-- An image of one item, the gate lead, with its check word (spec/02, R32). -/
def smallImage : List Octet := [0x5A, 0x47, 0x00, 0x01, 0x9D, 0xA7, 0x08, 0x01, 0x00, 0x10]

theorem test_witness_load :
    (State.reset.loader.loadState = .loading ∧ State.reset.loader.judged = false ∧ loaded.loader.loadState = .ended) ∧
    (readImage [] = none ∧ State.reset.dispatcher.mode = .unconfigured ∧ State.reset.loader.validity = 0 ∧
      ∀ r ∈ State.reset.raised, handedItem r = none) ∧
    (readImage smallImage = some [(8, [16])] ∧ (judgeImage Config.defaultCharacteristic [(8, [16])]).1 ≠ []) ∧
    (wordAt [] 0 = 0xFFFF ∧ wordAt smallImage 5 = 0xFFFF ∧ smallImage.length ≤ 2 * 5 ∧ smallImage[2 * 2]? = some 0x9D ∧
      smallImage[2 * 2 + 1]? = some 0xA7 ∧ wordAt smallImage 2 = 0x9DA7) ∧
    (∀ o ∈ [(8, [16])], o.1 < 256 ∧ o.2.length < 256 ∧ ∀ w ∈ o.2, w < 65536) ∧
    (judgeOccurrence Config.defaultCharacteristic (8, [16]) = some (.gateLead 16) ∧
      judgeOccurrence Config.defaultCharacteristic (8, [17]) = none) ∧
    Oldest (pickItem [Raised.configItem (.gateLead 16)] .gateLead) [Raised.configItem (.gateLead 16)] (.gateLead 16) [] ∧
    (∃ r ∈ [Raised.configItem (.rateLimit 1)], handedItem r ≠ none) ∧
    (let s := State.reset.setLoader { State.reset.loader with validity := 0xF7F#12 }
     s.loader.validity ||| BitVec.ofNat 12 (2 ^ itemIndex .gateLead) = 4095#12) :=
  ⟨by decide, by decide, by decide, by decide, by decide, by decide, oldest (by decide), ⟨_, List.mem_cons_self, by decide⟩,
    by decide⟩

/-- STANDBY with a Gate Lead item that is valid. -/
def validGateLead : State :=
  (inMode .standby).setLoader { (inMode .standby).loader with validity := 0x080#12 }

theorem test_witness_configure :
    let m (identifier : Nat) (words : List Nat) (s : State) (p : State → Prop) : Prop :=
      configureEncodable identifier words ∧ Meets supervisoryOnly (spFrame (configureOctets identifier words)) s p
    let rowWords := [0x0001, 300, 900, 65535, 0x141E, 300, 2300, 1]
    m 8 [16] (inMode .dispatching) (fun r => r.dispatcher.mode = .dispatching) ∧
    m 8 [16] (inMode .stopping) (fun r => r.dispatcher.mode = .stopping) ∧
    m 0 [] loaded (fun r => r.dispatcher.mode = .unconfigured) ∧
    m 0 [0] loaded (fun r => r.dispatcher.mode = .unconfigured) ∧
    m 13 [] loaded (fun _ => 12 < 13) ∧
    m 8 [] loaded (fun _ => ([] : List Nat).length ≠ itemWords .gateLead) ∧
    m 11 (17 :: (List.replicate 8 rowWords).flatten) loaded (fun _ => 24 < 17 + 8) ∧
    m 11 (23 :: [0x0001, 300, 900, 600, 0x141E, 300, 2300, 1]) loaded
      (fun _ => kindsFit .envelopeTable (23 :: [0x0001, 300, 900, 600, 0x141E, 300, 2300, 1]) = false) ∧
    m 10 (List.replicate 24 6) loaded (fun _ => kindsFit .dutyRotations (List.replicate 24 6) = true ∧
      readConfigure .dutyRotations (List.replicate 24 6) = none) ∧
    m 8 [17] loaded (fun r => readConfigure .gateLead [17] = some (.gateLead 17) ∧ configureSound r (.gateLead 17) = false) ∧
    m 12 [0, 0, 0, 0, 0, 0] (inMode .standby |>.setTrain .x2 (train .t2 .running (expander 200 1200 600) 300))
      (fun r => ∃ item status, readConfigure .bindings [0, 0, 0, 0, 0, 0] = some item ∧ configureSound r item = true ∧
        configureInUse r item = some status) ∧
    m 8 [4] validGateLead (fun r => r.loader.validity.getLsbD (itemIndex .gateLead) = true ∧ inForce r (.gateLead 4) = true) ∧
    m 8 [1] validGateLead (fun r => configureSound r (.gateLead 1) = true ∧ configureInUse r (.gateLead 1) = none ∧
      inForce r (.gateLead 1) = false ∧ r.dispatcher.mode = .standby) ∧
    m 8 [1] (loaded.setLoader { loaded.loader with validity := 0xF7F#12 }) (fun r => r.dispatcher.mode = .unconfigured ∧
      r.loader.validity ||| BitVec.ofNat 12 (2 ^ itemIndex .gateLead) = 4095#12) := by
  refine ⟨⟨?_, meets (by decide) (by decide)⟩, ⟨?_, meets (by decide) (by decide)⟩, ⟨?_, meets (by decide) (by decide)⟩,
    ⟨?_, meets (by decide) (by decide)⟩, ⟨?_, meets (by decide) (by decide)⟩, ⟨?_, meets (by decide) (by decide)⟩,
    ⟨?_, meets (by decide) (by decide)⟩, ⟨?_, meets (by decide) (by decide)⟩, ⟨?_, meets (by decide) (by decide)⟩,
    ⟨?_, meets (by decide) (by decide)⟩, ⟨?_, meets (by decide) ⟨_, .wrongState, rfl, by decide, by decide⟩⟩,
    ⟨?_, meets (by decide) (by decide)⟩, ⟨?_, meets (by decide) (by decide)⟩, ⟨?_, meets (by decide) (by decide)⟩⟩ <;>
    simp [configureEncodable]

theorem test_witness_takenItems :
    (∃ row, loaded.tables.envelopes[23]? = some row) ∧ [compressor 300 900 2300][0]? = some (compressor 300 900 2300) ∧
    (staleX2.tables.envelopes[0]?.map fun row => row.descriptor.valid && decide (row.descriptor.kind = trainKind .x2)) =
      some true := ⟨⟨_, rfl⟩, by decide, by decide⟩

/-! #### The invariants -/

theorem test_witness_queueSound : QueueSound loaded ∧ ∃ t, step loaded = .next t := by
  refine ⟨⟨by decide, by simp [loaded, State.reset, State.setLoader], by decide, ?_, ?_⟩, _, rfl⟩
  · intro e h
    exact absurd h (by simp [loaded, State.reset, State.setLoader])
  · intro p
    cases p <;> refine ⟨by decide, by decide, by decide, fun h => absurd h (by decide)⟩

theorem test_witness_cavernSound : CavernSound loaded ∧ ∃ t, step loaded = .next t := by
  refine ⟨⟨by decide, by decide, by decide, by decide, by decide, ⟨by decide, by decide, by decide⟩, by simp [Thresholds.Ordered, loaded, State.reset, State.setLoader], ?_, ?_⟩, _, rfl⟩ <;>
    simp [loaded, State.reset, State.setLoader]

theorem test_witness_tanksSound : TanksSound loaded ∧ ∃ t, step loaded = .next t := by
  refine ⟨⟨fun tank => ?_, fun t => ?_, ?_, ?_, ?_⟩, _, rfl⟩
  · cases tank <;> refine ⟨by decide, by decide, by decide, by decide, by decide⟩
  · cases t <;> decide
  · intro h
    exact absurd h (by decide)
  · simp [loaded, State.reset, State.setLoader]
  · simp [loaded, State.reset, State.setLoader]

theorem test_witness_setpointsSound : SetpointsSound loaded ∧ ∃ t, step loaded = .next t := by
  refine ⟨⟨fun t => ?_, fun t k _ _ => ?_, fun k => ?_, ?_⟩, _, rfl⟩
  · cases t <;> exact ⟨by decide, fun sel h => absurd h (by simp [loaded, State.reset, State.setLoader, State.train, PerTrain.get, TrainContext.powerOn])⟩
  · cases t <;> exact .inl (by decide)
  · cases k <;> decide
  · simp [loaded, State.reset, State.setLoader]

/-! #### The intakes, the frames and the broken bodies -/

/-- Frames and reports written out octet by octet from the layouts of R29 and R30, with the commands they stand for. -/
theorem test_frames_read :
    frameCommand .mp [0xA5, 0x03, 0x11, 0x30, 0xBC] = .lookupCavern { via := .mp, tag := 0x11, body := [] } ∧
    frameCommand .mp [0xA5, 0x03, 0x02, 0x12, 0xE9] = .force { via := .mp, tag := 2, body := [] } ∧
    frameCommand (.sp 0) [0xA5, 0x05, 0x00, 0x31, 0x13, 0x88, 0x2F] =
      .calibrate { via := .sp 0, tag := 0, body := [0x13, 0x88] } ∧
    frameCommand .mp [0xA5, 0x0A, 0x07, 0x02, 0x00, 0x09, 0x00, 0x00, 0x01, 0x00, 0x64, 0x7F] =
      .amendPreview { via := .mp, tag := 7, body := [0x00, 0x09, 0x00, 0x00, 0x01, 0x00, 0x64] } ∧
    frameCommand .mp [0xA5, 0x0A, 0x07, 0x02, 0x00, 0x09, 0x00, 0x00, 0x00, 0x00, 0x64, 0x80] =
      .amend { via := .mp, tag := 7, body := [0x00, 0x09, 0x00, 0x00, 0x00, 0x00, 0x64] } ∧
    frameCommand .mp [0xA5, 0x03, 0x01, 0x4C, 0xB0] = .unknownCode 0x4C { via := .mp, tag := 1, body := [] } ∧
    frameCommand .mp [0xA5, 0x03, 0x01, 0x4C, 0xB1] = .badCheckFrame .mp [0xA5, 0x03, 0x01, 0x4C, 0xB1] := by decide

theorem test_frames_of_each_family :
    (([0x07, 0x10, 0x19, 0x22, 0x2B, 0x38, 0x41, 0x49] : List Octet).map fun code => requestFor code (mpFrame [])) =
      [.walkFirst (mpFrame []), .claim (mpFrame []), .lookupHorizon (mpFrame []), .lookupOutage (mpFrame []),
       .reloadEnvelopes (mpFrame []), .lookupTank (mpFrame []), .startDispatch (mpFrame []),
       .lookupConditions (mpFrame [])] := by decide

theorem test_report_read :
    reportCommand .x2 [0x04, 0x03, 0x01, 0xC2, 0, 0, 0, 0, 0, 0, 0x03, 0xE8, 0x4B] false =
      .trainReport .x2
        { number := 4, status := 3, power := 450, massFlow := 0, heat := 0, temperature := 0, elapsed := 1000 } := by
  decide

theorem test_transactions_read :
    ([[], [0x5A, 0xA5], [0xA5], [0xA5, 0x02, 0x00], [0xA5, 0x03, 0x02, 0x12], [0xA5, 0x03, 0x02, 0x12, 0xE9, 0, 0]].map
      transactionCommand) =
      [.spIdleTransaction [], .spIdleTransaction [0x5A, 0xA5], .linkReset .sp, .spIdleTransaction [0xA5, 0x02, 0x00],
       .linkReset .sp, .force { via := .sp 2, tag := 2, body := [] }] := by decide

/-- What arrives on the Market Port: a stray octet and a frame, its last character with a framing error or without. -/
def marketLine (framingError : Bool) : List Arrival :=
  [{ octet := 0x00, framingError := false }, { octet := 0xA5, framingError := false },
   { octet := 0x03, framingError := false }, { octet := 0x02, framingError := false },
   { octet := 0x12, framingError := false }, { octet := 0xE9, framingError := framingError }].map .marketCharacter

theorem test_intake_gathers :
    (((marketLine false).foldl (fun k a => takeArrival a k) loaded).pending,
      ((marketLine true).foldl (fun k a => takeArrival a k) loaded).pending) =
      ([.force { via := .mp, tag := 2, body := [] }], [.taintedFrame [0xA5, 0x03, 0x02, 0x12, 0xE9]]) := by decide

theorem test_witness_intakes :
    (let s : State := { loaded with arrivals := [.marketBreak] }; s.pending = [] ∧ s.arrivals = .marketBreak :: []) ∧
    loaded.mp.intake = none ∧ (loaded.sp.intake = none ∧ loaded.transaction = none) ∧ (∀ t, (loaded.trainLinks.get t).intake = none) ∧
    ((2 : Octet).toNat < 3 ∧ 3 ≤ (3 : Octet).toNat) ∧
    ([0x01, 0x12] : List Octet).length < (3 : Octet).toNat ∧ ([0x01, 0x12, 0xEA] : List Octet).length = (3 : Octet).toNat ∧
    (List.replicate 12 (0 : Octet)).length < 13 ∧ (List.replicate 13 (0 : Octet)).length = 13 ∧
    (0x5A : Octet) ≠ 0xA5 := by
  refine ⟨by decide, by decide, by decide, fun t => by cases t <;> decide, by decide⟩

theorem test_witness_frames :
    (∃ q, requestOf (.force (mpFrame [])) = some q ∧ Instr.wellFormed (.force (mpFrame [])) = true) ∧
    (0x4C : Octet) ∉ catalogueCodes ∧ (0x4B : Octet) ∈ catalogueCodes ∧
    (let good : List Octet := [0xA5, 0x03, 0x01, 0x4C, 0xB0]; completeFrame good = true ∧ octetSum (good.drop 1) = 0) ∧
    (let bad : List Octet := [0xA5, 0x03, 0x01, 0x4C, 0xB1]; completeFrame bad = true ∧ octetSum (bad.drop 1) ≠ 0) ∧
    (let good : List Octet := List.replicate 13 0; good.length = 13 ∧ octetSum good = 0) ∧
    (let bad : List Octet := List.replicate 12 0 ++ [1]; bad.length = 13 ∧ octetSum bad ≠ 0) :=
  ⟨⟨_, rfl, by decide⟩, by decide⟩

/-- The answer a request in a mode that allows it gets. -/
def faultOf (c : Instr) : Option Status × Option (List Octet) :=
  let s := after c loaded
  let r := match (requestOf c).map fun q => viaPort q.frame.via with
    | some .sp => s.sp.responses
    | _ => s.mp.responses
  (lastStatus r, lastBody r)

-- spec/02, R16
theorem test_bodies_broken :
    (([[0, 9, 3, 0, 0], [0, 9, 0, 3, 0], [0, 9, 0, 0, 2], [0, 9, 1, 0, 0], [0, 9, 1, 0, 0, 1, 1]] : List (List Octet)).map
      fun body => faultOf (.amend (mpFrame body))) =
      [(some .badRequest, some [3, 2]), (some .badRequest, some [3, 3]), (some .badRequest, some [3, 4]),
       (some .badRequest, some [1, 5]), (some .badRequest, some [2, 6])] ∧
    (([6 :: u32 0 ++ u32 0 ++ [0, 0], 5 :: u32 0 ++ u32 0 ++ [2, 0], 5 :: u32 0 ++ u32 0 ++ [1, 2],
       5 :: u32 0 ++ u32 0 ++ [1, 0, 0], 5 :: u32 0 ++ u32 0 ++ [1, 1, 0], 5 :: u32 0 ++ u32 0 ++ [1, 1, 0, 1, 0]]).map
      fun body => faultOf (.enterOutage (spFrame body))) =
      [(some .badRequest, some [3, 0]), (some .badRequest, some [3, 9]), (some .badRequest, some [3, 10]),
       (some .badRequest, some [2, 11]), (some .badRequest, some [1, 12]), (some .badRequest, some [2, 13])] := by
  decide

theorem test_lists_broken :
    (([[3, 0], [2, 1, 0, 0, 0, 0, 0], [2, 0, 0]] : List (List Octet)).map fun body => faultOf (.surveyTank (spFrame body))) =
      [(some .badRequest, some [3, 0]), (some .badRequest, some [1, 7]), (some .badRequest, some [2, 2])] ∧
    (([[8, 1, 0], [8, 1, 0, 1, 0]] : List (List Octet)).map fun body => faultOf (.configure (spFrame body))) =
      [(some .badRequest, some [1, 3]), (some .badRequest, some [2, 4])] := by decide

theorem test_witness_broken :
    Meets bothPorts (mpFrame (u16 9 ++ [2, 2, 1] ++ [])) loaded (fun _ => (2 : Octet).toNat < 3 ∧ (1 : Octet).toNat < 2) ∧
    Meets supervisoryOnly (spFrame (5 :: u32 0 ++ u32 0 ++ 1 :: 1 :: [0])) loaded
      (fun _ => (5 : Octet).toNat < 6 ∧ (1 : Octet).toNat < 2 ∧ ([0] : List Octet).length < 2) ∧
    Meets supervisoryOnly (spFrame (2 :: 1 :: [0])) loaded (fun _ => (2 : Octet).toNat < 3 ∧ 1 < 6 * (1 : Octet).toNat) :=
  ⟨meets (by decide) (by decide), meets (by decide) (by decide), meets (by decide) (by decide)⟩

/-! #### Amendments refused on arrival and at service, and the queue -/

theorem test_witness_amendJudged :
    let late := record 9 .energy .tentative .pending 483 4 100
    let other := { record 8 .energy .firm .pending 600 1 100 with reference := 7 }
    let s := scheduled [late, other]
    (1 ≤ late.length ∧ s.interval + s.clock.gateLead = 484) ∧
    (let q := amending .marketReference .set 7 false
     q.field = .marketReference ∧ (amendResult s.interval late q).value ≠ 0 ∧
       ∃ k ∈ s.store.commitments, k.handle ≠ late.handle ∧ (k.reference : Int) = (amendResult s.interval late q).value) ∧
    (let q := amending .power .set 1 false
     late.standing = .tentative ∧ q.field = .power ∧ late.start ≤ 483 ∧ 483 ≤ late.start + late.length - 1 ∧ 483 < 484) ∧
    (let c := record 9 .energy .tentative .pending 483 1 100
     let q := amending .length .add 3 false
     q.field = .length ∧ (amendResult s.interval c q).value = 4 ∧ min 483 486 < 484 ∧ 483 < 484 ∧
       amendArrivalRefusal c q (amendResult s.interval c q) s = none) := by
  refine ⟨by decide, ⟨by decide, by decide, _, List.mem_cons_of_mem _ List.mem_cons_self, by decide, by decide⟩,
    by decide, by decide⟩

theorem test_witness_amendRefused :
    let m (q : AmendRequest) (s : State) (p : State → Prop) : Prop :=
      q.encodable ∧ q.preview = false ∧ Meets bothPorts (mpFrame (amendOctets q)) s p
    let late := record 9 .energy .tentative .pending 483 4 100
    let firm := record 9 .energy .firm .pending 500 4 100
    let power := amending .power .set 1 false
    m power (inMode .unconfigured) (fun r => r.dispatcher.mode = .unconfigured) ∧
    m power ((scheduled []).setStore { (scheduled []).store with authority := .supervisory })
      (fun r => r.dispatcher.mode ≠ .unconfigured ∧ ¬ r.store.authority ≠ .supervisory) ∧
    m power (scheduled []) (fun r => r.store.authority ≠ .supervisory ∧ ∀ c ∈ r.store.commitments, c.handle ≠ 9) ∧
    m (amending .marketReference .add 1 false) (scheduled [firm]) (fun r => findHandle 9 r.store.commitments = some firm) ∧
    m power (scheduled [late]) (fun r => findHandle 9 r.store.commitments = some late ∧
      amendArrivalRefusal late power (amendResult r.interval late power) r = some .gateClosed) := by
  refine ⟨⟨?_, by decide, meets (by decide) (by decide)⟩, ⟨?_, by decide, meets (by decide) (by decide)⟩,
    ⟨?_, by decide, meets (by decide) (by decide)⟩, ⟨?_, by decide, meets (by decide) (by decide)⟩,
    ⟨?_, by decide, meets (by decide) (by decide)⟩⟩ <;>
    simp [AmendRequest.encodable, fitsS16, amending]

theorem test_witness_confirmRefused :
    Meets bothPorts (mpFrame (u16 65535)) (inMode .unconfigured) (fun r => r.dispatcher.mode = .unconfigured) ∧
    Meets bothPorts (spFrame (u16 9)) (scheduled []) (fun r => r.dispatcher.mode ≠ .unconfigured ∧
      ¬ r.store.authority = .supervisory) :=
  ⟨meets (by decide) (by decide), meets (by decide) (by decide)⟩

/-- A queued entry of the Market Port with an amendment. -/
def entryOf (a : Amendment) : Entry := { waiting 1 .firm 0 with amendment := a }

/-- The status with which the service of an amendment answers, where it has answered. -/
def servedStatus (a : Amendment) (s : State) : Option Status := lastStatus (serveEntry (entryOf a) s).mp.responses

-- spec/04, R72
theorem test_served_refusals :
    let late := record 9 .energy .tentative .pending 480 4 100
    let enter (standing : Standing) (start length reference : Nat) : Amendment :=
      .enter (entering standing start length 1 reference)
    let named := { record 1 .energy .firm .pending 600 1 100 with reference := 7 }
    servedStatus (enter .firm 480 1 0) (scheduled []) = some .pastInterval ∧
    servedStatus (enter .tentative 483 1 0) (scheduled []) = some .gateClosed ∧
    servedStatus (enter .firm 481 192 0) (scheduled []) = some .outOfRange ∧
    servedStatus (enter .firm 481 191 7) (scheduled [named]) = some .duplicateReference ∧
    servedStatus (enter .firm 481 191 7) (scheduled manyRecords) = some .tableFull ∧
    servedStatus (.amend (amending .power .set 1 false)) (scheduled []) = some .notFound ∧
    servedStatus (.amend (amending .power .set 1 false)) (scheduled [late]) = some .gateClosed ∧
    servedStatus (.amend (amending .marketReference .set 1 false)) (scheduled [late]) = some .pastInterval ∧
    servedStatus (.confirm 9) (scheduled []) = some .notFound ∧
    servedStatus (.enterOutage (outageOf 470 479 .full none)) (withOutages [{ outage 1 with last := 479 }] (scheduled [])) =
      some .pastInterval ∧
    servedStatus (.enterOutage (outageOf 480 480 .full none))
      (withOutages ((List.range 16).map fun i => outage (i + 1)) (scheduled [])) = some .tableFull ∧
    servedStatus (.retireOutage 2) (withOutages [outage 1] (scheduled [])) = some .notFound ∧
    servedStatus (.confirm 9) ((scheduled []).setStore { (scheduled []).store with authority := .supervisory }) =
      some .authorityLost := by decide

/-- A reset on its way to the Projector alone: the Commitment Store has already handled it. -/
def behind (s : State) : State := raising [.projectorReset, .heatReset, .trainReset] s

theorem test_witness_queueServed :
    (behindReset (behind (queued 1 1)) = true ∧ (behind (queued 1 1)).store.inService = none) ∧
    behindReset (raising [.storeReset, .projectorReset] loaded) = false ∧
    (let s := queued 2 2
     s.store.queue ≠ [] ∧ s.store.inService = none ∧ s.projector.passState = .idle ∧ behindReset s = false) ∧
    (queued 2 2).store.queue.Pairwise (fun a b => a.arrival < b.arrival) ∧
    ((queued 0 0).store.queue = []) ∧
    (∃ c, findHandle 9 [record 9 .energy .firm .pending 500 4 100] = some c ∧ c.standing = .firm) ∧
    (∃ c, findHandle 9 [record 9 .energy .tentative .pending 500 4 100] = some c ∧ c.standing = .tentative) := by
  refine ⟨by decide, by decide, by decide, by simp [queued, waiting, List.range_succ], by decide, ⟨_, rfl, rfl⟩, ⟨_, rfl, rfl⟩⟩

/-- An ENTER between the two handlings of a reset waits, and PROJECTOR_RESET begins the Pass after which it is served (R75). -/
theorem test_entry_behind_reset_waits :
    let s := after (.enter (mpFrame (enterOctets (entering .tentative 484 1 1 0)))) (behind (scheduled []))
    s.store.queue.length = 1 ∧ s.store.inService = none ∧ (after .projectorReset s).store.queue.length = 1 ∧
      (after .projectorReset s).projector.passState = .projecting := by decide

theorem test_witness_trialDropped :
    trialRefusal (offer 483 1) (inPass (some (offer 483 1)) none (scheduled [])) = some .gateClosed ∧
    (inPass (some (offer 483 1)) none (scheduled [])).store.inService = none := by decide

/-! #### Dispatch and configuration -/

/-- X2 and X3 RUNNING under a Target, the latter started first. -/
def twoRunning (target : Int) : State :=
  let s := generating target
  s.setTrains { s.trains with
    x2 := { train .t2 .running (expander 200 1200 600) 500 with runStart := some (470, 10) }
    x3 := { train .t3 .running (expander 200 1200 600) 500 with runStart := some (470, 9) } }

theorem test_witness_stops :
    (eldest (twoRunning 1080) (runningSet (twoRunning 1080) .expander) = some .x3 ∧
      (twoRunning 1080).dispatcher.target.natAbs ≤ 1200 * 9 / 10) ∧
    (eldest (twoRunning 1081) (runningSet (twoRunning 1081) .expander) = some .x3 ∧
      1200 * 9 / 10 < (twoRunning 1081).dispatcher.target.natAbs) ∧
    runningSet loaded .expander = [] ∧
    ((reversal.dispatcher.rotation .expander).phases.length = 12 ∧ (reversal.dispatcher.rotation .expander).pointer < 12) ∧
    (∀ t ∈ (reversal.dispatcher.rotation .expander).phases, trainKind t = .expander) := by decide

theorem test_witness_active :
    (let s := twoRunning 2200; s.dispatcher.mode = .dispatching ∧ (evaluate s).dispatcher.direction = .generating) ∧
    (let s := reversal; s.dispatcher.mode = .dispatching ∧ (evaluate s).dispatcher.direction = .reversing) ∧
    loaded.dispatcher.mode ≠ .dispatching := by decide

/-- The evaluation lowers a Setpoint: to the Train Limit, and to 0 under a LIMIT band. -/
theorem test_evaluation_lowers :
    (let s := (twoRunning 2200).setTrain .x3 (train .t3 .running (expander 200 1200 600) 801)
     ((evaluate s).train .x3).setpoint) = 800 ∧
    (let s := twoRunning 2200
     let s := s.setCavern { s.cavern with band := .lowLimit }
     (((evaluate s).train .x2).setpoint, ((evaluate s).trainLinks.get .x2).sending.map Order.command)) =
      (0, some .stop) := by decide

/-- Under a LIMIT band the report of a STARTING train at Setpoint 0 is answered STOP (R199). -/
theorem test_limit_band_answers_stop :
    (let s := reversal.setTrain .x2 (train .t2 .starting (expander 200 1200 600) 0)
     let s := raising [.formation .x2 { status := .starting, power := 0, elapsed := 1000, left := .starting }]
       (s.setCavern { s.cavern with band := .lowLimit })
     ((after (.setpointFormation .x2) s).trainLinks.get .x2).sending.map fun o => (o.command, o.setpoint)) =
      some (.stop, 0) := by decide

/-- The State a report left the train in forms its Setpoint, whatever a later report has made of it (R162, R192). -/
theorem test_formation_keeps_the_state :
    (let s := (twoRunning 2200).setTrain .x2 { (twoRunning 2200).train .x2 with setpoint := 700, share := 800 }
     let part (left : TrainState) : ReportPart := { status := .running, power := 700, elapsed := 1000, left := left }
     [TrainState.starting, .unloading, .running].map fun left =>
       ((after (.setpointFormation .x2) (raising [.formation .x2 (part left)] s)).train .x2).setpoint) =
      [200, 670, 720] := by decide

theorem test_witness_taken :
    (let s := (nearlyFull.setTrain .k1 { nearlyFull.train .k1 with reservation := 0 })
     (1194999 < ((s.tank .t1).layers.map Layer.energy).sum + reservedEnergy s.trains .t1) ∧ (s.tank .t1).layers ≠ [] ∧
      ¬ 1195000 < ((s.tank .t1).layers.map Layer.energy).sum + reservedEnergy s.trains .t1) ∧
    (let c := { staleX2.train .x2 with silence := some 1000 }
     c.state = .running ∧ (∃ v, c.silence = some v ∧ 1000 ≤ v) ∧ ¬ ∃ v, c.silence = some v ∧ 1001 ≤ v) ∧
    (let row : EnvelopeRow := { descriptor := expander 200 1000 600, generation := 1 }
     staleX2.tables.envelopes[0]? = some row ∧ row.descriptor.valid = true ∧ row.descriptor.kind = trainKind .x2 ∧
       ((staleX2.train .x2).selection.map fun sel => (sel.selector, sel.generation)) = some (0, 0)) ∧
    ((staleX2.train .x2).selection ≠ none ∧ (loaded.train .x2).selection = none) := by
  refine ⟨by decide, ⟨by decide, ⟨_, rfl, by decide⟩, ?_⟩, by decide, by decide⟩
  rintro ⟨v, h, k⟩
  cases h
  exact absurd k (by decide)

/-- Whether an occurrence of one word or a few is sound, at the ends of its ranges (R204). -/
theorem test_items_judged :
    let sound (o : Nat × List Nat) : Bool := (judgeOccurrence Config.defaultCharacteristic o).isSome
    ([(2, [4300, 4301, 4302, 7460]), (3, [1]), (3, [2000]), (4, [20000, 1, 5000, 1]), (5, [0, 7999, 8000, 10, 50]),
      (6, [30, 33920, 0, 1, 0, 1]), (7, [60]), (7, [1800]), (8, [1]), (8, [16]), (9, [1000]), (9, [10000]),
      (10, List.replicate 12 2 ++ List.replicate 12 5), (12, [256 * 2 + 23, 255, 0, 0, 0, 0])].all sound) = true ∧
    ([(0, []), (13, []), (2, [4299, 4301, 4302, 7460]), (2, [4300, 4301, 4302, 7461]), (2, [4300, 4300, 4302, 7460]),
      (3, [0]), (3, [2001]), (4, [20001, 1, 1, 1]), (4, [1, 1, 5001, 1]), (5, [500, 500, 8000, 10, 50]),
      (5, [0, 8000, 8000, 10, 50]), (5, [0, 7999, 8001, 10, 50]), (5, [0, 7999, 8000, 9, 50]), (5, [0, 7999, 8000, 10, 51]),
      (6, [30, 33921, 0, 1, 0, 1]), (6, [0, 0, 0, 1, 0, 1]), (7, [59]), (7, [1801]), (8, [0]), (8, [17]), (9, [999]),
      (9, [10001]), (10, List.replicate 12 3 ++ List.replicate 12 5), (10, List.replicate 12 2 ++ List.replicate 12 6),
      (12, [256 * 3, 255, 0, 0, 0, 0]), (12, [24, 0, 0, 0, 0, 0])].any sound) = false := by decide

theorem test_witness_items :
    ((compressor 1199 1200 1).spelled ∧ ¬ (compressor 300 901 1).InRange) ∧
    ((expander 0 1 1).spelled ∧ (expander 0 1 1).KindFits ∧ (expander 0 1 1).InRange) ∧
    (unlistedRow [512, 0, 1, 65535, 257, 30, 1, 0] ∧ unlistedRow [0, 0, 1, 65535, 257, 30, 1, 2]) ∧
    Config.defaultCharacteristic.length = 9 ∧ Config.defaultCharacteristic.head? = some (14000000, 4300) ∧
    (∃ w ∈ [768, 0], w < 65536 ∧ 3 ≤ w / 256) ∧
    (∃ t, (staleX2.tank (staleX2.train t).boundTank).capacity ≠ 1 ∧ (staleX2.train t).state = .running) := by
  refine ⟨⟨by simp [Descriptor.spelled, Descriptor.encodable, compressor], by simp [Descriptor.InRange, compressor]⟩,
    ⟨by simp [Descriptor.spelled, Descriptor.encodable, expander], by simp [Descriptor.KindFits, expander],
      by simp [Descriptor.InRange, expander]⟩,
    ⟨.inl ⟨512, rfl, .inl (by decide)⟩, .inr ⟨2, rfl, by decide⟩⟩, by decide, by decide, ⟨768, by decide⟩,
    ⟨.x2, by decide, by decide⟩⟩

/-! #### Passes, answers, bodies and the steps of an empty queue -/

/-- A Pass in flight with some rows evaluated. -/
def passAt (rows : List Row) : State :=
  let s := inPass none none (scheduled [])
  s.setProjector { s.projector with workingCopy := rows }

/-- X1 STARTING with a Start Timer, X2 RUNNING with a Silence Timer. -/
def timed (start silence : Nat) : State :=
  (loaded.setTrain .x1 { train .t1 .starting (expander 200 1200 600) 200 with startTimer := some start }).setTrain .x2
    { train .t2 .running (expander 200 1200 600) 200 with silence := some silence }

theorem test_witness_idle_steps :
    loaded.pending = [] ∧ loaded.arrivals = [] ∧ (raising [.activeFirm] loaded).raised = .activeFirm :: [] ∧
    (let c := (timed 300001 3000).train .x1
     c.state = .starting ∧ (c.selection.map fun sel => sel.descriptor.startLimit * 1000) = some 300000 ∧
       c.startTimer = some 300001 ∧ 300000 < 300001) ∧
    (startExpired (timed 300001 3000) .x1 = true ∧ startExpired (timed 300000 3000) .x1 = false ∧
      ∀ t ∈ allTrains, trainIndex t < trainIndex .x1 → startExpired (timed 300001 3000) t = false) ∧
    (let c := (timed 300000 3000).train .x2
     c.state = .running ∧ c.silence = some 3000 ∧ (timed 300000 3000).loader.silenceTimeout = 3000) ∧
    ((passAt (List.replicate 192 (Row.unprojected 480))).projector.passState ≠ .idle ∧
      (passAt (List.replicate 192 (Row.unprojected 480))).projector.workingCopy.length = 192) ∧
    ((passAt []).projector.start = some projected ∧ (passAt []).projector.workingCopy = []) ∧
    ((passAt [Row.unprojected 480]).projector.workingCopy = [] ++ [Row.unprojected 480]) ∧
    loaded.projector.start = none :=
  ⟨by decide, by decide, by decide, by decide, by decide, by decide, ⟨by decide, List.length_replicate⟩, by decide,
    by decide, by decide⟩

/-- The state a step answers. -/
def stepped (s : State) : State :=
  match step s with
  | .next t => t
  | .fault _ => s
  | .refused _ => s

/-- What a step of an empty queue takes: a raised event, a start limit, a silence, a completion, or a millisecond. -/
theorem test_idle_steps :
    ([raising [.imbalance 479 7] (timed 300001 3000), timed 300001 3000, timed 300000 3000, timed 300000 2999].map fun s =>
      let t := stepped s
      (t.store.lastImbalance, (t.train .x1).state, (t.train .x2).state, t.tables.millis)) =
      [(7, .starting, .running, 0), (0, .tripped, .running, 0), (0, .starting, .lost, 0), (0, .starting, .running, 1)] ∧
    ((stepped (passAt [])).projector.workingCopy.length, (stepped (passAt [])).tables.millis) = (1, 1) ∧
    dueCompletion (passAt (List.replicate 192 (Row.unprojected 480))) = some .passCompletion :=
  ⟨by decide, by decide, if_pos ⟨by decide, List.length_replicate⟩⟩

theorem test_witness_passBegins :
    ((scheduled []).projector.passPending = true ∧ (scheduled []).projector.passState = .idle ∧
      (scheduled []).dispatcher.mode ≠ .unconfigured) ∧
    (passAt []).projector.passState ≠ .idle ∧ State.reset.dispatcher.mode = .unconfigured := by decide

-- spec/05, R84
theorem test_pass_begins_if_due :
    ([scheduled [], passAt [Row.unprojected 480], loaded, (beginIfDue (scheduled [])).setProjector
        { (beginIfDue (scheduled [])).projector with passState := .idle }].map fun s =>
      let p := (beginIfDue s).projector
      (p.passState, p.passPending, p.workingCopy.length)) =
      [(.projecting, false, 0), (.projecting, true, 1), (.idle, true, 0), (.idle, false, 0)] := by decide

-- spec/05, R85: an unsurveyed Tank adds nothing
theorem test_start_state :
    (let s := (nearlyFull.setTank .t2 { surveyed 9 [layer 5000 9 .k2 1] with surveyed := false }).setTank .t3
      (surveyed 1000 [layer 4500 10 .k3 1, layer 4499 20 .k3 1])
     let st := sampleStart (atTime 5 899 s)
     (st.usable, st.free, st.remaining, st.base)) = (1195010, 2970, 1, 480) := by decide

-- spec/02, R18
theorem test_answer_dropped :
    (let s := loaded.setLink .mp { loaded.link .mp with outstanding := 3, dropped := true }
     let e := waiting 0 .firm 0
     [answerEntry e (.bare .aborted) s, answerInService e (.bare .done) s,
       answerInService e (.bare .done) (answerInService e (.bare .done) s)].map fun t =>
         (t.mp.outstanding, t.mp.dropped, t.mp.responses.length)) =
      [(2, true, 1), (3, false, 0), (2, false, 1)] := by decide

-- spec/03, R56 and spec/02, R31
theorem test_commitment_body :
    commitmentBody { record 38 .reserveUp .firm (.active 3) 78011 4 400 with deployed := 400, atRisk := some 78013 } =
      [0x00, 0x26, 0, 0, 0, 0, 0x01, 0x01, 0x01, 0x00, 0x01, 0x30, 0xBB, 0x04, 0x01, 0x03, 0x01, 0x90,
       0x01, 0x01, 0x90, 0x01, 0x01, 0x00, 0x01, 0x30, 0xBD, 0x00] ∧
    commitmentBody (record 37 .energy .tentative .pending 78020 8 (-2)) =
      [0x00, 0x25, 0, 0, 0, 0, 0x00, 0x00, 0x00, 0x00, 0x01, 0x30, 0xC4, 0x08, 0x00, 0xFF, 0xFE, 0x00, 0x00, 0x00,
       0x00] := by decide

theorem test_failure_set : failureSet [(.heatFull, .downPoint), (.pressureLow, .scheduled)] = [0x02, 0x00, 0x08] := by
  decide

theorem test_witness_bodies :
    (record 1 .energy .firm .pending 480 1 100).phase = .pending ∧
    (let c := record 1 .reserveDown .firm (.active 1) 480 1 100; c.phase = .active 1 ∧ c.standing = .firm ∧ c.kind ≠ .energy) ∧
    (let c := record 1 .energy .firm (.active 1) 480 1 100; c.phase = .active 1 ∧ c.kind = .energy) ∧
    (loaded.tank .t1).layers = [] ∧ (nearlyFull.tank .t1).layers = layer 5700 1195000 .survey 1 :: [] ∧
    ([Failure.capacity, .pressureLow, .pressureHigh, .rate, .heatShort, .heatFull][5]? = some .heatFull ∧
      [PointTag.scheduled, .upPoint, .downPoint][2]? = some .downPoint) := by decide

/-! #### Boundaries and the reset of dispatch -/

/-- The Commitment Store after a Boundary of Step 1 into interval 480: the Phases and what is raised. -/
def settled (records : List Commitment) : List Phase × List Raised :=
  let s := after .commitmentBoundary
    (raising [.boundary .commitmentStore (boundary 480 (.forward 1))] (scheduled records))
  (s.store.commitments.map Commitment.phase, s.raised)

-- spec/03, R33 and R55: a LENGTH amend served between the Clock's move and the settling keeps its Remaining
theorem test_settle_after_length :
    settled [withLength 480 5 (record 1 .energy .firm (.active 2) 478 3 100)] = ([.active 3], []) ∧
    settled [withLength 480 3 (record 1 .energy .firm (.active 4) 478 5 100)] = ([.active 1], []) := by decide

-- spec/03, R53: changes of TENTATIVE records send no notice
theorem test_lapse_sends_no_notice :
    settled [record 1 .energy .tentative .pending 480 4 100, record 2 .energy .firm .pending 481 4 100] = ([.pending], []) ∧
    settled [record 1 .energy .firm .pending 480 4 100] = ([.active 4], [.activeFirm]) ∧
    settled [record 1 .energy .firm (.active 1) 479 1 100] = ([], [.activeFirm]) := by decide

-- spec/10, R196
theorem test_reset_clears_credit_limit :
    (let s := (inMode .dispatching).setTrain .k1 { train .t1 .running (compressor 300 900 2300) 300 with creditLimit := true }
     let t := after (.resetDispatch (spFrame [])) s
     ((liveSet s).getLsbD 6, (liveSet t).getLsbD 6, t.dispatcher.mode)) = (true, false, .standby) := by decide

/-! #### What a Supervisory Port transaction shifts out, and points the spec leaves open -/

/-- Octets clocked in a Supervisory Port transaction. -/
def clocking (octets : List Octet) (s : State) : State :=
  (octets.map Arrival.supervisoryOctet).foldl (fun k a => takeArrival a k) s

/-- A transaction released, and its command executed. -/
def releasing (s : State) : State :=
  let k := takeArrival .supervisoryRelease s
  k.pending.foldl (fun t c => after c t) (k.setPending [])

-- spec/02, R15 and R29: DONE without a body, tag 0x07, code 0x4A
theorem test_transaction_shifts_out :
    let s := respond .sp 0x07 0x4A (.bare .done) loaded
    (clocking (List.replicate 9 0) s).transaction.map Transaction.sent =
      some [0x5A, 0x05, 0x07, 0x4A, 0x00, 0x00, 0xAA, 0x00, 0x00] ∧
    ([6, 7].map fun n => (releasing (clocking (List.replicate n 0) s)).sp.responses.length) = [1, 0] := by decide

/-- A response that is produced while a transaction shifts 0x00 out of an empty queue stays for the next one (R15). -/
theorem test_response_produced_meanwhile :
    let s := clocking (List.replicate 12 0) (respond .sp 0x07 0x4A (.bare .done) (clocking [0x00] loaded))
    s.transaction.map Transaction.sent = some (List.replicate 13 0) ∧
    ((releasing s).sp.responses.length, (releasing s).transaction, (releasing s).sp.intake) = (1, none, none) ∧
    (releasing (clocking (List.replicate 7 0) (releasing s))).sp.responses = [] := by decide

-- logs 36, 38 and 39
theorem test_open_points :
    (takeArrival .supervisoryRelease loaded).pending = [.spIdleTransaction []] ∧
    (amendResult 672 (record 9 .energy .firm (.active 1) 480 192 100) (amending .length .set 192 false)).value = 193 ∧
    (let s := staleX2.setTables { staleX2.tables with
       envelopes := [{ descriptor := { expander 200 1000 600 with valid := false }, generation := 0 }] }
     (reloadOutcome s .x2, reloadOutcome s .x1)) = (.current, .unselected) := by decide

/-- A completion between the two handlings of a Boundary writes a record whose Start the Boundary has reached (log 37). -/
theorem test_trial_written_late :
    ((writeTrial (offer 480 1) (scheduled [])).store.commitments.map fun c => (c.start, c.standing)) =
      [(480, .tentative)] := by decide

/-! #### Admission in any state of the queue, orders, and the horizon before its shift -/

theorem test_witness_admittedAnyTime :
    let late := record 9 .energy .firm .pending 500 4 100
    let s := withOutages [outage 255] (inPass none none (scheduled [late]))
    let busy (r : State) : Prop := r.dispatcher.mode ≠ .unconfigured ∧ r.projector.passState ≠ .idle ∧
      (r.link .mp).outstanding < 12 ∧ r.store.queue.length < 16 ∧ r.store.authority ≠ .supervisory
    let enter := entering .firm 481 191 3600 0
    let screened := entering .tentative 484 1 (-2700) 0
    (enter.encodable ∧ Meets bothPorts (mpFrame (enterOctets enter)) s fun r =>
      busy r ∧ r.interval < 481 ∧ 481 + 191 - 1 ≤ r.interval + 191 ∧ r.store.commitments.length < 64) ∧
    (screened.encodable ∧ Meets bothPorts (mpFrame (enterOctets screened)) s fun r =>
      busy r ∧ r.interval + r.clock.gateLead ≤ 484 ∧ 484 + 1 - 1 ≤ r.interval + 191) ∧
    (let q := amending .power .set 1 false
     q.encodable ∧ Meets bothPorts (mpFrame (amendOctets q)) s fun r =>
       busy r ∧ findHandle 9 r.store.commitments = some late ∧
       amendArrivalRefusal late q (amendResult r.interval late q) r = none) ∧
    (Meets bothPorts (mpFrame (u16 9)) s fun r => busy r ∧ late ∈ r.store.commitments) ∧
    (let q := outageOf 480 480 .derate (some 900)
     q.encodable ∧ Meets supervisoryOnly (spFrame (outageOctets q)) s fun r =>
       busy r ∧ r.interval ≤ 480 ∧ (r.tables.outages.filter fun o => r.interval ≤ o.last).length < 16) ∧
    (Meets supervisoryOnly (spFrame (u8 255)) s fun r => busy r ∧ outage 255 ∈ r.tables.outages) := by
  refine ⟨⟨?_, meets (by decide) (by decide)⟩, ⟨?_, meets (by decide) (by decide)⟩, ⟨?_, meets (by decide) (by decide)⟩,
    meets (by decide) (by decide), ⟨?_, meets (by decide) (by decide)⟩, meets (by decide) (by decide)⟩ <;>
    simp [EnterRequest.encodable, AmendRequest.encodable, OutageRequest.encodable, fitsS16, entering, amending, outageOf]

/-- A CONFIRM that comes while a Pass is in flight: with room, at the port's limit, and with the queue full (R17, R68). -/
theorem test_admitted_during_pass :
    let s := inPass none none (scheduled [record 9 .energy .tentative .pending 500 4 100])
    let link (n : Nat) : State := s.setLink .mp { s.link .mp with outstanding := n }
    let full : State := s.setStore { s.store with queue := (List.range 16).map fun i => waiting i .firm 0 }
    ([link 11, link 12, full].map fun k =>
      let t := after (.confirm (mpFrame (u16 9))) k
      (t.store.queue.length, t.mp.outstanding, lastStatus t.mp.responses, t.projector.passState)) =
      [(1, 12, none, .projecting), (0, 12, some .portLimit, .projecting), (16, 0, some .queueFull, .projecting)] := by
  decide

-- spec/04, R67 and R71
theorem test_amend_in_service :
    (let t := after (.amend (mpFrame (amendOctets (amending .power .set 1 false))))
       (scheduled [record 9 .energy .tentative .pending 500 4 100])
     t.store.inService.map fun e => (e.arrival, e.passing, e.cls)) =
      some ((scheduled []).store.nextArrival, 0, .tentative) := by decide

-- spec/02, R30
theorem test_order_frame :
    ({ command := .run, setpoint := 450, topTemperature := 5700 } : Order).frame .x2 =
      [0x3C, 0x04, 0x02, 0x01, 0xC2, 0x16, 0x44, 0xDD] := by decide

/-- Between the Clock's move and the shift the two lookups of the horizon number one row differently (log 40). -/
theorem test_horizon_before_shift :
    let s := (atTime 0 900 loaded).setProjector
      { loaded.projector with
        horizon := [Row.unprojected 0, { Row.unprojected 1 with verdict := .failing [(.rate, .scheduled)] }] }
    (horizonAnswer s).body.take 10 = [0, 0, 0, 0, 1, 1, 0, 1, 1, 1] ∧
    (rowAnswer 1 s).body.take 5 = [0, 0, 0, 1, 0] := by decide

/-- A HEAT_CREDIT_LIMIT shown again before the Train Unit's handling of the reset stays shown there (log 41). -/
theorem test_credit_limit_kept_at_train_reset :
    (let s := raising [.trainReset] (loaded.setTrain .k1
       { train .t1 .running (compressor 300 900 2300) 300 with creditLimit := true })
     let t := after .trainUnitReset s
     ((liveSet t).getLsbD 6, (t.train .k1).setpoint, (t.train .k1).state)) = (true, 0, .unloading) := by decide

end Sys2Proof.Tests
end

/-!
PROOF. CLEAR_CONDITIONS and SET_ALERT_MASK (R24, R25): which masks are taken, and what each owner answers and changes.
-/
namespace Sys2Proof.Machine

/-! ### Masks over the sticky positions -/

/-- A number that marks a position from 26 to 31 is no mask. -/
theorem maskOf_beyond {n : Nat} (h : 67108864 ≤ n) : maskOf n = none :=
  if_neg (Nat.not_lt.mpr h)

theorem maskOf_within {n : Nat} (h : n < 67108864) : maskOf n = some (BitVec.ofNat 26 n) :=
  if_pos h

theorem stickyOctets_ofNat {n : Nat} (h : n < 67108864) : stickyOctets (BitVec.ofNat 26 n) = u32 n := by
  rw [stickyOctets, BitVec.toNat_ofNat, Nat.mod_eq_of_lt h]

theorem ofNat_eq_mask_iff {n : Nat} (h : n < 67108864) (mask : BitVec 26) :
    BitVec.ofNat 26 n = mask ↔ mask.toNat = n := by
  rw [← BitVec.toNat_inj, BitVec.toNat_ofNat, Nat.mod_eq_of_lt h]
  exact eq_comm

theorem getLsbD_ofNat_position (n : Nat) {i : Nat} (h : i < 26) : (BitVec.ofNat 26 n).getLsbD i = n.testBit i := by
  rw [BitVec.getLsbD_ofNat, decide_eq_true h, Bool.true_and]

/-- Clearing by a mask clears the marked positions and keeps the others. -/
theorem getLsbD_cleared (sticky : BitVec 26) (n i : Nat) :
    (sticky &&& ~~~BitVec.ofNat 26 n).getLsbD i = (sticky.getLsbD i && !n.testBit i) := by
  rw [BitVec.getLsbD_and, BitVec.getLsbD_not]
  rcases Nat.lt_or_ge i 26 with hi | hi
  · rw [getLsbD_ofNat_position n hi, decide_eq_true hi, Bool.true_and]
  · rw [BitVec.getLsbD_of_ge sticky i hi, Bool.false_and, Bool.false_and]

/-- A set meets a mask when some position is both set and marked. -/
theorem any_marked_iff (sticky : BitVec 26) (n : Nat) :
    (List.range 26).any (fun i => sticky.getLsbD i && n.testBit i) = true ↔ sticky &&& BitVec.ofNat 26 n ≠ 0 := by
  have disjoint : sticky &&& BitVec.ofNat 26 n = 0 ↔ ∀ i < 26, (sticky.getLsbD i && n.testBit i) = false := by
    rw [BitVec.eq_of_getLsbD_eq_iff]
    refine forall₂_congr fun i hi => ?_
    simp only [BitVec.getLsbD_and, getLsbD_ofNat_position n hi, BitVec.ofNat_eq_ofNat, BitVec.getLsbD_zero]
  rw [ne_eq, disjoint]
  simp

/-- The live positions follow from their owners' state, of which the Sticky Set is no part (R23). -/
theorem liveSet_setSticky (s : State) (sticky : BitVec 26) : liveSet (s.setSticky sticky) = liveSet s := rfl

/-! ### The owners -/

theorem clearOwner_beyond {n : Nat} (h : 67108864 ≤ n) (s : State) : clearOwner n s = (.bare .outOfRange, s) := by
  rw [clearOwner, maskOf_beyond h]

theorem clearOwner_within {n : Nat} (h : n < 67108864) (s : State) :
    clearOwner n s =
      (.withBody
        (if (List.range 26).any (fun i => s.sticky.getLsbD i && n.testBit i) then .done else .doneUnchanged)
        (stickyOctets (s.sticky &&& ~~~BitVec.ofNat 26 n)),
       s.setSticky (s.sticky &&& ~~~BitVec.ofNat 26 n)) := by
  simp only [clearOwner, maskOf_within h, State.setSticky_sticky, any_marked_iff, ite_not]

theorem maskOwner_beyond {n : Nat} (h : 67108864 ≤ n) (p : Port) (s : State) :
    maskOwner p n s = (.bare .outOfRange, s) := by
  rw [maskOwner, maskOf_beyond h]

theorem maskOwner_within {n : Nat} (h : n < 67108864) (p : Port) (s : State) :
    let t := s.setLink p { s.link p with alertMask := BitVec.ofNat 26 n }
    maskOwner p n s =
      (.withBody (if (s.link p).alertMask.toNat = n then .doneUnchanged else .done) (u32 n ++ flag (alertLine t p)),
       t) := by
  simp only [maskOwner, maskOf_within h, stickyOctets_ofNat h, ofNat_eq_mask_iff h]

/-! ### The commands -/

section
variable {f : Frame} {n : Nat} {s r : State}

theorem exec_clearConditions_admitted (ha : Admitted bothPorts f s r) (hb : f.body = u32 n) (hn : n < 4294967296) :
    exec (.clearConditions f) s =
      .next (respond (viaPort f.via) f.tag 0x4A (clearOwner n r).1 (clearOwner n r).2) :=
  congrArg Host.Outcome.next (atOnce_admitted ha (hb ▸ parseBody_u32 n hn))

theorem exec_setAlertMask_admitted (ha : Admitted bothPorts f s r) (hb : f.body = u32 n) (hn : n < 4294967296) :
    exec (.setAlertMask f) s =
      .next (respond (viaPort f.via) f.tag 0x4B (maskOwner (viaPort f.via) n r).1 (maskOwner (viaPort f.via) n r).2) :=
  congrArg Host.Outcome.next (atOnce_admitted ha (hb ▸ parseBody_u32 n hn))

end

/-- Settles O12: both requests go to their owners, whose two cases are the mask in range and out of it. -/
theorem conditionsAreClearedAndMasksReplaced : Obligations.ConditionsAreClearedAndMasksReplaced := by
  refine ⟨fun f n s r ha hb hn => ⟨fun beyond => ?_, fun within => ?_⟩,
    fun f n s r ha hb hn => ⟨fun beyond => ?_, fun within => ⟨fun hp => ?_, fun hp => ?_⟩⟩⟩
  · rw [exec_clearConditions_admitted ha hb hn, clearOwner_beyond beyond]
    rfl
  · refine ⟨r.sticky &&& ~~~BitVec.ofNat 26 n, getLsbD_cleared r.sticky n, liveSet_setSticky r _, ?_⟩
    rw [exec_clearConditions_admitted ha hb hn, clearOwner_within within]
    rfl
  · rw [exec_setAlertMask_admitted ha hb hn, maskOwner_beyond beyond]
    rfl
  · intro t
    rw [exec_setAlertMask_admitted ha hb hn, maskOwner_within within, answered, hp]
    rfl
  · intro t
    rw [exec_setAlertMask_admitted ha hb hn, maskOwner_within within, answered, hp]
    rfl

end Sys2Proof.Machine

/-!
PROOF. LOOKUP_COMMITMENT, LOOKUP_OUTAGE and the walks (R54, R57, R58, R180): which record each search of a table finds, and
what the four requests answer and change.
-/
namespace Sys2Proof.Machine

/-! ### Searches of the tables -/

/-- A search finds the element that satisfies it when none before it does. -/
theorem find?_first {α : Type} {p : α → Bool} {l before after : List α} {a : α} (hl : l = before ++ a :: after)
    (ha : p a = true) (hb : ∀ k ∈ before, ¬ p k = true) : l.find? p = some a :=
  List.find?_eq_some_iff_append.mpr ⟨ha, before, after, hl, fun k hk => by simpa using hb k hk⟩

section
variable {records before after : List Commitment} {c : Commitment} {n : Nat} {key : Nat × Nat}

theorem findHandle_absent (h : ∀ c ∈ records, c.handle ≠ n) : findHandle n records = none :=
  List.find?_eq_none.mpr fun c hc => by simpa using h c hc

theorem findHandle_first (hl : records = before ++ c :: after) (hc : c.handle = n)
    (hb : ∀ k ∈ before, k.handle ≠ n) : findHandle n records = some c :=
  find?_first hl (decide_eq_true hc) fun k hk => by simpa using hb k hk

/-- A Market Reference of 0 names no record (R54). -/
theorem findReference_zero (records : List Commitment) : findReference 0 records = none := if_pos rfl

theorem findReference_nonzero (hn : n ≠ 0) (records : List Commitment) :
    findReference n records = records.find? fun c => decide (c.reference = n) := if_neg hn

theorem findReference_absent (h : n = 0 ∨ ∀ c ∈ records, c.reference ≠ n) : findReference n records = none := by
  rcases eq_or_ne n 0 with rfl | hn
  · exact findReference_zero records
  · rw [findReference_nonzero hn, List.find?_eq_none]
    exact fun c hc => by simpa using h.resolve_left hn c hc

theorem findReference_first (hn : n ≠ 0) (hl : records = before ++ c :: after) (hc : c.reference = n)
    (hb : ∀ k ∈ before, k.reference ≠ n) : findReference n records = some c := by
  rw [findReference_nonzero hn]
  exact find?_first hl (decide_eq_true hc) fun k hk => by simpa using hb k hk

/-- A record whose key is greater than the one given, by Start and then by Handle (R34). -/
def StandsAfter (key : Nat × Nat) (c : Commitment) : Prop :=
  key.1 < c.start ∨ (key.1 = c.start ∧ key.2 < c.handle)

theorem keyBefore_key_iff (key : Nat × Nat) (c : Commitment) : keyBefore key c.key = true ↔ StandsAfter key c := by
  simp only [keyBefore, Bool.or_eq_true, Bool.and_eq_true, decide_eq_true_iff]
  rfl

theorem firstAfter_absent (h : ∀ c ∈ records, ¬ StandsAfter key c) : firstAfter key records = none :=
  List.find?_eq_none.mpr fun c hc => (keyBefore_key_iff key c).not.mpr (h c hc)

theorem firstAfter_first (hl : records = before ++ c :: after) (hb : ∀ k ∈ before, ¬ StandsAfter key k)
    (hc : StandsAfter key c) : firstAfter key records = some c :=
  find?_first hl ((keyBefore_key_iff key c).mpr hc) fun k hk => (keyBefore_key_iff key k).not.mpr (hb k hk)

end

section
variable {outages before after : List Outage} {o : Outage} {n : Nat}

theorem searchOutage_exact_absent (h : ∀ o ∈ outages, o.handle ≠ n) : searchOutage (false, n) outages = none :=
  List.find?_eq_none.mpr fun o ho => by simpa using h o ho

theorem searchOutage_exact_first (hl : outages = before ++ o :: after) (ho : o.handle = n)
    (hb : ∀ k ∈ before, k.handle ≠ n) : searchOutage (false, n) outages = some o :=
  find?_first hl (decide_eq_true ho) fun k hk => by simpa using hb k hk

theorem searchOutage_next_absent (h : ∀ o ∈ outages, o.handle ≤ n) : searchOutage (true, n) outages = none :=
  List.find?_eq_none.mpr fun o ho => by simpa using h o ho

theorem searchOutage_next_first (hl : outages = before ++ o :: after) (ho : n < o.handle)
    (hb : ∀ k ∈ before, k.handle ≤ n) : searchOutage (true, n) outages = some o :=
  find?_first hl (decide_eq_true ho) fun k hk => by simpa using hb k hk

end

/-! ### The owners -/

/-- The record a LOOKUP_COMMITMENT names: by Market Reference when `key.1` is set, else by Handle (R54). -/
def searchCommitment (key : Bool × Nat) (records : List Commitment) : Option Commitment :=
  if key.1 then findReference key.2 records else findHandle key.2 records

theorem commitmentAnswer_absent {key : Bool × Nat} {s : State} (h : searchCommitment key s.store.commitments = none) :
    commitmentAnswer key s = .bare .notFound :=
  congrArg recordReply h

theorem commitmentAnswer_found {key : Bool × Nat} {s : State} {c : Commitment}
    (h : searchCommitment key s.store.commitments = some c) :
    commitmentAnswer key s = .withBody .done (commitmentBody c) :=
  congrArg recordReply h

theorem outageAnswer_absent {search : Bool × Nat} {s : State} (h : searchOutage search s.tables.outages = none) :
    outageAnswer search s = .bare .notFound := by
  rw [outageAnswer, h]

theorem outageAnswer_found {search : Bool × Nat} {s : State} {o : Outage}
    (h : searchOutage search s.tables.outages = some o) :
    outageAnswer search s = .withBody .done (outageBody o) := by
  rw [outageAnswer, h]

theorem walkFrom_absent {p : Port} {key : Nat × Nat} {s : State} (h : firstAfter key s.store.commitments = none) :
    walkFrom p key s = (.bare .notFound, setCursor p key s) := by
  rw [walkFrom, h]

theorem walkFrom_found {p : Port} {key : Nat × Nat} {s : State} {c : Commitment}
    (h : firstAfter key s.store.commitments = some c) :
    walkFrom p key s = (.withBody .done (commitmentBody c), setCursor p c.key s) := by
  rw [walkFrom, h]
  rfl

theorem walkNextOwner_unset {p : Port} {s : State} (h : (s.link p).cursor = none) :
    walkNextOwner p s = (.bare .wrongState, s) := by
  rw [walkNextOwner, h]

theorem walkNextOwner_set {p : Port} {s : State} {key : Nat × Nat} (h : (s.link p).cursor = some key) :
    walkNextOwner p s = walkFrom p key s := by
  rw [walkNextOwner, h]

/-! ### The commands -/

/-- The state once an owner's answer has gone to the port a frame came by (R18). -/
def afterOwner (f : Frame) (code : Octet) (done : Reply × State) : State :=
  respond (viaPort f.via) f.tag code done.1 done.2

theorem afterOwner_withBody (f : Frame) (code : Octet) (status : Status) (body : List Octet) (s : State) :
    afterOwner f code (.withBody status body, s) = answered f code status body s := rfl

theorem afterOwner_bare (f : Frame) (code : Octet) (status : Status) (s : State) :
    afterOwner f code (.bare status, s) = answered f code status [] s := rfl

section
variable {f : Frame} {n : Nat} {s r : State}

/-- LOOKUP_COMMITMENT appends its answer and changes nothing else (R54). -/
theorem exec_lookupCommitment_answered {named : Bool} {status : Status} {body : List Octet}
    (ha : Admitted bothPorts f s r) (hn : n < 4294967296) (hr : commitmentAnswer (named, n) r = .withBody status body)
    (hb : f.body = flag named ++ u32 n) :
    exec (.lookupCommitment f) s = .next (answered f 0x06 status body r) := by
  rw [← afterOwner_withBody, ← hr]
  exact congrArg Host.Outcome.next (lookup_admitted ha (hb ▸ parseBody_key named n hn))

/-- LOOKUP_OUTAGE appends its answer and changes nothing else (R180). -/
theorem exec_lookupOutage_answered {above : Bool} {status : Status} {body : List Octet}
    (ha : Admitted bothPorts f s r) (hn : n < 256) (hr : outageAnswer (above, n) r = .withBody status body)
    (hb : f.body = flag above ++ u8 n) :
    exec (.lookupOutage f) s = .next (answered f 0x22 status body r) := by
  rw [← afterOwner_withBody, ← hr]
  exact congrArg Host.Outcome.next (lookup_admitted ha (hb ▸ parseBody_search above n hn))

theorem exec_walkFirst_admitted (ha : Admitted bothPorts f s r) (hn : n < 4294967296) (hb : f.body = u32 n) :
    exec (.walkFirst f) s = .next (afterOwner f 0x07 (walkFrom (viaPort f.via) (n, 0) r)) :=
  congrArg Host.Outcome.next (atOnce_admitted ha (hb ▸ parseBody_u32 n hn))

theorem exec_walkNext_admitted (ha : Admitted bothPorts f s r) (hb : f.body = []) :
    exec (.walkNext f) s = .next (afterOwner f 0x08 (walkNextOwner (viaPort f.via) r)) :=
  congrArg Host.Outcome.next (atOnce_admitted ha (hb ▸ parseBody_empty))

/-- Going on from a key, the same for both walks: with no record after it, NOT_FOUND and the cursor at that key; otherwise
the first record after it, and the cursor at its key (R57, R58). -/
theorem walkFrom_answers {code : Octet} {outcome : Host.Outcome State Fault Refusal} {key : Nat × Nat}
    (h : outcome = .next (afterOwner f code (walkFrom (viaPort f.via) key r))) :
    ((∀ c ∈ r.store.commitments, ¬ StandsAfter key c) →
      outcome = .next (answered f code .notFound [] (setCursor (viaPort f.via) key r))) ∧
    (∀ before c after, r.store.commitments = before ++ c :: after → (∀ k ∈ before, ¬ StandsAfter key k) →
      StandsAfter key c →
      outcome = .next (answered f code .done (commitmentBody c) (setCursor (viaPort f.via) c.key r))) := by
  refine ⟨fun absent => ?_, fun before c after hl hb hc => ?_⟩
  · rw [h, walkFrom_absent (firstAfter_absent absent), afterOwner_bare]
  · rw [h, walkFrom_found (firstAfter_first hl hb hc), afterOwner_withBody]

end

/-- Settles O22: a lookup's answer follows from what its search of the table finds, and both walks go on from a key. -/
theorem recordsAreLookedUpAndWalked : Obligations.RecordsAreLookedUpAndWalked := by
  refine ⟨fun f key s r ha => ⟨fun hn => ⟨fun h => ?_, fun h => ?_, fun before c after hl => ⟨fun hc hb => ?_,
      fun hz hc hb => ?_⟩⟩, fun hn => ⟨fun h => ?_, fun h => ?_, fun before o after hl => ⟨fun ho hb => ?_,
      fun ho hb => ?_⟩⟩⟩,
    fun f s r ha => ⟨fun start hn hb => ?_, fun hb => ⟨fun unset => ?_, fun key held => ?_⟩⟩⟩
  · exact exec_lookupCommitment_answered ha hn (commitmentAnswer_absent (findHandle_absent h))
  · exact exec_lookupCommitment_answered ha hn (commitmentAnswer_absent (findReference_absent h))
  · exact exec_lookupCommitment_answered ha hn (commitmentAnswer_found (findHandle_first hl hc hb))
  · exact exec_lookupCommitment_answered ha hn (commitmentAnswer_found (findReference_first hz hl hc hb))
  · exact exec_lookupOutage_answered ha hn (outageAnswer_absent (searchOutage_exact_absent h))
  · exact exec_lookupOutage_answered ha hn (outageAnswer_absent (searchOutage_next_absent h))
  · exact exec_lookupOutage_answered ha hn (outageAnswer_found (searchOutage_exact_first hl ho hb))
  · exact exec_lookupOutage_answered ha hn (outageAnswer_found (searchOutage_next_first hl ho hb))
  · exact walkFrom_answers (exec_walkFirst_admitted ha hn hb)
  · rw [exec_walkNext_admitted ha hb, walkNextOwner_unset unset, afterOwner_bare]
  · refine walkFrom_answers ?_
    rw [exec_walkNext_admitted ha hb, walkNextOwner_set held]

end Sys2Proof.Machine

/-!
PROOF. CLAIM and RELEASE (R62, R63): their tables of ports and Authority States, read as a status and the state after.
-/
namespace Sys2Proof.Machine

/-! ### The tables -/

/-- The status of a CLAIM, and the Authority State after it (R62). -/
def claimRow : Authority → Port → Status × Authority
  | .market, .mp => (.doneUnchanged, .market)
  | .market, .sp => (.noAuthority, .market)
  | .openState, .mp => (.done, .market)
  | .openState, .sp => (.done, .supervisory)
  | .supervisory, .mp => (.wrongState, .supervisory)
  | .supervisory, .sp => (.doneUnchanged, .supervisory)

/-- The status of a RELEASE, and the Authority State after it (R63). -/
def releaseRow : Port → Authority → Status × Authority
  | .mp, .market => (.done, .openState)
  | .mp, .openState => (.doneUnchanged, .openState)
  | .mp, .supervisory => (.wrongState, .supervisory)
  | .sp, .supervisory => (.done, .openState)
  | .sp, .market => (.doneUnchanged, .market)
  | .sp, .openState => (.doneUnchanged, .openState)

/-! ### The owners -/

theorem setAuthority_self {a : Authority} {s : State} (h : s.store.authority = a) : setAuthority a s = s := by
  subst h
  rfl

/-- An owner that keeps the Authority State has written it as it was: so the rows that keep it and the rows that change it
read alike. -/
theorem claimOwner_eq {a : Authority} {s : State} (p : Port) (h : s.store.authority = a) :
    claimOwner p s = authorityReply (claimRow a p).1 (setAuthority (claimRow a p).2 s) := by
  cases a <;> cases p <;> simp only [claimOwner, claimRow, h, setAuthority_self h]

theorem releaseOwner_eq {a : Authority} {s : State} (p : Port) (h : s.store.authority = a) :
    releaseOwner p s = authorityReply (releaseRow p a).1 (setAuthority (releaseRow p a).2 s) := by
  cases p <;> cases a <;> simp only [releaseOwner, releaseRow, h, setAuthority_self h]

/-! ### The commands -/

/-- The answer carries the Authority State after the request, whatever its status (R61). -/
theorem afterOwner_authorityReply (f : Frame) (code : Octet) (status : Status) (after : Authority) (s : State) :
    afterOwner f code (authorityReply status (setAuthority after s)) =
      answered f code status (u8 (authorityCode after)) { s with store := { s.store with authority := after } } := rfl

section
variable {f : Frame} {s r : State} {a : Authority} {p : Port}

theorem exec_claim_admitted (ha : Admitted bothPorts f s r) (hb : f.body = []) :
    exec (.claim f) s = .next (afterOwner f 0x10 (claimOwner (viaPort f.via) r)) :=
  congrArg Host.Outcome.next (atOnce_admitted ha (hb ▸ parseBody_empty))

theorem exec_release_admitted (ha : Admitted bothPorts f s r) (hb : f.body = []) :
    exec (.release f) s = .next (afterOwner f 0x11 (releaseOwner (viaPort f.via) r)) :=
  congrArg Host.Outcome.next (atOnce_admitted ha (hb ▸ parseBody_empty))

theorem exec_claim_follows_row (ha : Admitted bothPorts f s r) (hb : f.body = []) (hr : r.store.authority = a)
    (hp : viaPort f.via = p) :
    exec (.claim f) s = .next (answered f 0x10 (claimRow a p).1 (u8 (authorityCode (claimRow a p).2))
      { r with store := { r.store with authority := (claimRow a p).2 } }) := by
  rw [exec_claim_admitted ha hb, hp, claimOwner_eq p hr, afterOwner_authorityReply]

theorem exec_release_follows_row (ha : Admitted bothPorts f s r) (hb : f.body = []) (hp : viaPort f.via = p)
    (hr : r.store.authority = a) :
    exec (.release f) s = .next (answered f 0x11 (releaseRow p a).1 (u8 (authorityCode (releaseRow p a).2))
      { r with store := { r.store with authority := (releaseRow p a).2 } }) := by
  rw [exec_release_admitted ha hb, hp, releaseOwner_eq p hr, afterOwner_authorityReply]

end

/-- Settles O24: each of the twelve outcomes is the row of its table at its port and Authority State. -/
theorem claimAndReleaseFollowTheirTables : Obligations.ClaimAndReleaseFollowTheirTables := by
  refine ⟨fun f s r ha hb => ?_, fun f s r ha hb => ?_⟩
  · have row {a p} := exec_claim_follows_row (a := a) (p := p) ha hb
    exact ⟨row, row, row, row, row, row⟩
  · have row {p a} := exec_release_follows_row (p := p) (a := a) ha hb
    exact ⟨row, row, row, row, row, row⟩

end Sys2Proof.Machine

/-!
PROOF. The row arithmetic of a Pass (R86, R87, R91 to R98): what a row counts, what its Steps leave, which members its
Failure Set holds, and how the rows of a Working Copy follow one another.
-/
namespace Sys2Proof.Machine

/-! ### Records counted and their sums (R86) -/

theorem sumInt_eq_foldr {α : Type} (f : α → Int) (l : List α) : sumInt f l = (l.map f).foldr (· + ·) 0 := by
  induction l with
  | nil => rfl
  | cons a l ih => simp only [sumInt, ih, List.map_cons, List.foldr_cons]

theorem Commitment.covers_iff (c : Commitment) (interval : Nat) :
    c.covers interval = true ↔ c.start ≤ interval ∧ interval ≤ c.start + c.length - 1 := by
  rw [Commitment.covers, Bool.and_eq_true, decide_eq_true_iff, decide_eq_true_iff, Commitment.last]

theorem Commitment.lapsing_iff (c : Commitment) (base : Nat) :
    c.lapsing base = true ↔ c.standing = .tentative ∧ c.start ≤ base := by
  rw [Commitment.lapsing, Bool.and_eq_true, decide_eq_true_iff, decide_eq_true_iff]

/-- The two searches of the model, by span and Standing and then by kind, read as one condition on a record. -/
theorem powerOf_countedIn (k : CommitmentKind) (records : List Commitment) (base interval : Nat) :
    powerOf k (countedIn records base interval) =
      ((records.filter fun c => decide (c.kind = k ∧ c.start ≤ interval ∧ interval ≤ c.start + c.length - 1 ∧
        ¬ (c.standing = .tentative ∧ c.start ≤ base))).map Commitment.power).foldr (· + ·) 0 := by
  rw [powerOf, countedIn, List.filter_filter, sumInt_eq_foldr]
  congr 3
  funext c
  rw [Bool.eq_iff_iff]
  simp only [Bool.and_eq_true, Bool.not_eq_true', ← Bool.not_eq_true, decide_eq_true_iff, Commitment.covers_iff,
    Commitment.lapsing_iff, and_assoc]

/-! ### Capacities (R87, R178) -/

theorem sumOver_compressors (f : Train → Nat) : sumOver f (trainsOf .compressor) = f .k1 + f .k2 + f .k3 := by
  simp only [trainsOf, sumOver, Nat.add_zero, Nat.add_assoc]

theorem sumOver_expanders (f : Train → Nat) : sumOver f (trainsOf .expander) = f .x1 + f .x2 + f .x3 := by
  simp only [trainsOf, sumOver, Nat.add_zero, Nat.add_assoc]

theorem sampledReserve_eq (st : StartState) (interval : Nat) (t : Train) :
    sampledReserve st interval t =
      if ((st.trains.get t).descriptor.map Descriptor.reserveCapable) = some true then sampledLimit st interval t
      else 0 := by
  cases hd : (st.trains.get t).descriptor <;> simp [sampledReserve, hd]

/-- The Outage Records of a train that cover an interval (R178). -/
def outagesOver (outages : List Outage) (t : Train) (interval : Nat) : List Outage :=
  outages.filter fun o => decide (o.train = t ∧ o.first ≤ interval ∧ interval ≤ o.last)

/-- A limit held to an Outage Record's Derate Max, where it has one (R178). -/
def deratedBy (limit : Nat) (o : Outage) : Nat := min limit (o.derateMax.getD limit)

theorem deratedBy_none {o : Outage} (h : o.derateMax = none) (limit : Nat) : deratedBy limit o = limit := by
  simp [deratedBy, h]

theorem deratedBy_some {o : Outage} {m : Nat} (h : o.derateMax = some m) (limit : Nat) :
    deratedBy limit o = min limit m := by
  simp [deratedBy, h]

theorem limitUnder_eq (outages : List Outage) (t : Train) (interval maxLoad : Nat) :
    limitUnder outages t interval maxLoad =
      if (outagesOver outages t interval).any (fun o => decide (o.kind = .full)) then 0
      else (outagesOver outages t interval).foldl deratedBy maxLoad := by
  have covering : (outages.filter fun o => decide (o.train = t) && o.covers interval) =
      outagesOver outages t interval := by
    simp only [outagesOver, Outage.covers, Bool.decide_and]
  rw [limitUnder, covering]
  rfl

/-- `limit` is the least of `maxLoad` and the Derate Maxima of `outages`. -/
def LeastDerate (outages : List Outage) (maxLoad limit : Nat) : Prop :=
  limit ≤ maxLoad ∧ (∀ o ∈ outages, ∀ m, o.derateMax = some m → limit ≤ m) ∧
  (limit = maxLoad ∨ ∃ o ∈ outages, o.derateMax = some limit)

theorem leastDerate_foldl (outages : List Outage) (maxLoad : Nat) :
    LeastDerate outages maxLoad (outages.foldl deratedBy maxLoad) := by
  induction outages generalizing maxLoad with
  | nil => exact ⟨le_rfl, by simp, .inl rfl⟩
  | cons o rest ih =>
    rw [List.foldl_cons]
    obtain ⟨atMost, atMostDerates, attained⟩ := ih (deratedBy maxLoad o)
    cases hd : o.derateMax with
    | none =>
      rw [deratedBy_none hd] at atMost atMostDerates attained ⊢
      exact ⟨atMost, by simpa [hd] using atMostDerates, attained.imp_right fun ⟨k, hk, he⟩ => ⟨k, by simp [hk], he⟩⟩
    | some m =>
      rw [deratedBy_some hd] at atMost atMostDerates attained ⊢
      obtain ⟨atMostLoad, atMostHead⟩ := le_min_iff.mp atMost
      refine ⟨atMostLoad, by simpa [hd] using ⟨atMostHead, atMostDerates⟩, ?_⟩
      obtain atMin | ⟨k, hk, he⟩ := attained
      · rcases min_choice maxLoad m with isLoad | isDerate
        · exact .inl (atMin.trans isLoad)
        · exact .inr ⟨o, by simp, by rw [hd, atMin, isDerate]⟩
      · exact .inr ⟨k, by simp [hk], he⟩

section
variable {st : StartState} {interval : Nat} {t : Train} {d : Descriptor}

theorem sampledLimit_unavailable (h : (st.trains.get t).available = false ∨ (st.trains.get t).descriptor = none) :
    sampledLimit st interval t = 0 := by
  rcases h with h | h <;> simp [sampledLimit, h]

theorem sampledLimit_available (ha : (st.trains.get t).available = true) (hd : (st.trains.get t).descriptor = some d) :
    sampledLimit st interval t = limitUnder st.outages t interval d.maxLoad := by
  simp only [sampledLimit, ha, hd]

theorem limitUnder_full {outages : List Outage} {maxLoad : Nat}
    (h : ∃ o ∈ outagesOver outages t interval, o.kind = .full) : limitUnder outages t interval maxLoad = 0 := by
  rw [limitUnder_eq, if_pos (by simpa using h)]

theorem limitUnder_derated {outages : List Outage} {maxLoad : Nat}
    (h : ∀ o ∈ outagesOver outages t interval, o.kind = .derate) :
    LeastDerate (outagesOver outages t interval) maxLoad (limitUnder outages t interval maxLoad) := by
  have noFull : ¬ (outagesOver outages t interval).any (fun o => decide (o.kind = .full)) = true := by
    simpa using fun o ho => by simp [h o ho]
  rw [limitUnder_eq, if_neg noFull]
  exact leastDerate_foldl _ _

end

/-! ### What a power carries (R91) -/

theorem carried_bounds (power rate seconds : Nat) :
    72000 * carried power rate seconds ≤ 2 * (power * rate * seconds) + 36000 ∧
    2 * (power * rate * seconds) + 36000 < 72000 * (carried power rate seconds + 1) := by
  rw [carried, roundHalfUp]
  omega

theorem carried_zero (rate seconds : Nat) : carried 0 rate seconds = 0 := by
  simp [carried, roundHalfUp]

/-! ### Steps 2 to 4 at one point (R93 to R95) -/

section
variable (st : StartState) (seconds : Nat) (start : RowStart) (p : Int)

theorem stepMass_zero (h : start.mass ≤ 4294967295) : stepMass st seconds start 0 = start.mass := by
  simpa [stepMass, carried_zero, maxU32] using h

/-- The heat a generating point draws from the usable heat (R95). -/
def heatDrawn : Nat := if 0 < p then min (carried p.natAbs st.rates.genHeat seconds) start.usable else 0

/-- The heat a charging point deposits in the free room (R95). -/
def heatTaken : Nat := if p < 0 then min (carried p.natAbs st.rates.chgHeat seconds) start.free else 0

/-- The usable heat after Step 4: a deposit below T_use is not usable (R95). -/
def usableAfter : Nat :=
  start.usable - heatDrawn st seconds start p + if st.heat.tUse ≤ st.heat.tNom then heatTaken st seconds start p else 0

theorem stepHeat_usable : (stepHeat st seconds start p).1 = usableAfter st seconds start p := by
  rcases lt_trichotomy p 0 with neg | rfl | pos
  · simp only [stepHeat, usableAfter, heatDrawn, heatTaken, neg, neg.not_gt, if_true, if_false]
    split <;> simp
  · simp [stepHeat, usableAfter, heatDrawn, heatTaken]
  · simp only [stepHeat, usableAfter, heatDrawn, heatTaken, pos, pos.not_gt, if_true, if_false, ite_self]
    split <;> simp only <;> omega

theorem stepHeat_free :
    (stepHeat st seconds start p).2.1 = start.free + heatDrawn st seconds start p - heatTaken st seconds start p := by
  rcases lt_trichotomy p 0 with neg | rfl | pos
  · simp [stepHeat, heatDrawn, heatTaken, neg, neg.not_gt]
  · simp [stepHeat, heatDrawn, heatTaken]
  · simp only [stepHeat, heatDrawn, heatTaken, pos, pos.not_gt, if_true, if_false]
    split <;> simp only <;> omega

/-- Which failures Steps 3 and 4 find at a point; CAPACITY is Step 1's (R94, R95). -/
def PointFails : Failure → Prop
  | .capacity => False
  | .pressureLow => forwardPressure st.characteristic (stepMass st seconds start p) < st.thresholds.lowLimit
  | .pressureHigh => st.thresholds.highLimit < forwardPressure st.characteristic (stepMass st seconds start p)
  | .rate =>
    rateAllowance st seconds + start.pressure < forwardPressure st.characteristic (stepMass st seconds start p) ∨
    rateAllowance st seconds + forwardPressure st.characteristic (stepMass st seconds start p) < start.pressure
  | .heatShort => 0 < p ∧ start.usable < carried p.natAbs st.rates.genHeat seconds
  | .heatFull => p < 0 ∧ start.free < carried p.natAbs st.rates.chgHeat seconds

theorem mem_pressureFailures {before after : Nat} (f : Failure) :
    f ∈ pressureFailures st seconds before after ↔
      (f = .pressureLow ∧ after < st.thresholds.lowLimit) ∨ (f = .pressureHigh ∧ st.thresholds.highLimit < after) ∨
      (f = .rate ∧ (rateAllowance st seconds + before < after ∨ rateAllowance st seconds + after < before)) := by
  have moved : rateAllowance st seconds < (after - before) + (before - after) ↔
      rateAllowance st seconds + before < after ∨ rateAllowance st seconds + after < before := by omega
  simp only [pressureFailures, moved, List.mem_append, List.mem_ite_nil_right, List.mem_singleton, or_assoc,
    and_comm (b := f = _)]

theorem mem_stepHeat_failures (f : Failure) :
    f ∈ (stepHeat st seconds start p).2.2 ↔
      (f = .heatShort ∧ 0 < p ∧ start.usable < carried p.natAbs st.rates.genHeat seconds) ∨
      (f = .heatFull ∧ p < 0 ∧ start.free < carried p.natAbs st.rates.chgHeat seconds) := by
  rcases lt_trichotomy p 0 with neg | rfl | pos
  · simp [stepHeat, neg, neg.not_gt, and_comm]
  · simp [stepHeat]
  · simp only [stepHeat, pos, pos.not_gt, if_true]
    split <;> simp [*]

theorem mem_runPoint_failures (f : Failure) :
    f ∈ (runPoint st seconds start p).failures ↔ PointFails st seconds start p f := by
  simp only [runPoint, List.mem_append, mem_pressureFailures, mem_stepHeat_failures]
  cases f <;> simp [PointFails]

end

/-! ### Capacity tests (R92, R97, R98) -/

theorem mem_scheduledCapacity {net : Int} {gen chg : Nat} {f : Failure} :
    f ∈ scheduledCapacity net gen chg ↔ f = .capacity ∧ ((gen : Int) < net ∨ (chg : Int) < -net) := by
  rcases lt_or_ge 0 net with pos | nonpos
  · have notCharging : ¬ (chg : Int) < -net := by omega
    simp [scheduledCapacity, pos, notCharging, and_comm]
  · have notGenerating : ¬ (gen : Int) < net := by omega
    have charging : net < 0 ∧ (chg : Int) < -net ↔ (chg : Int) < -net := by omega
    simp [scheduledCapacity, nonpos.not_gt, notGenerating, charging, and_comm]

theorem mem_upCapacity {net : Int} {up gen reserveGen : Nat} {f : Failure} :
    f ∈ upCapacity net up gen reserveGen ↔ f = .capacity ∧ ((gen : Int) < net + up ∨ reserveGen < up) := by
  rw [upCapacity, List.mem_ite_nil_right, List.mem_singleton, and_comm]

theorem mem_downCapacity {net : Int} {down chg reserveChg : Nat} {f : Failure} :
    f ∈ downCapacity net down chg reserveChg ↔
      f = .capacity ∧ ((chg : Int) < down - net ∨ max net 0 + (reserveChg : Int) < down) := by
  have charging : net - down < 0 ∧ (chg : Int) < down - net ↔ (chg : Int) < down - net := by omega
  simp only [downCapacity, charging, List.mem_ite_nil_right, List.mem_singleton, and_comm]

/-! ### The Failure Set and the Verdict (R78, R96) -/

theorem mem_allMembers (m : Failure × PointTag) : m ∈ allMembers := by
  obtain ⟨f, tag⟩ := m
  cases f <;> cases tag <;> decide

/-- The Failure Set of a row from the failures of its three points, in the order of R78. -/
def failureMembers (scheduled up down : List Failure) : List (Failure × PointTag) :=
  allMembers.filter fun m =>
    (scheduled.map (fun f => (f, PointTag.scheduled)) ++ up.map (fun f => (f, PointTag.upPoint)) ++
      down.map (fun f => (f, PointTag.downPoint))).contains m

section
variable {scheduled up down : List Failure} {f : Failure} {row : Row}

theorem mem_failureMembers_scheduled : (f, PointTag.scheduled) ∈ failureMembers scheduled up down ↔ f ∈ scheduled := by
  simp [failureMembers, mem_allMembers]

theorem mem_failureMembers_upPoint : (f, PointTag.upPoint) ∈ failureMembers scheduled up down ↔ f ∈ up := by
  simp [failureMembers, mem_allMembers]

theorem mem_failureMembers_downPoint : (f, PointTag.downPoint) ∈ failureMembers scheduled up down ↔ f ∈ down := by
  simp [failureMembers, mem_allMembers]

theorem verdictOf_cases (scheduled up down : List Failure) :
    (failureMembers scheduled up down = [] ∧ verdictOf scheduled up down = .feasible) ∨
    (failureMembers scheduled up down ≠ [] ∧
      verdictOf scheduled up down = .failing (failureMembers scheduled up down)) := by
  dsimp only [verdictOf, failureMembers]
  split
  · exact .inl ⟨‹_›, rfl⟩
  · exact .inr ⟨‹_›, rfl⟩

theorem Row.failures_of_feasible (h : row.verdict = .feasible) : row.failures = [] := by
  rw [Row.failures, h]

theorem Row.failures_of_failing {members : List (Failure × PointTag)} (h : row.verdict = .failing members) :
    row.failures = members := by
  rw [Row.failures, h]

theorem Row.failures_of_verdictOf (h : row.verdict = verdictOf scheduled up down) :
    row.failures = failureMembers scheduled up down := by
  obtain ⟨empty, feasible⟩ | ⟨-, failing⟩ := verdictOf_cases scheduled up down
  · rw [empty, Row.failures_of_feasible (h.trans feasible)]
  · rw [Row.failures_of_failing (h.trans failing)]

/-- A row judged by its three points is FEASIBLE exactly when it has no failure, and else FAILING with its Failure Set. -/
theorem Row.verdict_of_verdictOf (h : row.verdict = verdictOf scheduled up down) :
    (row.verdict = .feasible ∨ row.verdict = .failing row.failures) ∧
    (row.verdict = .feasible ↔ row.failures = []) := by
  rw [Row.failures_of_verdictOf h, h]
  obtain ⟨empty, feasible⟩ | ⟨nonempty, failing⟩ := verdictOf_cases scheduled up down
  · exact ⟨.inl feasible, iff_of_true feasible empty⟩
  · exact ⟨.inr failing, iff_of_false (by simp [failing]) nonempty⟩

end

/-! ### A row (R91 to R98) -/

section
variable (st : StartState) (records : List Commitment) (r : Nat) (start : RowStart)

theorem evalRow_endUsable :
    (evalRow st records r start).endUsable =
      usableAfter st (secondsAhead st r) start (evalRow st records r start).net * (1000 - st.heat.loss) / 1000 := by
  rw [← stepHeat_usable]
  rfl

theorem evalRow_endFree :
    let row := evalRow st records r start
    row.endFree = start.free + heatDrawn st (secondsAhead st r) start row.net -
      heatTaken st (secondsAhead st r) start row.net +
        (usableAfter st (secondsAhead st r) start row.net - row.endUsable) := by
  intro row
  rw [← stepHeat_usable, ← stepHeat_free]
  rfl

/-- The failures of the scheduled point: Step 1's, then those of Steps 3 and 4 (R92). -/
def scheduledFailures (row : Row) : List Failure :=
  scheduledCapacity row.net row.genCapacity row.chgCapacity ++
    (runPoint st (secondsAhead st r) start row.net).failures

/-- The failures of the up point, none when Up is 0 (R97). -/
def upFailures (row : Row) : List Failure :=
  if row.up = 0 then []
  else upCapacity row.net row.up row.genCapacity row.reserveGen ++
    (runPoint st (secondsAhead st r) start (row.net + row.up)).failures

/-- The failures of the down point, none when Down is 0 (R98). -/
def downFailures (row : Row) : List Failure :=
  if row.down = 0 then []
  else downCapacity row.net row.down row.chgCapacity row.reserveChg ++
    (runPoint st (secondsAhead st r) start (row.net - row.down)).failures

theorem evalRow_verdict :
    let row := evalRow st records r start
    row.verdict =
      verdictOf (scheduledFailures st r start row) (upFailures st r start row) (downFailures st r start row) := rfl

theorem evalRow_scheduled (f : Failure) :
    let row := evalRow st records r start
    (f, .scheduled) ∈ row.failures ↔ PointFails st (secondsAhead st r) start row.net f ∨
      (f = .capacity ∧ ((row.genCapacity : Int) < row.net ∨ (row.chgCapacity : Int) < -row.net)) := by
  intro row
  rw [Row.failures_of_verdictOf (evalRow_verdict st records r start), mem_failureMembers_scheduled, scheduledFailures,
    List.mem_append, mem_runPoint_failures, mem_scheduledCapacity, or_comm]

theorem evalRow_upPoint (f : Failure) :
    let row := evalRow st records r start
    (f, .upPoint) ∈ row.failures ↔ 0 < row.up ∧ (PointFails st (secondsAhead st r) start (row.net + row.up) f ∨
      (f = .capacity ∧ ((row.genCapacity : Int) < row.net + row.up ∨ row.reserveGen < row.up))) := by
  intro row
  rw [Row.failures_of_verdictOf (evalRow_verdict st records r start), mem_failureMembers_upPoint, upFailures,
    List.mem_ite_nil_left, List.mem_append, mem_runPoint_failures, mem_upCapacity, or_comm, Nat.pos_iff_ne_zero]

theorem evalRow_downPoint (f : Failure) :
    let row := evalRow st records r start
    (f, .downPoint) ∈ row.failures ↔ 0 < row.down ∧ (PointFails st (secondsAhead st r) start (row.net - row.down) f ∨
      (f = .capacity ∧ ((row.chgCapacity : Int) < row.down - row.net ∨
        max row.net 0 + (row.reserveChg : Int) < row.down))) := by
  intro row
  rw [Row.failures_of_verdictOf (evalRow_verdict st records r start), mem_failureMembers_downPoint, downFailures,
    List.mem_ite_nil_left, List.mem_append, mem_runPoint_failures, mem_downCapacity, or_comm, Nat.pos_iff_ne_zero]

end

/-! ### The rows of a Pass (R88, R96) -/

section
variable (st : StartState) (records : List Commitment)

theorem evalRows_length (n r : Nat) (start : RowStart) : (evalRows st records n r start).length = n := by
  induction n generalizing r start with
  | zero => rfl
  | succ n ih => rw [evalRows, List.length_cons, ih]

theorem evalRows_head? (n r : Nat) (start : RowStart) :
    (evalRows st records (n + 1) r start).head? = some (evalRow st records r start) := rfl

/-- Each row starts from the End values of the row before it (R96). -/
theorem evalRows_chained {n r i : Nat} {start : RowStart} {a b : Row}
    (ha : (evalRows st records n r start)[i]? = some a) (hb : (evalRows st records n r start)[i + 1]? = some b) :
    b = evalRow st records (r + i + 1) a.next := by
  induction n generalizing r start i with
  | zero => simp [evalRows] at ha
  | succ n ih =>
    rw [evalRows, List.getElem?_cons_succ] at hb
    cases i with
    | zero =>
      obtain rfl : evalRow st records r start = a := by simpa [evalRows] using ha
      cases n with
      | zero => simp [evalRows] at hb
      | succ n => simpa [evalRows] using hb.symm
    | succ i =>
      rw [evalRows, List.getElem?_cons_succ] at ha
      rw [ih ha hb]
      congr 1
      omega

end

theorem completedCopy_empty (st : StartState) (trial : Option Trial) :
    completedCopy st trial [] = evalRows st (overlay trial st.commitments) 192 0 (firstStart st) := by
  simp only [completedCopy, List.nil_append, List.length_nil, Nat.sub_zero, nextStart, List.getLast?_nil]

/-- Settles O35: a row is put together from its sums, capacities, Steps and Failure Set, and the rows from the first one on
by their chaining. -/
theorem rowsAreEvaluatedStepByStep : Obligations.RowsAreEvaluatedStepByStep := by
  refine ⟨fun st records r start hm => ?_, carried_bounds, fun st interval t => ?_, fun st trial => ?_⟩
  · refine ⟨rfl, powerOf_countedIn .., congrArg Int.toNat (powerOf_countedIn ..),
      congrArg Int.toNat (powerOf_countedIn ..), sumOver_expanders _, sumOver_compressors _, ?_, ?_, rfl, fun idle => ?_,
      rfl, evalRow_endUsable st records r start, evalRow_endFree st records r start, evalRow_scheduled st records r start,
      evalRow_upPoint st records r start, evalRow_downPoint st records r start,
      Row.verdict_of_verdictOf (evalRow_verdict st records r start)⟩
    · simp only [← sampledReserve_eq]
      exact sumOver_expanders _
    · simp only [← sampledReserve_eq]
      exact sumOver_compressors _
    · exact (congrArg (stepMass st (secondsAhead st r) start) idle).trans (stepMass_zero st _ start hm)
  · refine ⟨sampledLimit_unavailable, fun d ha hd => ?_⟩
    rw [sampledLimit_available ha hd]
    exact ⟨limitUnder_full, limitUnder_derated⟩
  · rw [completedCopy_empty]
    refine ⟨evalRows_length .., evalRows_head? .., fun r a b ha hb => ?_⟩
    exact (evalRows_chained st _ ha hb).trans (by rw [Nat.zero_add]; rfl)

end Sys2Proof.Machine

/-!
PROOF. The Cavern Account (R109 to R118): both interpolations on a segment and past the ends, the transitions of the Band
and the end of its evaluation, and what CALIBRATE and MASS_INTEGRATION leave.
-/
namespace Sys2Proof.Machine

/-! ### Interpolation (R109, R110, R117) -/

section
variable {before after : List (Nat × Nat)} {a b : Nat × Nat} {x m p : Nat}

/-- The segments that end at or before the one with `x` in it are passed over. -/
theorem alongSegments_append (h : ∀ c ∈ before, c.1 ≤ a.1) (hx : a.1 ≤ x) :
    alongSegments (before ++ a :: after) x = alongSegments (a :: after) x := by
  induction before with
  | nil => rfl
  | cons c rest ih =>
    have hrest : ∀ d ∈ rest, d.1 ≤ a.1 := fun d hd => h d (List.mem_cons_of_mem c hd)
    rw [← ih hrest]
    cases rest with
    | nil => exact if_neg (Nat.not_lt.mpr hx)
    | cons d rest => exact if_neg (Nat.not_lt.mpr ((hrest d List.mem_cons_self).trans hx))

theorem alongSegments_segment (h : x < b.1) :
    alongSegments (a :: b :: after) x = a.2 + (x - a.1) * (b.2 - a.2) / (b.1 - a.1) := if_pos h

/-- A point of a segment lies below the segment's upper end. -/
theorem segment_lt (ha : a.1 ≤ x) (hb : x < b.1) (hab : a.2 < b.2) :
    a.2 + (x - a.1) * (b.2 - a.2) / (b.1 - a.1) < b.2 := by
  have hpart : (x - a.1) * (b.2 - a.2) / (b.1 - a.1) < b.2 - a.2 := by
    refine Nat.div_lt_of_lt_mul (Nat.mul_lt_mul_of_pos_right ?_ (Nat.sub_pos_of_lt hab))
    omega
  omega

theorem forwardPressure_below (h : m < a.1) : forwardPressure (a :: after) m = a.2 := if_pos h

theorem forwardPressure_append (h : ∀ c ∈ before, c.1 ≤ a.1) (hm : a.1 ≤ m) :
    forwardPressure (before ++ a :: after) m = alongSegments (a :: after) m := by
  rw [← alongSegments_append h hm]
  cases before with
  | nil => exact if_neg (Nat.not_lt.mpr hm)
  | cons c rest => exact if_neg (Nat.not_lt.mpr ((h c List.mem_cons_self).trans hm))

theorem inverseMass_append (h : ∀ c ∈ before, c.2 ≤ a.2) (hp : a.2 ≤ p) :
    inverseMass (before ++ a :: after) p = inverseMass (a :: after) p := by
  simp only [inverseMass, List.map_append, List.map_cons]
  refine alongSegments_append (fun c hc => ?_) hp
  obtain ⟨d, hd, rfl⟩ := List.mem_map.mp hc
  exact h d hd

theorem inverseMass_segment (h : p < b.2) :
    inverseMass (a :: b :: after) p = a.1 + (p - a.2) * (b.1 - a.1) / (b.2 - a.2) := alongSegments_segment h

/-- The mass and pressure of every point of a sound Characteristic lie at or below those of a later one. -/
theorem ascending_before (h : (before ++ a :: after).Pairwise fun x y => x.1 < y.1 ∧ x.2 < y.2) :
    ∀ c ∈ before, c.1 ≤ a.1 ∧ c.2 ≤ a.2 := by
  intro c hc
  obtain ⟨hm, hp⟩ := (List.pairwise_append.mp h).2.2 c hc a List.mem_cons_self
  exact ⟨hm.le, hp.le⟩

theorem ascending_segment (h : (before ++ a :: b :: after).Pairwise fun x y => x.1 < y.1 ∧ x.2 < y.2) :
    a.1 < b.1 ∧ a.2 < b.2 :=
  List.rel_of_pairwise_cons (List.pairwise_append.mp h).2.1 List.mem_cons_self

theorem forwardPressure_on_segment (h : (before ++ a :: b :: after).Pairwise fun x y => x.1 < y.1 ∧ x.2 < y.2)
    (ha : a.1 ≤ m) (hb : m < b.1) :
    forwardPressure (before ++ a :: b :: after) m = a.2 + (m - a.1) * (b.2 - a.2) / (b.1 - a.1) := by
  rw [forwardPressure_append (fun c hc => (ascending_before h c hc).1) ha, alongSegments_segment hb]

theorem forwardPressure_past_last (h : (before ++ [a]).Pairwise fun x y => x.1 < y.1 ∧ x.2 < y.2) (ha : a.1 ≤ m) :
    forwardPressure (before ++ [a]) m = a.2 :=
  forwardPressure_append (fun c hc => (ascending_before h c hc).1) ha

theorem inverseMass_on_segment (h : (before ++ a :: b :: after).Pairwise fun x y => x.1 < y.1 ∧ x.2 < y.2)
    (ha : a.2 ≤ p) (hb : p < b.2) :
    inverseMass (before ++ a :: b :: after) p = a.1 + (p - a.2) * (b.1 - a.1) / (b.2 - a.2) := by
  rw [inverseMass_append (fun c hc => (ascending_before h c hc).2) ha, inverseMass_segment hb]

theorem inverseMass_at_last (h : (before ++ [a]).Pairwise fun x y => x.1 < y.1 ∧ x.2 < y.2) :
    inverseMass (before ++ [a]) a.2 = a.1 :=
  inverseMass_append (fun c hc => (ascending_before h c hc).2) le_rfl

end

section
variable {points : List (Nat × Nat)} {first last : Nat × Nat}

theorem massOutside_iff (hf : points.head? = some first) (hl : points.getLast? = some last) (m : Nat) :
    massOutside points m = true ↔ m < first.1 ∨ last.1 < m := by
  simp only [massOutside, hf, hl, Bool.or_eq_true, decide_eq_true_iff]

/-- The Applied Pressure is the measured one held between the ends of the Characteristic (R117). -/
theorem appliedPressure_eq (hf : points.head? = some first) (hl : points.getLast? = some last)
    (h : first.2 ≤ last.2) (p : Nat) : appliedPressure points p = max first.2 (min last.2 p) := by
  simp only [appliedPressure, hf, hl]
  split
  · omega
  · split <;> omega

end

/-! ### The Band (R114) -/

/-- The place of a band in the order of pressures. -/
def bandPosition : Band → Nat
  | .lowLimit => 0
  | .lowWarn => 1
  | .normal => 2
  | .highWarn => 3
  | .highLimit => 4

/-- How far a band lies from the end to which the transitions for a pressure lead: LOW_LIMIT below the low warning,
HIGH_LIMIT above the high one, NORMAL between them. -/
def bandDistance (th : Thresholds) (p : Nat) (b : Band) : Nat :=
  if p < th.lowWarn then bandPosition b
  else if th.highWarn < p then 4 - bandPosition b
  else (bandPosition b - 2) + (2 - bandPosition b)

theorem bandDistance_le (th : Thresholds) (p : Nat) (b : Band) : bandDistance th p b ≤ 4 := by
  have hb : bandPosition b ≤ 4 := by cases b <;> decide
  unfold bandDistance
  split
  · exact hb
  · split <;> omega

section
variable {th : Thresholds} {p n : Nat} {b into : Band}

theorem bandSteps_of_none (h : bandStep th p b = none) : bandSteps th p n b = b := by
  cases n with
  | zero => rfl
  | succ n => rw [bandSteps, h]

theorem bandSteps_of_some (h : bandStep th p b = some into) : bandSteps th p (n + 1) b = bandSteps th p n into := by
  rw [bandSteps, h]

section
variable (hl : th.lowLimit < th.lowWarn) (hw : th.lowWarn < th.highWarn) (hh : th.highWarn < th.highLimit)
include hl hw hh

/-- The table of transitions: with ordered thresholds no two of a band's transitions apply to one pressure. -/
theorem bandStep_eq_some_iff : bandStep th p b = some into ↔
    (b = .normal ∧ p < th.lowWarn ∧ into = .lowWarn) ∨
    (b = .lowWarn ∧ p < th.lowLimit ∧ into = .lowLimit) ∨
    (b = .lowWarn ∧ th.lowWarn + 20 ≤ p ∧ into = .normal) ∨
    (b = .lowLimit ∧ th.lowWarn ≤ p ∧ into = .lowWarn) ∨
    (b = .normal ∧ th.highWarn < p ∧ into = .highWarn) ∨
    (b = .highWarn ∧ th.highLimit < p ∧ into = .highLimit) ∨
    (b = .highWarn ∧ p + 20 ≤ th.highWarn ∧ into = .normal) ∨
    (b = .highLimit ∧ p ≤ th.highWarn ∧ into = .highWarn) := by
  cases b <;> grind [bandStep, bandHysteresis]

/-- Each transition comes one band nearer to the end it leads to. -/
theorem bandDistance_of_bandStep (h : bandStep th p b = some into) :
    bandDistance th p into + 1 = bandDistance th p b := by
  rcases (bandStep_eq_some_iff hl hw hh).mp h with
    ⟨rfl, hp, rfl⟩ | ⟨rfl, hp, rfl⟩ | ⟨rfl, hp, rfl⟩ | ⟨rfl, hp, rfl⟩ | ⟨rfl, hp, rfl⟩ | ⟨rfl, hp, rfl⟩ |
    ⟨rfl, hp, rfl⟩ | ⟨rfl, hp, rfl⟩ <;>
  · simp only [bandDistance, bandPosition]
    split_ifs <;> omega

/-- As many steps as the distance bring the evaluation to its end. -/
theorem bandStep_bandSteps (h : bandDistance th p b ≤ n) : bandStep th p (bandSteps th p n b) = none := by
  induction n generalizing b with
  | zero =>
    cases hs : bandStep th p b with
    | none => exact hs
    | some into =>
      have := bandDistance_of_bandStep hl hw hh hs
      omega
  | succ n ih =>
    cases hs : bandStep th p b with
    | none => rwa [bandSteps_of_none hs]
    | some into =>
      have := bandDistance_of_bandStep hl hw hh hs
      rw [bandSteps_of_some hs]
      exact ih (by omega)

/-- Four steps end every evaluation (R114). -/
theorem bandStep_evaluateBand : bandStep th p (evaluateBand th p b) = none :=
  bandStep_bandSteps hl hw hh (bandDistance_le th p b)

/-- Steps beyond the distance change nothing. -/
theorem bandSteps_succ (h : bandDistance th p b ≤ n) : bandSteps th p (n + 1) b = bandSteps th p n b := by
  induction n generalizing b with
  | zero => exact bandSteps_of_none (bandStep_bandSteps hl hw hh h)
  | succ n ih =>
    cases hs : bandStep th p b with
    | none => rw [bandSteps_of_none hs, bandSteps_of_none hs]
    | some into =>
      have := bandDistance_of_bandStep hl hw hh hs
      rw [bandSteps_of_some hs, bandSteps_of_some hs]
      exact ih (by omega)

/-- A transition that applies does not change where the evaluation ends. -/
theorem evaluateBand_of_bandStep (h : bandStep th p b = some into) :
    evaluateBand th p b = evaluateBand th p into := by
  have := bandDistance_of_bandStep hl hw hh h
  have := bandDistance_le th p b
  calc evaluateBand th p b
    _ = bandSteps th p 3 into := bandSteps_of_some h
    _ = bandSteps th p 4 into := (bandSteps_succ hl hw hh (by omega)).symm

end

end

/-! ### The evaluation that follows a change (R111, R115) -/

theorem setStickyIf_eq (cause : Bool) (c : Sticky) (s : State) :
    setStickyIf cause c s = s.setSticky (s.sticky ||| if cause then stickyBit c else 0) := by
  cases cause with
  | false => exact congrArg s.setSticky (BitVec.or_zero).symm
  | true => rfl

theorem isLimit_iff (b : Band) : isLimit b = true ↔ b = .lowLimit ∨ b = .highLimit := by
  cases b <;> decide

/-- What an interpolation of the inventory leaves: the Pressure and the Band, the conditions it sets, and a Band Notice for
a Band other than the one before. -/
theorem reinterpolate_eq {s : State} {first last : Nat × Nat} (hf : s.cavern.characteristic.head? = some first)
    (hl : s.cavern.characteristic.getLast? = some last) :
    let c := s.cavern
    let pressure := forwardPressure c.characteristic c.mass
    let band := evaluateBand c.thresholds pressure c.band
    let outside : BitVec 26 := if c.mass < first.1 ∨ last.1 < c.mass then 32 else 0
    let entered : BitVec 26 := if band ≠ c.band ∧ (band = .lowLimit ∨ band = .highLimit) then 16 else 0
    reinterpolate s =
      { s with
        cavern := { c with pressure := pressure, band := band }
        sticky := s.sticky ||| outside ||| entered
        raised := if band = c.band then s.raised else s.raised ++ [.band] } := by
  intro c pressure band outside entered
  have houtside : (if massOutside c.characteristic c.mass then stickyBit .characteristicRange else 0) = outside :=
    if_congr (massOutside_iff hf hl c.mass) rfl rfl
  unfold reinterpolate
  by_cases hband : band = c.band
  · have hentered : entered = 0#26 := if_neg fun h => h.1 hband
    rw [if_pos hband, if_pos hband, hentered, BitVec.or_zero, setStickyIf_eq, houtside]
    rfl
  · have hentered : (if isLimit band then stickyBit .cavernLimitEntered else 0) = entered := by
      simp only [isLimit_iff, entered, ne_eq, hband, not_false_eq_true, true_and]
      rfl
    rw [if_neg hband, if_neg hband, setStickyIf_eq, setStickyIf_eq, houtside, hentered]
    rfl

theorem reinterpolate_mass (s : State) : (reinterpolate s).cavern.mass = s.cavern.mass := by
  unfold reinterpolate
  dsimp only
  split <;> simp [raise]

/-! ### CALIBRATE (R118) -/

section
variable {f : Frame} {p : Nat} {s r : State}

theorem calibrateOwner_unconfigured (h : r.dispatcher.mode = .unconfigured) :
    calibrateOwner p r = (.bare .wrongState, r) := if_pos h

theorem calibrateOwner_configured (h : r.dispatcher.mode ≠ .unconfigured) :
    calibrateOwner p r =
      (calibrateReply p r.cavern (calibrate p r).cavern, beginIfDue (triggerPass (calibrate p r))) := if_neg h

theorem calibrate_mass (p : Nat) (s : State) :
    (calibrate p s).cavern.mass = inverseMass s.cavern.characteristic (appliedPressure s.cavern.characteristic p) := by
  simp [calibrate, reinterpolate_mass, calibratedAccount]

/-- A CALIBRATE that is taken, as one replacement of the account and of the conditions before its interpolation. -/
theorem calibrate_eq {applied : Nat} (h : appliedPressure s.cavern.characteristic p = applied) :
    calibrate p s = reinterpolate
      { s with
        cavern :=
          { s.cavern with
            mass := inverseMass s.cavern.characteristic applied
            residue := 0
            calibrated := true
            lastCalibration := some
              { day := s.clock.day, second := s.clock.second, applied := applied,
                correction := (inverseMass s.cavern.characteristic applied : Int) - (s.cavern.mass : Int) } }
        sticky := if applied = p then s.sticky else s.sticky ||| 32#26 } := by
  subst h
  unfold calibrate calibratedAccount
  by_cases happ : appliedPressure s.cavern.characteristic p = p
  · rw [if_pos happ, decide_eq_false (not_not.mpr happ)]
    rfl
  · rw [if_neg happ, decide_eq_true happ]
    rfl

theorem exec_calibrate_admitted (ha : Admitted supervisoryOnly f s r) (hb : f.body = u16 p) (hp : p < 65536) :
    exec (.calibrate f) s = .next (afterOwner f 0x31 (calibrateOwner p r)) :=
  congrArg Host.Outcome.next (atOnce_admitted ha (hb ▸ parseBody_u16 p hp))

theorem exec_calibrate_fromMarket (hr : r = received f s) (hb : f.body = u16 p) (hp : p < 65536)
    (hv : viaPort f.via = .mp) (hroom : (r.link .mp).responses.length + (r.link .mp).outstanding < 32) :
    exec (.calibrate f) s = .next (answered f 0x31 .notPermitted [] r) := by
  subst hr
  have hfault : bodyFault parseU16 f = none := by rw [bodyFault, hb, parseBody_u16 p hp]
  exact congrArg Host.Outcome.next
    (takeRequest_notPermitted (decide_eq_true (by rwa [hv])) hfault (by rw [hv]; rfl))

end

/-- Settles O41: the port and the mode are judged in turn, and what is taken follows from the clamp and the inverse
interpolation. -/
theorem calibrateSetsTheAccount : Obligations.CalibrateSetsTheAccount := by
  refine ⟨fun f p s r hb hp hr hv hroom => exec_calibrate_fromMarket hr hb hp hv hroom,
    fun f p s r ha hb hp => ⟨fun hmode => ?_, fun hmode first last hf hl hle => ?_⟩,
    fun points before after a b p hasc => ⟨fun hpts hap hpb => ?_, fun hpts hpa => ?_⟩⟩
  · rw [exec_calibrate_admitted ha hb hp, calibrateOwner_unconfigured hmode]
    rfl
  · intro applied mass correction record k
    have happ : appliedPressure r.cavern.characteristic p = applied := appliedPressure_eq hf hl hle p
    have hk : calibrate p r = k := calibrate_eq happ
    have hmass : k.cavern.mass = mass := by rw [← hk, calibrate_mass, happ]
    have hprojector : k.projector = r.projector := by simp only [k, reinterpolate_frame]
    refine ⟨hmass, ?_⟩
    rw [exec_calibrate_admitted ha hb hp, calibrateOwner_configured hmode, hk, calibrateReply, happ, hmass, triggerPass,
      hprojector]
    rfl
  · subst hpts
    exact inverseMass_on_segment hasc hap hpb
  · subst hpts hpa
    exact inverseMass_at_last hasc

/-! ### MASS_INTEGRATION (R112, R113) -/

theorem holdInt_eq {lo hi : Int} (h : lo ≤ hi) (x : Int) : holdInt lo hi x = max lo (min hi x) := by
  unfold holdInt
  split
  · omega
  · split <;> omega

theorem moveMass_eq (q : Int) (c : Cavern) :
    moveMass q c =
      { c with
        mass := (max 0 (min 4294967295 ((c.mass : Int) + (c.residue + q).tdiv 10000))).toNat
        residue := c.residue + q - 10000 * (c.residue + q).tdiv 10000 } := by
  simp only [moveMass, holdInt_eq (show (0 : Int) ≤ maxU32 by decide)]
  rfl

/-- What the whole kilograms leave of a sum is less than one of them, and has the sum's sign. -/
theorem residue_bounds (sum : Int) :
    let residue := sum - 10000 * sum.tdiv 10000
    (-10000 < residue ∧ residue < 10000 ∧ (0 ≤ sum → 0 ≤ residue) ∧ (sum ≤ 0 → residue ≤ 0)) := by
  intro residue
  have hmod : sum.tmod 10000 = residue := Int.tmod_def sum 10000
  rw [← hmod]
  refine ⟨Int.lt_tmod_of_pos sum (by decide), Int.tmod_lt_of_pos sum (by decide), Int.tmod_nonneg 10000, fun h => ?_⟩
  simpa using Int.tmod_nonneg 10000 (Int.neg_nonneg_of_nonpos h)

section
variable {t : Train} {flow elapsed : Nat} {left : List Raised} {s : State}

theorem reportMass_eq (t : Train) (flow elapsed : Nat) :
    reportMass t flow elapsed =
      if trainKind t = .compressor then ((min flow 6000 * min elapsed 5000 : Nat) : Int)
      else -((min flow 6000 * min elapsed 5000 : Nat) : Int) := by
  unfold reportMass
  cases trainKind t <;> rfl

theorem reportMass_eq_zero_iff (hf : flow ≠ 0) : reportMass t flow elapsed = 0 ↔ elapsed = 0 := by
  have hmul : min flow 6000 * min elapsed 5000 = 0 ↔ elapsed = 0 := by
    rw [Nat.mul_eq_zero]
    omega
  rw [reportMass_eq, ← hmul]
  split <;> omega

/-- A state once a report's clamps are judged: REPORT_CLAMPED for a flow or an elapsed time above its bound (R112). -/
def reportClamped (flow elapsed : Nat) (s : State) : State :=
  { s with sticky := if 6000 < flow ∨ 5000 < elapsed then s.sticky ||| 16777216#26 else s.sticky }

theorem setStickyIf_reportClamped (flow elapsed : Nat) (s : State) :
    setStickyIf (decide (6000 < flow) || decide (5000 < elapsed)) .reportClamped s = reportClamped flow elapsed s := by
  rw [← Bool.decide_or, setStickyIf, reportClamped]
  by_cases h : 6000 < flow ∨ 5000 < elapsed
  · rw [if_pos h, if_pos (decide_eq_true h)]
    rfl
  · rw [if_neg h, if_neg (by simpa using h)]

theorem integrateReport_noFlow (hf : flow = 0) : integrateReport t flow elapsed s = s := if_pos hf

theorem integrateReport_flow (hf : flow ≠ 0) :
    integrateReport t flow elapsed s =
      if reportMass t flow elapsed = 0 then reportClamped flow elapsed s
      else reinterpolate
        ((reportClamped flow elapsed s).setCavern (moveMass (reportMass t flow elapsed) s.cavern)) := by
  simp only [integrateReport, if_neg hf, setStickyIf_reportClamped]
  rfl

theorem integrateReport_noTime (hf : flow ≠ 0) (he : elapsed = 0) :
    integrateReport t flow elapsed s = reportClamped flow elapsed s := by
  rw [integrateReport_flow hf, if_pos ((reportMass_eq_zero_iff hf).mpr he)]

theorem integrateReport_moves (hf : flow ≠ 0) (he : elapsed ≠ 0) :
    integrateReport t flow elapsed s =
      reinterpolate
        ((reportClamped flow elapsed s).setCavern (moveMass (reportMass t flow elapsed) s.cavern)) := by
  rw [integrateReport_flow hf, if_neg ((reportMass_eq_zero_iff hf).not.mpr he)]

theorem exec_massIntegration_oldest (h : Oldest (pickMass t) s.raised (flow, elapsed) left) :
    exec (.massIntegration t) s = .next (integrateReport t flow elapsed (s.setRaised left)) :=
  congrArg Host.Outcome.next (handleRaised_oldest h)

end

/-- Settles O42: the report is integrated case by case, and its Pressure and Band follow from the interpolation and the
transitions. -/
theorem reportedFlowMovesMassPressureAndBand : Obligations.ReportedFlowMovesMassPressureAndBand := by
  refine ⟨fun t flow elapsed left s ho => ?_, fun s first last hf hl => reinterpolate_eq hf hl,
    fun points before after a b m hasc => ⟨fun hpts ha hb => ?_, fun hpts ha => ?_, fun hpts ha => ?_⟩,
    fun th p b into hl hw hh => ⟨bandStep_eq_some_iff hl hw hh, bandSteps_of_none, evaluateBand_of_bandStep hl hw hh,
      bandStep_evaluateBand hl hw hh⟩⟩
  · intro amount q sum whole residue moved clamped
    have hexec := exec_massIntegration_oldest ho
    refine ⟨fun h => ?_, fun hf he => ?_, fun hf he => ?_, residue_bounds sum⟩
    · rw [hexec, integrateReport_noFlow h]
      rfl
    · rw [hexec, integrateReport_noTime hf he]
      rfl
    · rw [hexec, integrateReport_moves hf he, moveMass_eq, reportMass_eq]
      rfl
  · subst hpts
    obtain ⟨hmass, hpressure⟩ := ascending_segment hasc
    rw [forwardPressure_on_segment hasc ha hb]
    exact ⟨rfl, Nat.le_add_right .., segment_lt ha hb hpressure⟩
  · rw [hpts, forwardPressure_below ha]
  · subst hpts
    exact forwardPressure_past_last hasc ha

end Sys2Proof.Machine

/-!
PROOF. SURVEY_TANK, HEAT_DRAW and STANDING_LOSS (R127, R135 to R140): what the checks of a survey judge, what a draw and
the standing loss leave of a stack, and which Top Notices follow.
-/
namespace Sys2Proof.Machine

/-! ### Tanks and their energy (R124) -/

theorem PerTank.set_set {α : Type} (p : PerTank α) (t : Tank) (a b : α) : (p.set t a).set t b = p.set t b := by
  cases t <;> rfl

theorem sumOver_eq_sum {α : Type} (f : α → Nat) (l : List α) : sumOver f l = (l.map f).sum := by
  induction l with
  | nil => rfl
  | cons a l ih => rw [sumOver, ih, List.map_cons, List.sum_cons]

/-! ### Top Notices (R127) -/

theorem topNotices_eq (before s : State) :
    topNotices before s =
      { s with
        raised := s.raised ++
          (allTanks.filter fun t => decide (topStanding s t ≠ topStanding before t)).map .top } := by
  have differs (t : Tank) :
      (topStanding before t != topStanding s t) = decide (topStanding s t ≠ topStanding before t) := by
    rw [Bool.eq_iff_iff, bne_iff_ne, decide_eq_true_iff, ne_comm]
  simp only [topNotices, differs]
  rfl

/-- A search that no other Tank satisfies finds the one or none. -/
theorem filter_allTanks {p : Tank → Bool} {tank : Tank} (h : ∀ u, u ≠ tank → p u = false) :
    allTanks.filter p = if p tank then [tank] else [] := by
  cases tank <;> simp [allTanks, List.filter_cons, h]

/-- An event that writes one Tank, and leaves T_use, sends a Top Notice for that Tank or none. -/
theorem topNotices_of_set {before s : State} {tank : Tank} {v : TankState} (hloader : s.loader = before.loader)
    (htanks : s.tanks = before.tanks.set tank v) :
    topNotices before s =
      { s with
        raised := s.raised ++
          if standingOf before.loader.heat.tUse v.layers = topStanding before tank then [] else [.top tank] } := by
  have others (u : Tank) (hu : u ≠ tank) : topStanding s u = topStanding before u := by
    rw [topStanding, topStanding, hloader, State.tank, State.tank, htanks, PerTank.get_set_other _ _ _ _ hu]
  have own : topStanding s tank = standingOf before.loader.heat.tUse v.layers := by
    rw [topStanding, hloader, State.tank, htanks, PerTank.get_set]
  rw [topNotices_eq, filter_allTanks (tank := tank) fun u hu => decide_eq_false (not_not.mpr (others u hu)), own]
  by_cases h : standingOf before.loader.heat.tUse v.layers = topStanding before tank <;> simp [h]

/-! ### The checks of a survey (R139) -/

theorem mem_allTrains (t : Train) : t ∈ allTrains := by cases t <;> decide

theorem inUse_iff (state : TrainState) :
    inUse state = true ↔ state = .starting ∨ state = .running ∨ state = .unloading := by
  cases state <;> decide

theorem tankInUse_iff (s : State) (tank : Tank) :
    tankInUse s tank = true ↔ ∃ t, (s.train t).boundTank = tank ∧
      ((s.train t).state = .starting ∨ (s.train t).state = .running ∨ (s.train t).state = .unloading) := by
  simp only [tankInUse, List.any_eq_true, mem_allTrains, true_and, Bool.and_eq_true, decide_eq_true_iff, inUse_iff]

theorem notHotter_iff_pairwise (layers : List (Nat × Nat)) :
    notHotter layers = true ↔ layers.Pairwise fun a b => b.1 ≤ a.1 := by
  have chain : notHotter layers = true ↔ (layers.map Prod.fst).IsChain (· ≥ ·) := by
    induction layers using notHotter.induct with
    | case1 a b rest ih =>
      simp only [notHotter, Bool.and_eq_true, decide_eq_true_iff, ih, List.map_cons, List.isChain_cons_cons, ge_iff_le]
    | case2 layers hshort =>
      match layers with
      | [] => simp [notHotter]
      | [a] => simp [notHotter]
      | a :: b :: rest => exact absurd rfl (hshort a b rest)
  rw [chain, List.isChain_iff_pairwise, List.pairwise_map]

theorem layersSound_iff (tRef : Nat) (layers : List (Nat × Nat)) :
    layersSound tRef layers = true ↔
      layers.length ≤ 8 ∧ (∀ l ∈ layers, tRef + 1 ≤ l.1 ∧ l.1 ≤ 8000 ∧ 1 ≤ l.2) ∧
        layers.Pairwise fun a b => b.1 ≤ a.1 := by
  simp only [layersSound, inRange, Bool.and_eq_true, List.all_eq_true, decide_eq_true_iff, notHotter_iff_pairwise,
    and_assoc]

section
variable {tank : Tank} {layers : List (Nat × Nat)} {r : State}

theorem surveyRefusal_unconfigured (hm : r.dispatcher.mode = .unconfigured) :
    surveyRefusal tank layers r = some .wrongState := if_pos hm

theorem surveyRefusal_inUse (hm : r.dispatcher.mode ≠ .unconfigured) (hu : tankInUse r tank = true) :
    surveyRefusal tank layers r = some .tankInUse := by
  rw [surveyRefusal, if_neg hm, if_pos hu]

theorem surveyRefusal_unsound (hm : r.dispatcher.mode ≠ .unconfigured) (hu : ¬ tankInUse r tank = true)
    (hl : ¬ layersSound r.loader.heat.tRef layers = true) : surveyRefusal tank layers r = some .outOfRange := by
  rw [surveyRefusal, if_neg hm, if_neg hu, if_pos (eq_false_of_ne_true hl)]

/-- Once the layers are sound, only the Capacity is left to judge. -/
theorem surveyRefusal_sound (hm : r.dispatcher.mode ≠ .unconfigured) (hu : ¬ tankInUse r tank = true)
    (hl : layersSound r.loader.heat.tRef layers = true) :
    surveyRefusal tank layers r =
      if (layers.map Prod.snd).sum + reservedEnergy r.trains tank ≤ (r.tank tank).capacity then none
      else some .outOfRange := by
  rw [surveyRefusal, if_neg hm, if_neg hu, if_neg (by simp [hl]), sumOver_eq_sum]
  simp only [← Nat.not_le, ite_not]

/-! ### SURVEY_TANK (R139, R140) -/

/-- A sound request that only the Supervisory Port may send is refused on the Market Port (R17, R22). -/
theorem atOnce_fromMarket {α : Type} {code : Octet} {fields : Parser α} {owner : Port → α → State → Reply × State}
    {a : α} {f : Frame} {s : State} (hb : parseBody fields f.body = .ok a) (hv : viaPort f.via = .mp)
    (hroom : ((received f s).link .mp).responses.length + ((received f s).link .mp).outstanding < 32) :
    atOnce code supervisoryOnly fields owner f s = answered f code .notPermitted [] (received f s) :=
  takeRequest_notPermitted (decide_eq_true (by rwa [hv])) (by rw [bodyFault, hb]) (by rw [hv]; rfl)

theorem surveyOwner_refused {status : Status} (h : surveyRefusal tank layers r = some status) :
    surveyOwner (tank, layers) r = (.bare status, r) := by
  simp only [surveyOwner, h]

/-- A survey that passes, with the notice and the trigger of R140 read as one replacement. -/
theorem surveyOwner_taken (h : surveyRefusal tank layers r = none) :
    let k := r.setTank tank (surveyedTank r.interval layers (r.tank tank))
    surveyOwner (tank, layers) r =
      (.withBody .done (tankBody tank k), beginIfDue
        { k with
          projector := { r.projector with passPending := true }
          raised := r.raised ++ if topStanding k tank = topStanding r tank then [] else [.top tank] }) := by
  intro k
  have own : topStanding k tank =
      standingOf r.loader.heat.tUse (surveyedTank r.interval layers (r.tank tank)).layers := by
    rw [topStanding, State.tank_setTank, State.setTank_loader]
  have noticed : topNotices r k =
      { k with raised := r.raised ++ if topStanding k tank = topStanding r tank then [] else [.top tank] } := by
    rw [own]
    exact topNotices_of_set rfl rfl
  simp only [surveyOwner, h]
  rw [noticed]
  rfl

end

section
variable {f : Frame} {tank : Tank} {layers : List (Nat × Nat)} {s r : State}

theorem exec_surveyTank_admitted (ha : Admitted supervisoryOnly f s r) (hb : f.body = surveyOctets tank layers)
    (he : surveyEncodable layers) :
    exec (.surveyTank f) s = .next (afterOwner f 0x39 (surveyOwner (tank, layers) r)) :=
  congrArg Host.Outcome.next (atOnce_admitted ha (hb ▸ parseBody_survey tank layers he))

theorem exec_surveyTank_refused {status : Status} (ha : Admitted supervisoryOnly f s r)
    (hb : f.body = surveyOctets tank layers) (he : surveyEncodable layers)
    (h : surveyRefusal tank layers r = some status) :
    exec (.surveyTank f) s = .next (answered f 0x39 status [] r) := by
  rw [exec_surveyTank_admitted ha hb he, surveyOwner_refused h, afterOwner_bare]

theorem exec_surveyTank_fromMarket (hr : r = received f s) (hb : f.body = surveyOctets tank layers)
    (he : surveyEncodable layers) (hv : viaPort f.via = .mp)
    (hroom : (r.link .mp).responses.length + (r.link .mp).outstanding < 32) :
    exec (.surveyTank f) s = .next (answered f 0x39 .notPermitted [] r) := by
  subst hr
  exact congrArg Host.Outcome.next (atOnce_fromMarket (hb ▸ parseBody_survey tank layers he) hv hroom)

end

/-- Settles O43: the port is judged first, each refusal is the first check of R139 that fails, and a survey that fails
none is taken. -/
theorem surveyReplacesTheStack : Obligations.SurveyReplacesTheStack := by
  intro f tank layers s r hb he refused working sound fits given k
  have hworking : tankInUse r tank = true ↔ working := tankInUse_iff r tank
  have hsound : layersSound r.loader.heat.tRef layers = true ↔ layers.length ≤ 8 ∧ sound := layersSound_iff _ layers
  refine ⟨fun hr hv hroom => exec_surveyTank_fromMarket hr hb he hv hroom, fun ha => ⟨fun hm => ?_, fun hm =>
    ⟨fun hw => ?_, fun hw hl => ?_, fun hw hl hs => ?_, fun hw hl hs hf => ?_, fun hw hl hs hf => ?_⟩⟩⟩
  · exact exec_surveyTank_refused ha hb he (surveyRefusal_unconfigured hm)
  · exact exec_surveyTank_refused ha hb he (surveyRefusal_inUse hm (hworking.mpr hw))
  · exact exec_surveyTank_refused ha hb he
      (surveyRefusal_unsound hm (mt hworking.mp hw) fun h => Nat.not_le.mpr hl (hsound.mp h).1)
  · exact exec_surveyTank_refused ha hb he
      (surveyRefusal_unsound hm (mt hworking.mp hw) fun h => hs (hsound.mp h).2)
  · exact exec_surveyTank_refused ha hb he
      ((surveyRefusal_sound hm (mt hworking.mp hw) (hsound.mpr ⟨hl, hs⟩)).trans (if_neg hf))
  · have passes : surveyRefusal tank layers r = none :=
      (surveyRefusal_sound hm (mt hworking.mp hw) (hsound.mpr ⟨hl, hs⟩)).trans (if_pos hf)
    rw [exec_surveyTank_admitted ha hb he, surveyOwner_taken passes, afterOwner_withBody]
    rfl

/-! ### Draws (R135, R136) -/

section
variable {h : Nat} {l : Layer} {rest layers before after : List Layer}

/-- A layer that holds more than the draw is lowered by it. -/
theorem drawLayers_cons_lowered (hl : h < l.energy) :
    drawLayers h (l :: rest) = ({ l with energy := l.energy - h } :: rest, 0) := by
  rcases Nat.eq_zero_or_pos h with rfl | hpos
  · rfl
  · rw [drawLayers, if_neg (Nat.ne_of_gt hpos), if_pos hl]

/-- A layer that holds no more than the draw is taken whole. -/
theorem drawLayers_cons_emptied (hpos : 1 ≤ l.energy) (hl : l.energy ≤ h) :
    drawLayers h (l :: rest) = drawLayers (h - l.energy) rest := by
  rw [drawLayers, if_neg (Nat.ne_of_gt (Nat.lt_of_lt_of_le hpos hl)), if_neg (Nat.not_lt.mpr hl)]

/-- The layers above the one a draw ends in are taken whole. -/
theorem drawLayers_append (hpos : ∀ l ∈ before, 1 ≤ l.energy) (hb : (before.map Layer.energy).sum ≤ h) :
    drawLayers h (before ++ rest) = drawLayers (h - (before.map Layer.energy).sum) rest := by
  induction before generalizing h with
  | nil => rfl
  | cons l before ih =>
    obtain ⟨hl, hbefore⟩ := List.forall_mem_cons.mp hpos
    rw [List.map_cons, List.sum_cons] at hb ⊢
    rw [List.cons_append, drawLayers_cons_emptied hl (Nat.le_trans (Nat.le_add_right ..) hb),
      ih hbefore (Nat.le_sub_of_add_le' hb), Nat.sub_sub]

theorem drawLayers_shortfall (hpos : ∀ l ∈ layers, 1 ≤ l.energy) (hb : (layers.map Layer.energy).sum ≤ h) :
    drawLayers h layers = ([], h - (layers.map Layer.energy).sum) := by
  simpa [drawLayers] using drawLayers_append (rest := []) hpos hb

theorem drawLayers_ends_in (hpos : ∀ l ∈ before, 1 ≤ l.energy) (hb : (before.map Layer.energy).sum ≤ h)
    (hl : h < (before.map Layer.energy).sum + l.energy) :
    drawLayers h (before ++ l :: after) =
      ({ l with energy := (before.map Layer.energy).sum + l.energy - h } :: after, 0) := by
  rw [drawLayers_append hpos hb, drawLayers_cons_lowered (Nat.sub_lt_left_of_lt_add hb hl)]
  congr 3
  omega

end

section
variable {t : Train} {h : Nat} {tank : Tank} {left : List Raised} {s : State}

theorem drawHeat_nothing (hn : h = 0 ∨ (s.tank tank).surveyed = false) : drawHeat t h tank s = s := if_pos hn

/-- A draw that has something to take from: the stack left, the record of a Shortfall and the notice. -/
theorem drawHeat_takes (hh : 0 < h) (hs : (s.tank tank).surveyed = true) :
    let drawn := drawLayers h (s.tank tank).layers
    let s1 := s.setTank tank { s.tank tank with layers := drawn.1 }
    drawHeat t h tank s =
      beginIfDue (topNotices s (if drawn.2 = 0 then s1 else recordUnderdraw t tank drawn.2 s1)) :=
  if_neg (by simp [Nat.ne_of_gt hh, hs])

theorem drawHeat_met (hh : 0 < h) (hs : (s.tank tank).surveyed = true)
    (hmet : (drawLayers h (s.tank tank).layers).2 = 0) :
    let v := s.tank tank
    let drawn := drawLayers h v.layers
    let tUse := s.loader.heat.tUse
    drawHeat t h tank s = beginIfDue
      { s with
        tanks := s.tanks.set tank { v with layers := drawn.1 }
        raised := s.raised ++ if standingOf tUse drawn.1 = standingOf tUse v.layers then [] else [.top tank] } := by
  intro v drawn tUse
  rw [drawHeat_takes hh hs, if_pos hmet]
  exact congrArg beginIfDue (topNotices_of_set (v := { v with layers := drawn.1 }) rfl rfl)

theorem drawHeat_short (hh : 0 < h) (hs : (s.tank tank).surveyed = true)
    (hshort : 0 < (drawLayers h (s.tank tank).layers).2) :
    let v := s.tank tank
    let drawn := drawLayers h v.layers
    let tUse := s.loader.heat.tUse
    let record : Underdraw := { amount := drawn.2, train := t, interval := s.interval }
    drawHeat t h tank s = beginIfDue
      { s with
        tanks := s.tanks.set tank { v with layers := drawn.1, lastUnderdraw := some record }
        sticky := s.sticky ||| BitVec.ofNat 26 (2 ^ (6 + tankIndex tank))
        projector := { s.projector with passPending := true }
        raised := s.raised ++ if standingOf tUse drawn.1 = standingOf tUse v.layers then [] else [.top tank] } := by
  intro v drawn tUse record
  have hrecorded :
      recordUnderdraw t tank drawn.2 (s.setTank tank { v with layers := drawn.1 }) =
        { s with
          tanks := s.tanks.set tank { v with layers := drawn.1, lastUnderdraw := some record }
          sticky := s.sticky ||| BitVec.ofNat 26 (2 ^ (6 + tankIndex tank))
          projector := { s.projector with passPending := true } } := by
    rw [recordUnderdraw, State.tank_setTank, State.setTank, State.setTank_tanks, PerTank.set_set]
    rfl
  rw [drawHeat_takes hh hs, if_neg (Nat.ne_of_gt hshort), hrecorded]
  exact congrArg beginIfDue
    (topNotices_of_set (v := { v with layers := drawn.1, lastUnderdraw := some record }) rfl rfl)

theorem exec_heatDraw_oldest (ho : Oldest (pickDraw t) s.raised (h, tank) left) :
    exec (.heatDraw t) s = .next (drawHeat t h tank (s.setRaised left)) :=
  congrArg Host.Outcome.next (handleRaised_oldest ho)

end

/-! ### Standing loss (R137, R138) -/

theorem coolStack_eq (tRef loss : Nat) (layers : List Layer) :
    coolStack tRef loss layers =
      (layers.map (coolLayer tRef loss)).filter fun l => decide (l.energy ≠ 0 ∧ l.temperature ≠ tRef) := by
  rw [coolStack]
  congr 1
  funext l
  rw [Bool.eq_iff_iff, Bool.and_eq_true, bne_iff_ne, bne_iff_ne, decide_eq_true_iff]

theorem coolTimes_zero (tRef loss : Nat) (layers : List Layer) : coolTimes tRef loss 0 layers = layers := by
  rw [coolTimes]

theorem coolTimes_nil (tRef loss n : Nat) : coolTimes tRef loss n [] = [] := by
  cases n <;> rfl

theorem coolTimes_succ (tRef loss n : Nat) (layers : List Layer) :
    coolTimes tRef loss (n + 1) layers = coolTimes tRef loss n (coolStack tRef loss layers) := by
  cases layers with
  | nil => rw [coolTimes_nil, coolStack, List.map_nil, List.filter_nil, coolTimes_nil]
  | cons l rest => rw [coolTimes]

theorem applyLoss_eq (n : Nat) (s : State) :
    let k := s.loader.heat
    let changed (tank : Tank) : Bool :=
      decide (standingOf k.tUse (coolTimes k.tRef k.loss n (s.tank tank).layers) ≠
        standingOf k.tUse (s.tank tank).layers)
    applyLoss n s =
      { s with
        tanks := s.tanks.map fun v => { v with layers := coolTimes k.tRef k.loss n v.layers }
        raised := s.raised ++ (allTanks.filter changed).map .top } := by
  intro k changed
  rw [applyLoss, topNotices_eq]
  simp only [topStanding, State.tank, State.setTanks_tanks, PerTank.get_map]
  rfl

theorem exec_standingLoss_oldest {b : Boundary} {left : List Raised} {s : State}
    (ho : Oldest (pickBoundary .heatStoreUnit) s.raised b left) :
    exec .standingLoss s = .next (lossForBoundary b (s.setRaised left)) :=
  congrArg Host.Outcome.next (handleRaised_oldest ho)

theorem lossForBoundary_rebase {b : Boundary} {s : State} (h : b.step = .rebase) : lossForBoundary b s = s := by
  rw [lossForBoundary, h]

theorem lossForBoundary_forward {b : Boundary} {n : Nat} {s : State} (h : b.step = .forward n) :
    lossForBoundary b s = applyLoss n s := by
  rw [lossForBoundary, h]

/-- Settles O45: a draw empties the stack from the top down to the layer it ends in, and a Boundary cools every stack
once for each interval of its Step. -/
theorem drawsAndStandingLossLowerTheStacks : Obligations.DrawsAndStandingLossLowerTheStacks := by
  refine ⟨fun t h tank left s _ ho => ?_, fun h layers hpos => ⟨drawLayers_shortfall hpos, ?_⟩,
    fun b left s ho => ⟨fun hrebase => ?_, fun n hforward => ?_⟩,
    fun tRef loss n layers => ⟨coolTimes_zero tRef loss layers, ?_⟩⟩
  · have hexec := exec_heatDraw_oldest ho
    exact ⟨fun hn => hexec.trans (congrArg _ (drawHeat_nothing hn)),
      fun hh hs hmet => hexec.trans (congrArg _ (drawHeat_met hh hs hmet)),
      fun hh hs hshort => hexec.trans (congrArg _ (drawHeat_short hh hs hshort))⟩
  · rintro before l after rfl hb hl
    exact drawLayers_ends_in (fun k hk => hpos k (List.mem_append_left _ hk)) hb hl
  · rw [exec_standingLoss_oldest ho, lossForBoundary_rebase hrebase]
    rfl
  · rw [exec_standingLoss_oldest ho, lossForBoundary_forward hforward, applyLoss_eq]
    rfl
  · rw [coolTimes_succ, coolStack_eq]
    rfl

end Sys2Proof.Machine

/-!
PROOF. TRAIN_REPORT (R161 to R164): the move the table of R163 gives, the context and the conditions each move leaves, and
what a report that is taken leaves of the state.
-/
namespace Sys2Proof.Machine

/-! ### Sticky conditions by position (R23) -/

theorem stickyPosition_lt (c : Sticky) : stickyPosition c < 26 := by
  cases c with
  | heatUnderdraw tank => cases tank <;> decide
  | heatSpill tank => cases tank <;> decide
  | trainTripped t => cases t <;> decide
  | trainLost t => cases t <;> decide
  | _ => decide

theorem getLsbD_stickyBit (c : Sticky) (i : Nat) : (stickyBit c).getLsbD i = true ↔ i = stickyPosition c := by
  rcases Nat.lt_or_ge i 26 with hi | hi
  · rw [stickyBit, getLsbD_ofNat_position _ hi, Nat.testBit_two_pow, decide_eq_true_iff, eq_comm]
  · have hc := stickyPosition_lt c
    rw [BitVec.getLsbD_of_ge _ i hi]
    exact iff_of_false Bool.false_ne_true (by omega)

theorem getLsbD_or_stickyBit_if (sticky : BitVec 26) (cause : Bool) (c : Sticky) (i : Nat) :
    (sticky ||| if cause then stickyBit c else 0).getLsbD i = true ↔
      sticky.getLsbD i = true ∨ (i = stickyPosition c ∧ cause = true) := by
  cases cause <;> simp [getLsbD_stickyBit]

/-! ### Which kind holds a Setpoint (R186) -/

theorem mem_trainsOf (t : Train) (k : TrainKind) : t ∈ trainsOf k ↔ trainKind t = k := by
  cases k <;> cases t <;> decide

theorem eq_otherKind_iff (a b : TrainKind) : a = otherKind b ↔ a ≠ b := by
  cases a <;> cases b <;> decide

theorem kindHolds_otherKind_iff (s : State) (line : Train) :
    kindHolds s (otherKind (trainKind line)) = true ↔
      ∃ k, trainKind k ≠ trainKind line ∧ 0 < (s.train k).setpoint := by
  simp only [kindHolds, List.any_eq_true, decide_eq_true_iff, mem_trainsOf, eq_otherKind_iff]

/-! ### The move of a status (R163) -/

/-- The State a move leaves a train in that stood in `before`. -/
def ReportMove.leaves (before : TrainState) : ReportMove → TrainState
  | .stay => before
  | .rest into => into
  | .run => .running
  | .reenter => .unloading
  | .unload => .unloading

/-- From which States the table makes a move: every move but `stay` changes the State, a rest is never LOST, and a TRIPPED
train stays while a LOST one never does. -/
def ReportMove.Fits (before : TrainState) : ReportMove → Prop
  | .stay => before ≠ .lost
  | .rest into => before ≠ .tripped ∧ into ≠ before ∧ (into = .offline ∨ into = .ready ∨ into = .tripped)
  | .run => before = .starting
  | .reenter => before = .offline ∨ before = .ready ∨ before = .lost
  | .unload => before = .starting ∨ before = .running

theorem reportMove_fits (status : ReportedStatus) (before : TrainState) : (reportMove status before).Fits before := by
  cases status <;> cases before <;> simp [reportMove, ReportMove.Fits]

/-- The rows of the table of R163, each by the column of the State before. -/
def reportRow : ReportedStatus → List TrainState
  | .off => [.offline, .offline, .starting, .ready, .ready, .tripped, .ready]
  | .ready => [.ready, .ready, .starting, .ready, .ready, .tripped, .ready]
  | .starting => [.unloading, .unloading, .starting, .running, .unloading, .tripped, .unloading]
  | .running => [.unloading, .unloading, .running, .running, .unloading, .tripped, .unloading]
  | .stopping => [.offline, .ready, .unloading, .unloading, .unloading, .tripped, .unloading]
  | .tripped => [.tripped, .tripped, .tripped, .tripped, .tripped, .tripped, .tripped]

theorem reportRow_at (status : ReportedStatus) (before : TrainState) :
    (reportRow status)[trainStateCode before]? = some ((reportMove status before).leaves before) := by
  cases status <;> cases before <;> rfl

/-- Whether a move enters TRIPPED. -/
def ReportMove.trips (m : ReportMove) : Bool := decide (m = .rest .tripped)

/-- Whether a move triggers a Pass: it enters or leaves TRIPPED or LOST (R90, R164). -/
def ReportMove.triggers (before : TrainState) : ReportMove → Bool
  | .rest into => outOfService into || outOfService before
  | .reenter => outOfService before
  | _ => false

section
variable {before : TrainState} {m : ReportMove}

theorem ReportMove.trips_iff (h : m.Fits before) :
    m.trips = true ↔ before ≠ .tripped ∧ m.leaves before = .tripped := by
  cases m with
  | stay => simp [trips, leaves]
  | rest into => simp [trips, leaves, h.1]
  | run => simp [trips, leaves]
  | reenter => simp [trips, leaves]
  | unload => simp [trips, leaves]

theorem ReportMove.triggers_iff (h : m.Fits before) :
    m.triggers before = true ↔ before ≠ m.leaves before ∧ (before = .lost ∨ m.leaves before = .tripped) := by
  cases m with
  | stay => simp [triggers, leaves]
  | rest into =>
    obtain ⟨htripped, hne, rfl | rfl | rfl⟩ := h <;> cases before <;> simp_all [triggers, leaves, outOfService]
  | run => obtain rfl := h; simp [triggers, leaves]
  | reenter => obtain rfl | rfl | rfl := h <;> simp [triggers, leaves, outOfService]
  | unload => obtain rfl | rfl := h <;> simp [triggers, leaves]

end

/-! ### The context a move leaves (R164) -/

/-- The setpoint of a re-entry into UNLOADING, marked (a) in R163. -/
def reentrySetpoint (t : Train) (power : Nat) (s : State) : Nat :=
  match (s.train t).selection with
  | none => 0
  | some sel => if kindHolds s (otherKind (trainKind t)) then 0 else min power sel.descriptor.maxLoad

theorem reentrySetpoint_zero {t : Train} {power : Nat} {s : State}
    (h : (s.train t).selection = none ∨ kindHolds s (otherKind (trainKind t)) = true) :
    reentrySetpoint t power s = 0 := by
  unfold reentrySetpoint
  split
  · rfl
  · next sel hsel => exact if_pos (h.resolve_left (by simp [hsel]))

theorem reentrySetpoint_selected {t : Train} {power : Nat} {s : State} {sel : Selection}
    (hsel : (s.train t).selection = some sel) (h : ¬ kindHolds s (otherKind (trainKind t)) = true) :
    reentrySetpoint t power s = min power sel.descriptor.maxLoad := by
  simp only [reentrySetpoint, hsel, if_neg h]

/-- The context of a train that re-enters UNLOADING with a setpoint, its run beginning now (R164, marked (a)). -/
def TrainContext.reenter (c : TrainContext) (setpoint : Nat) (now : Nat × Nat) : TrainContext :=
  { c with state := .unloading, setpoint := setpoint, runStart := some now, startTimer := none, released := false }

/-- The context a move leaves, with the reported power and the setpoint and instant of a re-entry. -/
def ReportMove.context (c : TrainContext) (power reentry : Nat) (now : Nat × Nat) : ReportMove → TrainContext
  | .stay => c
  | .rest into => c.rest into
  | .run => { c with state := .running, startTimer := none }
  | .reenter => c.reenter reentry now
  | .unload => c.unload (min c.setpoint power)

section
variable {c : TrainContext} {power reentry : Nat} {now : Nat × Nat} {m : ReportMove}

@[simp] theorem ReportMove.context_state : (m.context c power reentry now).state = m.leaves c.state := by
  cases m <;> rfl

@[simp] theorem ReportMove.context_boundTank : (m.context c power reentry now).boundTank = c.boundTank := by
  cases m <;> rfl

theorem ReportMove.context_of_same (h : m.Fits c.state) (hs : m.leaves c.state = c.state) :
    m.context c power reentry now = c := by
  cases m with
  | stay => rfl
  | rest into =>
    obtain ⟨-, changes, -⟩ := h
    exact absurd hs changes
  | run => exact absurd (show TrainState.running = .starting from hs.trans h) (by decide)
  | reenter => simp [Fits, show c.state = .unloading from hs.symm] at h
  | unload => simp [Fits, show c.state = .unloading from hs.symm] at h

theorem ReportMove.context_of_rest (hne : m.leaves c.state ≠ c.state)
    (hs : m.leaves c.state = .offline ∨ m.leaves c.state = .ready ∨ m.leaves c.state = .tripped) :
    m.context c power reentry now = c.rest (m.leaves c.state) := by
  cases m with
  | stay => exact absurd rfl hne
  | rest into => rfl
  | _ => simp [leaves] at hs

theorem ReportMove.context_of_running (h : m.Fits c.state) (hne : m.leaves c.state ≠ c.state)
    (hs : m.leaves c.state = .running) :
    m.context c power reentry now = { c with state := .running, startTimer := none } := by
  cases m with
  | stay => exact absurd rfl hne
  | run => rfl
  | rest into => obtain ⟨-, -, rfl | rfl | rfl⟩ := h <;> simp [leaves] at hs
  | _ => simp [leaves] at hs

theorem ReportMove.context_of_unload (h : m.Fits c.state) (hne : m.leaves c.state ≠ c.state)
    (hs : m.leaves c.state = .unloading) (hc : c.state = .starting ∨ c.state = .running) :
    m.context c power reentry now = c.unload (min c.setpoint power) := by
  cases m with
  | stay => exact absurd rfl hne
  | unload => rfl
  | rest into => obtain ⟨-, -, rfl | rfl | rfl⟩ := h <;> simp [leaves] at hs
  | run => simp [leaves] at hs
  | reenter => rcases hc with hc | hc <;> simp [Fits, hc] at h

theorem ReportMove.context_of_reenter (h : m.Fits c.state) (hne : m.leaves c.state ≠ c.state)
    (hs : m.leaves c.state = .unloading) (hc : c.state = .offline ∨ c.state = .ready ∨ c.state = .lost) :
    m.context c power reentry now = c.reenter reentry now := by
  cases m with
  | stay => exact absurd rfl hne
  | reenter => rfl
  | rest into => obtain ⟨-, -, rfl | rfl | rfl⟩ := h <;> simp [leaves] at hs
  | run => simp [leaves] at hs
  | unload => rcases hc with hc | hc | hc <;> simp [Fits, hc] at h

end

/-! ### A move applied to the state -/

theorem PerTrain.set_get_self {α : Type} (p : PerTrain α) (t : Train) : p.set t (p.get t) = p := by
  cases t <;> rfl

theorem PerTrain.set_set {α : Type} (p : PerTrain α) (t : Train) (a b : α) : (p.set t a).set t b = p.set t b := by
  cases t <;> rfl

/-- A state with a train's context replaced, TRAIN_TRIPPED set if it trips, and pass-pending set if a Pass is due. -/
def State.withMove (s : State) (t : Train) (after : TrainContext) (trips triggers : Bool) : State :=
  { s with
    trains := s.trains.set t after
    sticky := s.sticky ||| if trips then stickyBit (.trainTripped t) else 0
    projector := { s.projector with passPending := s.projector.passPending || triggers } }

/-- A context written just before is written over. -/
theorem State.withMove_setTrain (s : State) (t : Train) (c after : TrainContext) (trips triggers : Bool) :
    (s.setTrain t c).withMove t after trips triggers = s.withMove t after trips triggers :=
  congrArg (fun trains => { s.withMove t after trips triggers with trains := trains })
    (PerTrain.set_set s.trains t c after)

theorem triggerPassIf_setTrain (t : Train) (after : TrainContext) (triggers : Bool) (s : State) :
    triggerPassIf triggers (s.setTrain t after) = s.withMove t after false triggers := by
  cases triggers <;>
    simp [triggerPassIf, triggerPass, State.withMove, State.setTrain, State.setTrains, State.setProjector]

theorem triggerPass_setTrain_tripped (t : Train) (after : TrainContext) (s : State) :
    triggerPass (setSticky (.trainTripped t) (s.setTrain t after)) = s.withMove t after true true := by
  rw [State.withMove, Bool.or_true]
  rfl

theorem applyMove_eq {t : Train} {power : Nat} {m : ReportMove} {s : State} (h : m.Fits (s.train t).state) :
    applyMove t power m s =
      s.withMove t (m.context (s.train t) power (reentrySetpoint t power s) s.now) m.trips
        (m.triggers (s.train t).state) := by
  have stays (after : TrainContext) : s.setTrain t after = s.withMove t after false false :=
    triggerPassIf_setTrain t after false s
  cases m with
  | stay =>
    calc s
      _ = s.setTrain t (s.train t) := congrArg s.setTrains (PerTrain.set_get_self s.trains t).symm
      _ = s.withMove t (s.train t) false false := stays _
  | rest into =>
    obtain ⟨-, -, rfl | rfl | rfl⟩ := h
    · exact triggerPassIf_setTrain t _ _ s
    · exact triggerPassIf_setTrain t _ _ s
    · exact triggerPass_setTrain_tripped t _ s
  | run => exact stays _
  | reenter => exact triggerPassIf_setTrain t _ _ s
  | unload => exact stays _

/-! ### A report taken (R161, R162) -/

theorem maxPower_eq (t : Train) : maxPower t = if trainKind t = .compressor then 900 else 1200 := by
  unfold maxPower
  cases trainKind t <;> rfl

theorem reportBeyond_iff (line : Train) (raw : ReportFrame) :
    reportBeyond line raw = true ↔
      maxPower line < raw.power.toNat ∨ 6000 < raw.massFlow.toNat ∨ 8000 < raw.temperature.toNat ∨
        5000 < raw.elapsed.toNat := by
  simp only [reportBeyond, Bool.or_eq_true, decide_eq_true_iff, or_assoc]

theorem reportParts_eq (line : Train) (raw : ReportFrame) (r : Report) (c : TrainContext) :
    reportParts line raw r c =
      [.mass line raw.massFlow.toNat raw.elapsed.toNat,
       if trainKind line = .compressor then .deposit line r.heat r.temperature c.boundTank
       else .draw line r.heat c.boundTank,
       .formation line { status := r.status, power := r.power, elapsed := r.elapsed, left := c.state }] := by
  unfold reportParts
  cases trainKind line <;> rfl

/-- The context once a report is recorded and its Silence Timer restarted, the State not yet moved. -/
def TrainContext.record (c : TrainContext) (r : Report) : TrainContext :=
  { c with lastReport := some r, silence := some 0 }

section
variable (line : Train) (raw : ReportFrame) (status : ReportedStatus) (s : State)

/-- The context a report leaves: recorded, then moved. -/
def reportedContext : TrainContext :=
  let r := clampReport line status raw
  (reportMove status (s.train line).state).context ((s.train line).record r) r.power
    (reentrySetpoint line r.power s) s.now

theorem reportedContext_state :
    (reportedContext line raw status s).state =
      (reportMove status (s.train line).state).leaves (s.train line).state :=
  ReportMove.context_state

/-- The state a report leaves, before a Pass that is due begins. -/
def reportedState : State :=
  let before := (s.train line).state
  let m := reportMove status before
  let after := reportedContext line raw status s
  { s with
    trains := s.trains.set line after
    sticky := (s.sticky ||| if reportBeyond line raw then stickyBit .reportClamped else 0) |||
      if m.trips then stickyBit (.trainTripped line) else 0
    projector := { s.projector with passPending := s.projector.passPending || m.triggers before }
    raised := s.raised ++ reportParts line raw (clampReport line status raw) after }

/-- Recording a report changes no Setpoint and no Selection, so a re-entry's setpoint is that of the state before. -/
theorem reentrySetpoint_record (r : Report) (power : Nat) :
    reentrySetpoint line power (onTrain line (·.record r) s) = reentrySetpoint line power s := by
  have setpoint (k : Train) : ((onTrain line (·.record r) s).train k).setpoint = (s.train k).setpoint := by
    by_cases hk : k = line
    · rw [hk, onTrain, State.train_setTrain]
      rfl
    · rw [onTrain, State.train_setTrain_other _ _ _ _ hk]
  have selection : ((onTrain line (·.record r) s).train line).selection = (s.train line).selection := by
    rw [onTrain, State.train_setTrain]
    rfl
  have holds (k : TrainKind) : kindHolds (onTrain line (·.record r) s) k = kindHolds s k := by
    simp only [kindHolds, setpoint]
  rw [reentrySetpoint, selection, holds]
  rfl

theorem train_record (r : Report) : (onTrain line (·.record r) s).train line = (s.train line).record r :=
  State.train_setTrain s line _

/-- The move of a report, made on the context it has been recorded in. -/
theorem applyMove_record (r : Report) (power : Nat) :
    let before := (s.train line).state
    let m := reportMove status before
    let recorded := onTrain line (·.record r) s
    applyMove line power (reportMove status (recorded.train line).state) recorded =
      s.withMove line (m.context ((s.train line).record r) power (reentrySetpoint line power s) s.now) m.trips
        (m.triggers before) := by
  intro before m recorded
  have hbefore : (recorded.train line).state = before := by
    rw [train_record]
    rfl
  rw [applyMove_eq (reportMove_fits status _), reentrySetpoint_record, hbefore, train_record]
  exact State.withMove_setTrain ..

theorem reportedState_sticky (i : Nat) :
    (reportedState line raw status s).sticky.getLsbD i = true ↔
      s.sticky.getLsbD i = true ∨ (i = 24 ∧ reportBeyond line raw = true) ∨
        (i = 12 + trainIndex line ∧ (s.train line).state ≠ .tripped ∧
          (reportedContext line raw status s).state = .tripped) := by
  rw [reportedState, getLsbD_or_stickyBit_if, getLsbD_or_stickyBit_if, ReportMove.trips_iff (reportMove_fits status _),
    reportedContext_state, or_assoc]
  rfl

theorem reportedState_passPending :
    (reportedState line raw status s).projector.passPending = true ↔
      s.projector.passPending = true ∨
        ((s.train line).state ≠ (reportedContext line raw status s).state ∧
          ((s.train line).state = .lost ∨ (reportedContext line raw status s).state = .tripped)) := by
  rw [reportedState, Bool.or_eq_true, ReportMove.triggers_iff (reportMove_fits status _), reportedContext_state]

theorem takeReport_eq : takeReport line raw status s = beginIfDue (reportedState line raw status s) := by
  let clamped := s.setSticky (s.sticky ||| if reportBeyond line raw then stickyBit .reportClamped else 0)
  let m := reportMove status (s.train line).state
  let after := reportedContext line raw status s
  let moved := clamped.withMove line after m.trips (m.triggers (s.train line).state)
  have hmoved := applyMove_record line status clamped (clampReport line status raw) (clampReport line status raw).power
  have hleft : moved.train line = after := PerTrain.get_set s.trains line after
  calc takeReport line raw status s
    _ = beginIfDue (raiseAll (reportParts line raw (clampReport line status raw) (moved.train line)) moved) := by
      rw [takeReport, setStickyIf_eq]
      exact congrArg (fun k : State =>
        beginIfDue (raiseAll (reportParts line raw (clampReport line status raw) (k.train line)) k)) hmoved
    _ = beginIfDue (reportedState line raw status s) := by
      rw [hleft]
      rfl

end

/-! ### The command -/

theorem listedReportStatus_code (status : ReportedStatus) :
    listedReportStatus (reportStatusCode status) = some status := by
  cases status <;> rfl

theorem listedReportStatus_beyond {n : Nat} (h : 5 < n) : listedReportStatus n = none :=
  match n, h with
  | _ + 6, _ => rfl

section
variable {line : Train} {raw : ReportFrame} {status : ReportedStatus} {s : State}

theorem judgeReport_discarded (h : raw.number.toNat ≠ trainIndex line ∨ 5 < raw.status.toNat) :
    judgeReport line raw s = s := by
  unfold judgeReport
  split
  · next hn => rw [listedReportStatus_beyond (h.resolve_left (not_not_intro hn))]
  · rfl

theorem judgeReport_taken (hn : raw.number.toNat = trainIndex line) (hs : raw.status.toNat = reportStatusCode status) :
    judgeReport line raw s = beginIfDue (reportedState line raw status s) := by
  simp only [judgeReport, if_pos hn, hs, listedReportStatus_code, takeReport_eq]

theorem exec_trainReport (line : Train) (raw : ReportFrame) (s : State) :
    exec (.trainReport line raw) s = .next (judgeReport line raw (endReport line s)) := rfl

end

/-- Settles O39: a report that is not discarded is recorded and moved by the table, and each clause about the State is what
the move the table makes leaves. -/
theorem aTrainReportIsRecordedJudgedAndHandedOn : Obligations.ATrainReportIsRecordedJudgedAndHandedOn := by
  refine fun line raw s => ⟨fun h => ?_, fun status hn hs => ?_⟩
  · rw [exec_trainReport, judgeReport_discarded h]
    rfl
  intro c largest report beyond recorded heat table otherHolds
  let m := reportMove status c.state
  let after := m.context recorded report.power (reentrySetpoint line report.power s) (s.interval, s.clock.second)
  have hfits : m.Fits recorded.state := reportMove_fits status c.state
  have hstate : after.state = m.leaves c.state := ReportMove.context_state
  have hreport : clampReport line status raw = report := by
    rw [clampReport, maxPower_eq]
  have hafter : reportedContext line raw status (endReport line s) = after := by
    rw [reportedContext, hreport]
    rfl
  have hheld : kindHolds s (otherKind (trainKind line)) = true ↔ otherHolds := kindHolds_otherKind_iff s line
  refine ⟨reportedState line raw status (endReport line s), after, ?_, ?_, fun i => ?_, ?_, ?_, fun h => ?_,
    fun h => ⟨fun hr => ?_, fun hr => ?_, fun hr hc => ?_, fun hr hc => ?_⟩⟩
  · rw [exec_trainReport, judgeReport_taken hn hs]
  · rw [reportedState, hafter, reportParts_eq, hreport, ReportMove.context_boundTank]
    rfl
  · rw [reportedState_sticky, hafter, reportBeyond_iff, maxPower_eq]
    rfl
  · rw [reportedState_passPending, hafter]
    rfl
  · rw [hstate]
    have row := reportRow_at status c.state
    cases status <;> exact row
  · exact ReportMove.context_of_same hfits (hstate.symm.trans h)
  · rw [hstate] at h hr ⊢
    exact ReportMove.context_of_rest h hr
  · exact ReportMove.context_of_running hfits (hstate ▸ h) (hstate ▸ hr)
  · exact ReportMove.context_of_unload hfits (hstate ▸ h) (hstate ▸ hr) hc
  · have reentered : after = recorded.reenter (reentrySetpoint line report.power s) (s.interval, s.clock.second) :=
      ReportMove.context_of_reenter hfits (hstate ▸ h) (hstate ▸ hr) hc
    have hsetpoint : after.setpoint = reentrySetpoint line report.power s := congrArg TrainContext.setpoint reentered
    refine ⟨?_, fun hz => ?_, fun hz sel hsel => ?_⟩
    · rw [hsetpoint]
      exact reentered
    · exact hsetpoint.trans (reentrySetpoint_zero (hz.imp_right hheld.mpr))
    · exact hsetpoint.trans (reentrySetpoint_selected hsel (hheld.not.mpr hz))

end Sys2Proof.Machine

/-!
PROOF. The Schedule Value, the caps and the Target of an evaluation (R183, R184): C as the sum its records call for,
each cap as the Band leaves it, the fields that no step of an evaluation after the first writes again, and the limits of
a train.
-/
namespace Sys2Proof.Machine

/-! ### The Schedule Value (R183) -/

/-- The sum of a quantity over the records of a kind. -/
def sumOfKind (k : CommitmentKind) (amount : Commitment → Int) (records : List Commitment) : Int :=
  sumInt amount (records.filter fun c => decide (c.kind = k))

theorem sumOfKind_cons (k : CommitmentKind) (amount : Commitment → Int) (c : Commitment) (records : List Commitment) :
    sumOfKind k amount (c :: records) = (if c.kind = k then amount c else 0) + sumOfKind k amount records := by
  by_cases h : c.kind = k <;> simp [sumOfKind, sumInt, h]

theorem sumOfKind_eq_foldr (k : CommitmentKind) (amount : Commitment → Int) (records : List Commitment) :
    sumOfKind k amount records = ((records.filter fun c => decide (c.kind = k)).map amount).foldr (· + ·) 0 :=
  sumInt_eq_foldr amount _

theorem sumInt_calledFor (records : List Commitment) :
    sumInt calledFor records =
      sumOfKind .energy Commitment.power records + sumOfKind .reserveUp (fun c => (c.deployed : Int)) records -
        sumOfKind .reserveDown (fun c => (c.deployed : Int)) records := by
  induction records with
  | nil => rfl
  | cons c rest ih =>
    simp only [sumInt, sumOfKind_cons, ih, calledFor]
    cases c.kind <;> simp <;> omega

/-! ### The caps (R184) -/

theorem atWork_eq (state : TrainState) : atWork state = decide (state = .starting ∨ state = .running) := by
  cases state <;> rfl

theorem capMember_eq (s : State) (t : Train) :
    capMember s t = ((s.train t).selection.isSome && !(s.train t).released &&
      decide ((s.train t).state = .ready ∨ (s.train t).state = .starting ∨ (s.train t).state = .running)) := by
  rw [capMember, atWork_eq, ← Bool.decide_or, Bool.and_right_comm]
  simp only [or_comm (b := (s.train t).state = .ready)]

theorem capPart_expander {s : State} {t : Train} (h : trainKind t = .expander) : capPart s t = trainLimit s t := by
  simp only [capPart, h]

theorem capPart_compressor {s : State} {t : Train} (h : trainKind t = .compressor) :
    capPart s t = min (trainLimit s t) (creditReach s t) := by
  simp only [capPart, h]

theorem capAsFormed_eq {s : State} {k : TrainKind} {part : Train → Nat}
    (h : ∀ t, trainKind t = k → capPart s t = part t) :
    capAsFormed s k = (((trainsOf k).filter (capMember s)).map part).sum := by
  rw [capAsFormed, sumOver_eq_sum]
  exact congrArg List.sum (List.map_congr_left fun t ht => h t ((mem_trainsOf t k).mp (List.mem_of_mem_filter ht)))

theorem heldSum_eq (s : State) (k : TrainKind) :
    heldSum s k = (((trainsOf k).filter fun t => !(s.train t).released &&
      decide ((s.train t).state = .starting ∨ (s.train t).state = .running)).map
        fun t => (s.train t).setpoint).sum := by
  simp only [heldSum, sumOver_eq_sum, runningSet, atWork_eq, Bool.and_comm]

theorem bandStops_expander_iff (b : Band) : bandStops b .expander = true ↔ b = .lowLimit := by cases b <;> decide

theorem bandStops_compressor_iff (b : Band) : bandStops b .compressor = true ↔ b = .highLimit := by cases b <;> decide

theorem bandWarns_expander_iff (b : Band) : bandWarns b .expander = true ↔ b = .lowWarn := by cases b <;> decide

theorem bandWarns_compressor_iff (b : Band) : bandWarns b .compressor = true ↔ b = .highWarn := by cases b <;> decide

/-- A WARN band is no LIMIT band. -/
theorem not_bandStops_of_bandWarns {b : Band} {k : TrainKind} (h : bandWarns b k = true) : ¬ bandStops b k = true := by
  cases k with
  | expander => rw [(bandWarns_expander_iff b).mp h]; decide
  | compressor => rw [(bandWarns_compressor_iff b).mp h]; decide

section
variable {s : State} {k : TrainKind}

theorem capOf_stopped (h : bandStops s.cavern.band k = true) : capOf s k = 0 :=
  if_pos h

theorem capOf_warned (h : bandWarns s.cavern.band k = true) : capOf s k = min (capAsFormed s k) (heldSum s k) := by
  rw [capOf, if_neg (not_bandStops_of_bandWarns h), if_pos h]

theorem capOf_unheld (hs : ¬ bandStops s.cavern.band k = true) (hw : ¬ bandWarns s.cavern.band k = true) :
    capOf s k = capAsFormed s k := by
  rw [capOf, if_neg hs, if_neg hw]

end

/-! ### What the steps of an evaluation leave of the caps and the Target (R185) -/

@[simp] theorem settleDirection_target_caps (s : State) :
    (settleDirection s).dispatcher.target = s.dispatcher.target ∧
    (settleDirection s).dispatcher.generationCap = s.dispatcher.generationCap ∧
    (settleDirection s).dispatcher.chargeCap = s.dispatcher.chargeCap := by
  simp [settleDirection, onDispatcher]

@[simp] theorem Dispatcher.setRotation_target_caps (d : Dispatcher) (k : TrainKind) (r : Rotation) :
    (d.setRotation k r).target = d.target ∧
    (d.setRotation k r).generationCap = d.generationCap ∧
    (d.setRotation k r).chargeCap = d.chargeCap := by
  cases k <;> simp [Dispatcher.setRotation]

@[simp] theorem startTrain_dispatcher (t : Train) (d : Descriptor) (s : State) :
    (startTrain t d s).dispatcher = s.dispatcher := by
  simp [startTrain]

@[simp] theorem startDecisions_target_caps (k : TrainKind) (n : Nat) (s : State) :
    (startDecisions k n s).dispatcher.target = s.dispatcher.target ∧
    (startDecisions k n s).dispatcher.generationCap = s.dispatcher.generationCap ∧
    (startDecisions k n s).dispatcher.chargeCap = s.dispatcher.chargeCap := by
  induction n generalizing s with
  | zero => simp [startDecisions]
  | succ n ih =>
    unfold startDecisions
    dsimp only
    (repeat' split) <;> simp [ih, onDispatcher]

@[simp] theorem decideTrains_target_caps (s : State) :
    (decideTrains s).dispatcher.target = s.dispatcher.target ∧
    (decideTrains s).dispatcher.generationCap = s.dispatcher.generationCap ∧
    (decideTrains s).dispatcher.chargeCap = s.dispatcher.chargeCap := by
  unfold decideTrains
  dsimp only
  split <;> simp

@[simp] theorem takeScheduleValue_target_caps (s : State) :
    (takeScheduleValue s).dispatcher.target = s.dispatcher.target ∧
    (takeScheduleValue s).dispatcher.generationCap = s.dispatcher.generationCap ∧
    (takeScheduleValue s).dispatcher.chargeCap = s.dispatcher.chargeCap := by
  unfold takeScheduleValue
  dsimp only
  split <;> simp [onDispatcher, closeSegment]

@[simp] theorem testStop_target_caps (s : State) :
    (testStop s).dispatcher.target = s.dispatcher.target ∧
    (testStop s).dispatcher.generationCap = s.dispatcher.generationCap ∧
    (testStop s).dispatcher.chargeCap = s.dispatcher.chargeCap := by
  unfold testStop
  split <;> simp [onDispatcher]

@[simp] theorem testStop_scheduleValue (s : State) :
    (testStop s).dispatcher.scheduleValue = s.dispatcher.scheduleValue := by
  unfold testStop
  split <;> simp [onDispatcher]

/-- Whether C has changed or not, step 6 leaves the C of the table. -/
@[simp] theorem takeScheduleValue_scheduleValue (s : State) :
    (takeScheduleValue s).dispatcher.scheduleValue = scheduleValueOf s.store.commitments := by
  unfold takeScheduleValue
  dsimp only
  split
  · next unchanged => exact unchanged.symm
  · rfl

@[simp] theorem takeTarget_dispatcher (s : State) :
    (takeTarget s).dispatcher =
      { s.dispatcher with
        generationCap := capOf s .expander
        chargeCap := capOf s .compressor
        target := targetOf s.dispatcher.mode (scheduleValueOf s.store.commitments) (capOf s .expander)
          (capOf s .compressor) } := rfl

theorem evaluate_scheduleValue (s : State) :
    (evaluate s).dispatcher.scheduleValue = scheduleValueOf s.store.commitments := by
  simp [evaluate]

theorem evaluate_generationCap (s : State) : (evaluate s).dispatcher.generationCap = capOf s .expander := by
  simp [evaluate]

theorem evaluate_chargeCap (s : State) : (evaluate s).dispatcher.chargeCap = capOf s .compressor := by
  simp [evaluate]

theorem evaluate_target (s : State) :
    (evaluate s).dispatcher.target =
      targetOf s.dispatcher.mode (scheduleValueOf s.store.commitments) (capOf s .expander) (capOf s .compressor) := by
  simp [evaluate]

theorem targetOf_dispatching (c : Int) (generationCap chargeCap : Nat) :
    targetOf .dispatching c generationCap chargeCap = max (-(chargeCap : Int)) (min (generationCap : Int) c) :=
  holdInt_eq (by omega) c

theorem targetOf_other {mode : Mode} (h : mode ≠ .dispatching) (c : Int) (generationCap chargeCap : Nat) :
    targetOf mode c generationCap chargeCap = 0 := by
  cases mode with
  | dispatching => exact absurd rfl h
  | _ => rfl

/-! ### The limits of a train (R178, R184) -/

section
variable {s : State} {t : Train} {sel : Selection}

theorem trainLimit_unselected (h : (s.train t).selection = none) : trainLimit s t = 0 := by
  simp only [trainLimit, h]

theorem creditReach_unselected (h : (s.train t).selection = none) : creditReach s t = 0 := by
  simp only [creditReach, h]

theorem currentLimit_selected (h : (s.train t).selection = some sel) :
    currentLimit s t = limitUnder s.tables.outages t s.interval sel.descriptor.maxLoad := by
  simp only [currentLimit, h]

theorem trainLimit_selected (h : (s.train t).selection = some sel) :
    trainLimit s t =
      if trainKind t = .expander ∧ topStanding s (s.train t).boundTank ≠ .usable then
        min (currentLimit s t) (sel.descriptor.coldMax.getD (currentLimit s t))
      else currentLimit s t := by
  simp only [trainLimit, h]

theorem trainLimit_warm (h : (s.train t).selection = some sel)
    (warm : trainKind t = .compressor ∨ topStanding s (s.train t).boundTank = .usable) :
    trainLimit s t = currentLimit s t := by
  rw [trainLimit_selected h, if_neg]
  rintro ⟨expander, cold⟩
  exact warm.elim (by simp [expander]) cold

theorem trainLimit_cold {coldMax : Nat} (h : (s.train t).selection = some sel) (expander : trainKind t = .expander)
    (cold : topStanding s (s.train t).boundTank ≠ .usable) (hc : sel.descriptor.coldMax = some coldMax) :
    trainLimit s t = min (currentLimit s t) coldMax := by
  rw [trainLimit_selected h, if_pos ⟨expander, cold⟩, hc, Option.getD_some]

theorem creditReach_selected {qk : Nat} (h : (s.train t).selection = some sel)
    (hq : sel.descriptor.heatRate = some qk) :
    creditReach s t =
      ((s.train t).reservation + reachableEnergy s (s.train t).boundTank) * 36000 / (qk * s.loader.creditWindow) := by
  simp only [creditReach, h, creditSetpoint, hq]

end

theorem topStanding_empty {s : State} {tank : Tank} (h : (s.tank tank).layers = []) :
    topStanding s tank = .empty := by
  rw [topStanding, h, standingOf]

theorem topStanding_cons {s : State} {tank : Tank} {top : Layer} {below : List Layer}
    (h : (s.tank tank).layers = top :: below) :
    topStanding s tank = if s.loader.heat.tUse ≤ top.temperature then .usable else .cold := by
  rw [topStanding, h, standingOf]

/-- Settles O48: step 1 writes the caps and N, and step 6 writes C, as the state before the evaluation gives them; a
train's limits are those of its Outage Records and of the top of its Tank. -/
theorem theTargetIsTheScheduleWithinTheCaps : Obligations.TheTargetIsTheScheduleWithinTheCaps := by
  refine ⟨fun s => ?_, fun s t => ?_⟩
  · intro e active sum called scheduled member working reach generation charge held b
    have value : scheduleValueOf s.store.commitments = scheduled := by
      rw [scheduleValueOf, sumInt_calledFor]
      simp only [sumOfKind_eq_foldr]
      rfl
    have members : capMember s = member := funext (capMember_eq s)
    have formedGeneration : capAsFormed s .expander = generation := by
      rw [capAsFormed_eq fun _ => capPart_expander, members]
      rfl
    have formedCharge : capAsFormed s .compressor = charge := by
      rw [capAsFormed_eq fun _ => capPart_compressor, members]
      rfl
    simp only [e, evaluate_scheduleValue, evaluate_generationCap, evaluate_chargeCap, evaluate_target]
    refine ⟨value, fun h => ?_, fun h => ?_, fun hl hw => ?_, fun h => ?_, fun h => ?_, fun hl hw => ?_, fun h => ?_,
      fun h => targetOf_other h ..⟩
    · exact capOf_stopped ((bandStops_expander_iff b).mpr h)
    · rw [capOf_warned ((bandWarns_expander_iff b).mpr h), formedGeneration, heldSum_eq]
      rfl
    · rw [← formedGeneration]
      exact capOf_unheld ((bandStops_expander_iff b).not.mpr hl) ((bandWarns_expander_iff b).not.mpr hw)
    · exact capOf_stopped ((bandStops_compressor_iff b).mpr h)
    · rw [capOf_warned ((bandWarns_compressor_iff b).mpr h), formedCharge, heldSum_eq]
      rfl
    · rw [← formedCharge]
      exact capOf_unheld ((bandStops_compressor_iff b).not.mpr hl) ((bandWarns_compressor_iff b).not.mpr hw)
    · rw [h, value]
      exact targetOf_dispatching ..
  · refine ⟨fun h => ⟨trainLimit_unselected h, creditReach_unselected h⟩, fun sel h => ?_, topStanding_empty,
      fun l rest => topStanding_cons⟩
    refine ⟨trainLimit_warm h, fun expander cold coldMax hc => trainLimit_cold h expander cold hc,
      fun qk hq => creditReach_selected h hq, ?_, ?_⟩
    · rw [currentLimit_selected h]
      exact limitUnder_full
    · rw [currentLimit_selected h]
      exact limitUnder_derated

end Sys2Proof.Machine

/-!
What one command does, said once: the shapes of a request, of a raised event and of a step, and the completion of every
command (O1, O2).
-/
section
namespace Sys2Proof.Machine

/-! ### The shapes of commands -/

section

variable {α : Type} {code : Octet} {ports : Port → Bool} {fields : Parser α} {f : Frame} {s : State}

/-- What becomes of a request frame: it is discarded, answered without reaching its owner, or handed to its owner. -/
theorem takeRequest_cases (code : Octet) (ports : Port → Bool) (fields : Parser α)
    (owner : Port → Octet → α → State → State) (f : Frame) (s : State) :
    takeRequest code ports fields owner f s = received f s ∨
    (hasRoom (viaPort f.via) (received f s) = true ∧ ∃ reply, takeRequest code ports fields owner f s =
      respond (viaPort f.via) f.tag code reply (received f s)) ∨
    (hasRoom (viaPort f.via) (received f s) = true ∧ (received f s).loader.loadState = .ended ∧
      ∃ a, parseBody fields f.body = .ok a ∧
        takeRequest code ports fields owner f s = owner (viaPort f.via) f.tag a (received f s)) := by
  unfold takeRequest
  dsimp only
  split
  · next room =>
    refine .inr ?_
    split
    · exact .inl ⟨room, _, rfl⟩
    · next a parsed =>
      split
      · split
        · exact .inl ⟨room, _, rfl⟩
        · next loaded =>
          refine .inr ⟨room, ?_, a, parsed, rfl⟩
          cases h : (received f s).loader.loadState
          · exact absurd h loaded
          · rfl
      · exact .inl ⟨room, _, rfl⟩
  · exact .inl rfl

/-- A quantity that the link operations and the owner of a request leave is left by the request. -/
theorem takeRequest_leaves {β : Type} {g : State → β} {owner : Port → Octet → α → State → State}
    (received_leaves : g (received f s) = g s)
    (respond_leaves : ∀ p tag code reply r, g (respond p tag code reply r) = g r)
    (owner_leaves : ∀ p tag a r, g (owner p tag a r) = g r) :
    g (takeRequest code ports fields owner f s) = g s := by
  obtain h | ⟨_, reply, h⟩ | ⟨_, _, a, _, h⟩ := takeRequest_cases code ports fields owner f s
  · rw [h, received_leaves]
  · rw [h, respond_leaves, received_leaves]
  · rw [h, owner_leaves, received_leaves]

/-- What a block makes of its raised events: none is there, or one of those raised is handled, and those left were
raised before. -/
theorem handleRaised_cases {β : Type} (pick : Raised → Option β) (handle : β → State → State) (s : State) :
    handleRaised pick handle s = s ∨
    ∃ event left, (∃ r ∈ s.raised, pick r = some event) ∧ (∀ r ∈ left, r ∈ s.raised) ∧
      handleRaised pick handle s = handle event (s.setRaised left) := by
  unfold handleRaised
  split
  · next found h =>
    obtain ⟨raised, left⟩ := takeFirst_mem h
    exact .inr ⟨found.1, found.2, raised, left, rfl⟩
  · exact .inl rfl

/-- A quantity that a block's handling of an event leaves, and that does not read the raised events, is left. -/
theorem handleRaised_leaves {β γ : Type} {g : State → γ} {pick : Raised → Option β} {handle : β → State → State}
    (setRaised_leaves : ∀ left, g (s.setRaised left) = g s) (handle_leaves : ∀ event r, g (handle event r) = g r) :
    g (handleRaised pick handle s) = g s := by
  obtain h | ⟨event, left, _, _, h⟩ := handleRaised_cases pick handle s
  · rw [h]
  · rw [h, handle_leaves, setRaised_leaves]

end

/-! ### Every command completes -/

section

variable {α : Type} {code : Octet} {ports : Port → Bool} {fields : Parser α} {f : Frame} {s : State}

theorem takeRequest_pending {owner : Port → Octet → α → State → State}
    (h : ∀ p tag a r, (owner p tag a r).pending = r.pending) :
    (takeRequest code ports fields owner f s).pending = s.pending :=
  takeRequest_leaves (g := State.pending) (by simp) (by simp) h

theorem atOnce_pending {owner : Port → α → State → Reply × State} (h : ∀ p a r, (owner p a r).2.pending = r.pending) :
    (atOnce code ports fields owner f s).pending = s.pending :=
  takeRequest_pending fun p tag a r => by simp [h]

theorem lookup_pending {answer : α → State → Reply} : (lookup code fields answer f s).pending = s.pending :=
  atOnce_pending fun _ _ _ => rfl

theorem handleRaised_pending {β : Type} {pick : Raised → Option β} {handle : β → State → State}
    (h : ∀ event r, (handle event r).pending = r.pending) : (handleRaised pick handle s).pending = s.pending :=
  handleRaised_leaves (g := State.pending) (fun _ => rfl) h

end

theorem scheduleChange_pending (code : Octet) (p : Port) (tag : Octet) (a : Amendment) (own : State → Option Reply)
    (s : State) : (scheduleChange code p tag a own s).pending = s.pending := by
  unfold scheduleChange
  (repeat' split) <;> simp

theorem amendOwner_pending (p : Port) (tag : Octet) (q : AmendRequest) (s : State) :
    (amendOwner p tag q s).pending = s.pending := by
  unfold amendOwner previewAmend
  split
  · simp
  · exact scheduleChange_pending ..

theorem enterOutageOwner_pending (p : Port) (tag : Octet) (q : OutageRequest) (s : State) :
    (enterOutageOwner p tag q s).pending = s.pending := by
  unfold enterOutageOwner
  split <;> simp

theorem retireOutageOwner_pending (p : Port) (tag : Octet) (h : Nat) (s : State) :
    (retireOutageOwner p tag h s).pending = s.pending := by
  unfold retireOutageOwner
  (repeat' split) <;> simp

theorem deployRecord_pending (c : Commitment) (amount : Nat) (s : State) :
    (deployRecord c amount s).pending = s.pending := by
  unfold deployRecord
  split <;> simp

theorem deployOwner_pending (q : Nat × Nat) (s : State) : (deployOwner q s).2.pending = s.pending := by
  unfold deployOwner
  dsimp only
  (repeat' split) <;> simp [deployRecord_pending]

theorem walkFrom_pending (p : Port) (key : Nat × Nat) (s : State) : (walkFrom p key s).2.pending = s.pending := by
  unfold walkFrom setCursor
  split <;> simp

theorem walkNextOwner_pending (p : Port) (s : State) : (walkNextOwner p s).2.pending = s.pending := by
  unfold walkNextOwner
  split
  · rfl
  · exact walkFrom_pending ..

theorem claimOwner_pending (p : Port) (s : State) : (claimOwner p s).2.pending = s.pending := by
  unfold claimOwner
  split <;> rfl

theorem releaseOwner_pending (p : Port) (s : State) : (releaseOwner p s).2.pending = s.pending := by
  unfold releaseOwner
  split <;> rfl

theorem forceOwner_pending (s : State) : (forceOwner s).2.pending = s.pending := by
  unfold forceOwner
  split <;> rfl

theorem selectOwner_pending (q : Train × Nat) (s : State) : (selectOwner q s).2.pending = s.pending := by
  unfold selectOwner
  dsimp only
  (repeat' split) <;> simp

theorem reloadTrain_pending (s : State) (t : Train) : (reloadTrain s t).pending = s.pending := by
  unfold reloadTrain
  (repeat' split) <;> simp

theorem reloadOwner_pending (s : State) : (reloadOwner s).2.pending = s.pending := by
  unfold reloadOwner
  dsimp only
  split
  · rfl
  · simpa using foldl_frame State.pending reloadTrain allTrains s reloadTrain_pending

theorem amendEnvelopeOwner_pending (q : Nat × Descriptor) (s : State) :
    (amendEnvelopeOwner q s).2.pending = s.pending := by
  unfold amendEnvelopeOwner
  dsimp only
  (repeat' split) <;> simp

theorem bindOwner_pending (q : Train × Tank) (s : State) : (bindOwner q s).2.pending = s.pending := by
  unfold bindOwner
  dsimp only
  (repeat' split) <;> simp

theorem restoreOwner_pending (t : Train) (s : State) : (restoreOwner t s).2.pending = s.pending := by
  unfold restoreOwner
  split <;> simp

theorem calibrateOwner_pending (p : Nat) (s : State) : (calibrateOwner p s).2.pending = s.pending := by
  unfold calibrateOwner calibrate
  split <;> simp

theorem surveyOwner_pending (q : Tank × List (Nat × Nat)) (s : State) : (surveyOwner q s).2.pending = s.pending := by
  unfold surveyOwner
  dsimp only
  split <;> simp

theorem raiseBoundary_pending (b : Boundary) (s : State) : (raiseBoundary b s).pending = s.pending := by
  simp [raiseBoundary]

theorem setClockTo_pending (day second : Nat) (s : State) : (setClockTo day second s).pending = s.pending := by
  unfold setClockTo raiseMove
  (repeat' split) <;> simp [raiseBoundary_pending]

theorem setTimeOwner_pending (q : Nat × Nat) (s : State) : (setTimeOwner q s).2.pending = s.pending := by
  unfold setTimeOwner
  (repeat' split) <;> simp [setClockTo_pending]

theorem startDispatchOwner_pending (s : State) : (startDispatchOwner s).2.pending = s.pending := by
  unfold startDispatchOwner setMode
  (repeat' split) <;> simp

theorem stopDispatchOwner_pending (s : State) : (stopDispatchOwner s).2.pending = s.pending := by
  unfold stopDispatchOwner setMode
  split <;> simp

theorem resetDispatchOwner_pending (s : State) : (resetDispatchOwner s).2.pending = s.pending := by
  unfold resetDispatchOwner
  split <;> simp

theorem configureItem_pending (i : ItemId) (words : List Nat) (s : State) :
    (configureItem i words s).2.pending = s.pending := by
  unfold configureItem configureReply
  (repeat' split) <;> simp

theorem configureOwner_pending (q : Nat × List Nat) (s : State) : (configureOwner q s).2.pending = s.pending := by
  unfold configureOwner
  (repeat' split) <;> first | rfl | exact configureItem_pending ..

theorem clearOwner_pending (n : Nat) (s : State) : (clearOwner n s).2.pending = s.pending := by
  unfold clearOwner
  split <;> rfl

theorem maskOwner_pending (p : Port) (n : Nat) (s : State) : (maskOwner p n s).2.pending = s.pending := by
  unfold maskOwner
  split <;> simp

theorem lossForBoundary_pending (b : Boundary) (s : State) : (lossForBoundary b s).pending = s.pending := by
  unfold lossForBoundary
  split <;> simp

theorem drawHeat_pending (t : Train) (h : Nat) (tank : Tank) (s : State) : (drawHeat t h tank s).pending = s.pending := by
  unfold drawHeat recordUnderdraw
  dsimp only
  (repeat' split) <;> simp

theorem judgeReport_pending (line : Train) (raw : ReportFrame) (s : State) :
    (judgeReport line raw s).pending = s.pending := by
  unfold judgeReport takeReport
  (repeat' split) <;> simp

theorem advanceClock_pending (s : State) : (advanceClock s).pending = s.pending := by
  unfold advanceClock
  dsimp only
  split <;> simp [raiseBoundary_pending]

theorem finishSecond_pending (s : State) : (finishSecond s).pending = s.pending := by simp [finishSecond]

/-! ### The machine as a whole -/

/-- Settles O1: a step with a command at the front is the execution of that command. -/
theorem stepTakesTheFrontCommand : Obligations.StepTakesTheFrontCommand := by
  unfold Obligations.StepTakesTheFrontCommand
  intro c rest s
  rfl

/-- Settles O2: each command is a request, a raised event or an operation of one block, and each of these answers a next
state and leaves the queue of commands. -/
theorem everyCommandCompletes : Obligations.EveryCommandCompletes := by
  unfold Obligations.EveryCommandCompletes
  intro c s
  cases c with
  | powerOn => exact ⟨_, rfl, rfl⟩
  | loadEnd memory => exact ⟨_, rfl, by split <;> simp⟩
  | configItemTaken i => exact ⟨_, rfl, handleRaised_pending fun _ _ => by simp⟩
  | clockAdvance => exact ⟨_, rfl, by split <;> simp [advanceClock_pending, finishSecond_pending]⟩
  | commitmentBoundary => exact ⟨_, rfl, handleRaised_pending fun _ _ => by simp⟩
  | horizonShift => exact ⟨_, rfl, handleRaised_pending fun _ _ => by simp⟩
  | standingLoss => exact ⟨_, rfl, handleRaised_pending lossForBoundary_pending⟩
  | intervalClose => exact ⟨_, rfl, handleRaised_pending fun _ _ => by simp⟩
  | imbalanceDelivery => exact ⟨_, rfl, handleRaised_pending fun _ _ => by simp⟩
  | enter f => exact ⟨_, rfl, takeRequest_pending fun _ _ _ _ => scheduleChange_pending ..⟩
  | amend f => exact ⟨_, rfl, takeRequest_pending amendOwner_pending⟩
  | amendPreview f => exact ⟨_, rfl, takeRequest_pending amendOwner_pending⟩
  | confirm f => exact ⟨_, rfl, takeRequest_pending fun _ _ _ _ => scheduleChange_pending ..⟩
  | retire f => exact ⟨_, rfl, takeRequest_pending fun _ _ _ _ => scheduleChange_pending ..⟩
  | deploy f => exact ⟨_, rfl, atOnce_pending fun _ => deployOwner_pending⟩
  | lookupCommitment f => exact ⟨_, rfl, lookup_pending⟩
  | walkFirst f => exact ⟨_, rfl, atOnce_pending fun _ _ _ => walkFrom_pending ..⟩
  | walkNext f => exact ⟨_, rfl, atOnce_pending fun p _ => walkNextOwner_pending p⟩
  | claim f => exact ⟨_, rfl, atOnce_pending fun p _ => claimOwner_pending p⟩
  | release f => exact ⟨_, rfl, atOnce_pending fun p _ => releaseOwner_pending p⟩
  | force f => exact ⟨_, rfl, atOnce_pending fun _ _ => forceOwner_pending⟩
  | lookupRow f => exact ⟨_, rfl, lookup_pending⟩
  | lookupHorizon f => exact ⟨_, rfl, lookup_pending⟩
  | enterOutage f => exact ⟨_, rfl, takeRequest_pending enterOutageOwner_pending⟩
  | retireOutage f => exact ⟨_, rfl, takeRequest_pending retireOutageOwner_pending⟩
  | lookupOutage f => exact ⟨_, rfl, lookup_pending⟩
  | lookupTrain f => exact ⟨_, rfl, lookup_pending⟩
  | lookupEnvelope f => exact ⟨_, rfl, lookup_pending⟩
  | selectEnvelope f => exact ⟨_, rfl, atOnce_pending fun _ => selectOwner_pending⟩
  | reloadEnvelopes f => exact ⟨_, rfl, atOnce_pending fun _ _ => reloadOwner_pending⟩
  | amendEnvelope f => exact ⟨_, rfl, atOnce_pending fun _ => amendEnvelopeOwner_pending⟩
  | bindTank f => exact ⟨_, rfl, atOnce_pending fun _ => bindOwner_pending⟩
  | restoreTrain f => exact ⟨_, rfl, atOnce_pending fun _ => restoreOwner_pending⟩
  | lookupCavern f => exact ⟨_, rfl, lookup_pending⟩
  | calibrate f => exact ⟨_, rfl, atOnce_pending fun _ => calibrateOwner_pending⟩
  | lookupTank f => exact ⟨_, rfl, lookup_pending⟩
  | surveyTank f => exact ⟨_, rfl, atOnce_pending fun _ => surveyOwner_pending⟩
  | setTime f => exact ⟨_, rfl, atOnce_pending fun _ => setTimeOwner_pending⟩
  | startDispatch f => exact ⟨_, rfl, atOnce_pending fun _ _ => startDispatchOwner_pending⟩
  | stopDispatch f => exact ⟨_, rfl, atOnce_pending fun _ _ => stopDispatchOwner_pending⟩
  | resetDispatch f => exact ⟨_, rfl, atOnce_pending fun _ _ => resetDispatchOwner_pending⟩
  | commitmentStoreReset => exact ⟨_, rfl, handleRaised_pending fun _ _ => by simp⟩
  | projectorReset => exact ⟨_, rfl, handleRaised_pending fun _ _ => by simp⟩
  | heatStoreReset => exact ⟨_, rfl, handleRaised_pending fun _ _ => rfl⟩
  | trainUnitReset => exact ⟨_, rfl, handleRaised_pending fun _ _ => by simp⟩
  | configure f => exact ⟨_, rfl, atOnce_pending fun _ => configureOwner_pending⟩
  | lookupPlant f => exact ⟨_, rfl, atOnce_pending fun _ _ _ => rfl⟩
  | lookupConditions f => exact ⟨_, rfl, lookup_pending⟩
  | clearConditions f => exact ⟨_, rfl, atOnce_pending fun _ => clearOwner_pending⟩
  | setAlertMask f => exact ⟨_, rfl, atOnce_pending maskOwner_pending⟩
  | unknownCode code f => exact ⟨_, rfl, by split <;> simp⟩
  | badCheckFrame via octets => exact ⟨_, rfl, by simp⟩
  | taintedFrame octets => exact ⟨_, rfl, rfl⟩
  | linkReset p => exact ⟨_, rfl, by simp⟩
  | spIdleTransaction octets => exact ⟨_, rfl, by simp⟩
  | responseSent => exact ⟨_, rfl, rfl⟩
  | passCompletion => exact ⟨_, rfl, by simp⟩
  | trainReport line raw => exact ⟨_, rfl, judgeReport_pending ..⟩
  | trainFrameDiscarded line octets e => exact ⟨_, rfl, rfl⟩
  | massIntegration t => exact ⟨_, rfl, handleRaised_pending fun _ _ => by simp⟩
  | heatDeposit t => exact ⟨_, rfl, handleRaised_pending fun _ _ => by simp⟩
  | heatDraw t => exact ⟨_, rfl, handleRaised_pending fun _ _ => drawHeat_pending ..⟩
  | heatCreditGrant t q => exact ⟨_, rfl, by split <;> simp⟩
  | setpointFormation t => exact ⟨_, rfl, handleRaised_pending fun _ _ => by simp⟩
  | activeFirmNotice => exact ⟨_, rfl, handleRaised_pending fun _ _ => by simp⟩
  | bandNotice => exact ⟨_, rfl, handleRaised_pending fun _ _ => by simp⟩
  | topNotice tank => exact ⟨_, rfl, handleRaised_pending fun _ _ => by simp⟩
  | trainNotice t => exact ⟨_, rfl, handleRaised_pending fun _ _ => by simp⟩
  | startLimitExpiry t => exact ⟨_, rfl, by split <;> simp⟩
  | silenceTimeout t => exact ⟨_, rfl, by split <;> simp⟩
  | orderSent line => exact ⟨_, rfl, rfl⟩
  | shortLengthFrame length => exact ⟨_, rfl, rfl⟩
  | trainLinkBreak line => exact ⟨_, rfl, rfl⟩

end Sys2Proof.Machine
end

/-!
Invariants of every step: what the invariants of the Cavern Account, the Tanks and the Setpoints read of a state, the
operations that leave it, and one walk through the commands for any property that the remaining operations keep.
-/
section
namespace Sys2Proof.Machine

/-! ### What the invariants read -/

/-- What the invariants read of a Train Context. -/
def TrainContext.core (c : TrainContext) : TrainState × Option Selection × Tank × Nat × Nat :=
  (c.state, c.selection, c.boundTank, c.setpoint, c.reservation)

/-- What the invariants read of a state, its raised events apart. -/
structure Footprint where
  cavern : Cavern
  tanks : PerTank TankState
  trains : PerTrain (TrainState × Option Selection × Tank × Nat × Nat)
  compressorPhases : List Train
  expanderPhases : List Train
  heat : HeatConstants
  loadState : LoadState

/-- The footprint of a state. -/
def State.footprint (s : State) : Footprint :=
  { cavern := s.cavern, tanks := s.tanks, trains := s.trains.map TrainContext.core,
    compressorPhases := s.dispatcher.compressorRotation.phases,
    expanderPhases := s.dispatcher.expanderRotation.phases, heat := s.loader.heat, loadState := s.loader.loadState }

/-- The raised events the invariants do not read. -/
def Raised.routine : Raised → Bool
  | .deposit _ _ _ _ => false
  | .configItem _ => false
  | _ => true

/-- What is raised later was raised before, or is no event that the invariants read. -/
structure News (old new : List Raised) : Prop where
  known : ∀ r ∈ new, r ∈ old ∨ r.routine = true

/-- A later state in which nothing has changed that the invariants read. -/
structure Quiet (s t : State) : Prop where
  footprint : t.footprint = s.footprint
  news : News s.raised t.raised

/-! ### Raised events that the invariants do not read -/

section

variable {old new : List Raised} {s : State}

@[simp] theorem News.refl (old : List Raised) : News old old := ⟨fun _ h => .inl h⟩

theorem News.trans {next : List Raised} (h : News old new) (k : News new next) : News old next :=
  ⟨fun r hr => (k.known r hr).elim (h.known r) .inr⟩

theorem News.of_subset (h : ∀ r ∈ new, r ∈ old) : News old new := ⟨fun r hr => .inl (h r hr)⟩

theorem News.append {more : List Raised} (h : News old new) (hm : ∀ r ∈ more, r.routine = true) :
    News old (new ++ more) :=
  ⟨fun r hr => (List.mem_append.1 hr).elim (h.known r) fun k => .inr (hm r k)⟩

theorem news_raiseAll {rs : List Raised} (hr : ∀ r ∈ rs, r.routine = true) (h : News old s.raised) :
    News old (raiseAll rs s).raised := h.append hr

theorem news_raise {r : Raised} (h : News old s.raised) (hr : r.routine = true) : News old (raise r s).raised :=
  h.append (more := [r]) (by simpa using hr)

@[simp] theorem news_noticeTrains (ts : List Train) (h : News old s.raised) : News old (noticeTrains ts s).raised :=
  news_raiseAll (fun r hr => by obtain ⟨t, _, rfl⟩ := List.mem_map.1 hr; rfl) h

@[simp] theorem news_topNotices (before : State) (h : News old s.raised) : News old (topNotices before s).raised :=
  news_raiseAll (fun r hr => by obtain ⟨t, _, rfl⟩ := List.mem_map.1 hr; rfl) h

@[simp] theorem news_noticeIfActive (c : Commitment) (h : News old s.raised) :
    News old (noticeIfActive c s).raised := by
  unfold noticeIfActive
  split
  · exact news_raise h rfl
  · exact h

@[simp] theorem news_reinterpolate (h : News old s.raised) : News old (reinterpolate s).raised := by
  unfold reinterpolate
  dsimp only
  split
  · simp [h]
  · exact news_raise (by simp [h]) rfl

@[simp] theorem news_integrateReport (t : Train) (flow elapsed : Nat) (h : News old s.raised) :
    News old (integrateReport t flow elapsed s).raised := by
  unfold integrateReport
  dsimp only
  (repeat' split) <;> simp [h]

/-! ### The service of the Amendment Queue raises notices alone -/

@[simp] theorem news_serveRemoval (e : Entry) (reply : Reply) (c : Commitment) (h : News old s.raised) :
    News old (serveRemoval e reply c s).raised := by
  unfold serveRemoval
  dsimp only
  split <;> simp [h]

@[simp] theorem news_serveAmend (e : Entry) (q : AmendRequest) (c : Commitment) (h : News old s.raised) :
    News old (serveAmend e q c s).raised := by
  unfold serveAmend
  dsimp only
  (repeat' split) <;> simp [h]

theorem serveEnter_raised (e : Entry) (q : EnterRequest) (s : State) : (serveEnter e q s).raised = s.raised := by
  unfold serveEnter
  dsimp only
  (repeat' split) <;> simp

theorem serveConfirm_raised (e : Entry) (c : Commitment) (s : State) : (serveConfirm e c s).raised = s.raised := by
  unfold serveConfirm
  split <;> simp

@[simp] theorem news_serveOutage (e : Entry) (q : OutageRequest) (h : News old s.raised) :
    News old (serveOutage e q s).raised := by
  unfold serveOutage
  dsimp only
  split <;> simp [h]

@[simp] theorem news_serveRetireOutage (e : Entry) (handle : Nat) (h : News old s.raised) :
    News old (serveRetireOutage e handle s).raised := by
  unfold serveRetireOutage
  split <;> simp [h]

theorem news_serveRecord (e : Entry) (handle : Nat) {serve : Commitment → State → State} (h : News old s.raised)
    (hs : ∀ c, News old (serve c s).raised) : News old (serveRecord e handle serve s).raised := by
  unfold serveRecord
  split
  · simp [h]
  · exact hs _

@[simp] theorem news_serveEntry (e : Entry) (h : News old s.raised) : News old (serveEntry e s).raised := by
  unfold serveEntry
  split
  · split
    · simp [serveEnter_raised, h]
    · exact news_serveRecord _ _ h fun c => by simp [h]
    · exact news_serveRecord _ _ h fun c => by simp [serveConfirm_raised, h]
    · exact news_serveRecord _ _ h fun c => by simp [h]
    · simp [h]
    · simp [h]
  · simp [h]

theorem news_serveRounds (n : Nat) (h : News old s.raised) : News old (serveRounds n s).raised := by
  induction n generalizing s with
  | zero => exact h
  | succ n ih =>
    unfold serveRounds
    split
    · exact h
    · exact ih (by simp [h])

@[simp] theorem news_serveQueue (h : News old s.raised) : News old (serveQueue s).raised := news_serveRounds _ h

@[simp] theorem news_admitAmendment (p : Port) (tag code : Octet) (a : Amendment) (h : News old s.raised) :
    News old (admitAmendment p tag code a s).raised := by
  unfold admitAmendment
  dsimp only
  (repeat' split) <;> simp [h]

@[simp] theorem news_completePass (h : News old s.raised) : News old (completePass s).raised := by
  unfold completePass
  split <;> simp [h]

@[simp] theorem news_settleBoundary (b : Boundary) (h : News old s.raised) : News old (settleBoundary b s).raised := by
  unfold settleBoundary
  dsimp only
  split
  · simp [h]
  · exact news_raise (by simp [h]) rfl

end

/-! ### Quiet operations -/

theorem Quiet.refl (s : State) : Quiet s s := ⟨rfl, .refl _⟩

theorem Quiet.trans {s t u : State} (h : Quiet s t) (k : Quiet t u) : Quiet s u :=
  ⟨k.footprint.trans h.footprint, h.news.trans k.news⟩

theorem quiet_received (f : Frame) (s : State) : Quiet s (received f s) :=
  ⟨by simp [State.footprint], by simp⟩

theorem quiet_respond (p : Port) (tag code : Octet) (reply : Reply) (s : State) : Quiet s (respond p tag code reply s) :=
  ⟨by simp [State.footprint], by simp⟩

theorem quiet_setRaised {s : State} {left : List Raised} (h : ∀ r ∈ left, r ∈ s.raised) : Quiet s (s.setRaised left) :=
  ⟨rfl, .of_subset h⟩

theorem quiet_raise {r : Raised} (h : r.routine = true) (s : State) : Quiet s (raise r s) :=
  ⟨by simp [State.footprint], news_raise (.refl _) h⟩

theorem quiet_raiseAll {rs : List Raised} (h : ∀ r ∈ rs, r.routine = true) (s : State) : Quiet s (raiseAll rs s) :=
  ⟨by simp [State.footprint], news_raiseAll h (.refl _)⟩

theorem quiet_noticeTrains (ts : List Train) (s : State) : Quiet s (noticeTrains ts s) :=
  ⟨by simp [State.footprint], by simp⟩

theorem quiet_setSticky (c : Sticky) (s : State) : Quiet s (setSticky c s) :=
  ⟨by simp [State.footprint], by simp⟩

theorem quiet_setStickyIf (cause : Bool) (c : Sticky) (s : State) : Quiet s (setStickyIf cause c s) :=
  ⟨by simp [State.footprint], by simp⟩

theorem quiet_triggerPass (s : State) : Quiet s (triggerPass s) := ⟨by simp [State.footprint], by simp⟩

theorem quiet_triggerPassIf (cause : Bool) (s : State) : Quiet s (triggerPassIf cause s) :=
  ⟨by simp [State.footprint], by simp⟩

theorem quiet_beginIfDue (s : State) : Quiet s (beginIfDue s) := ⟨by simp [State.footprint], by simp⟩

theorem quiet_order (t : Train) (c : OrderCommand) (s : State) : Quiet s (order t c s) :=
  ⟨by simp [State.footprint], by simp⟩

theorem quiet_admitAmendment (p : Port) (tag code : Octet) (a : Amendment) (s : State) :
    Quiet s (admitAmendment p tag code a s) :=
  ⟨by simp [State.footprint], by simp⟩

theorem quiet_elapse (ms : Nat) (s : State) : Quiet s (elapse ms s) := ⟨rfl, .refl _⟩

theorem quiet_setClock (c : Clock) (s : State) : Quiet s (s.setClock c) := ⟨rfl, .refl _⟩

theorem quiet_setMode (m : Mode) (s : State) : Quiet s (setMode m s) := ⟨rfl, .refl _⟩

theorem quiet_setAuthority (a : Authority) (s : State) : Quiet s (setAuthority a s) := ⟨rfl, .refl _⟩

theorem quiet_closeSegment (s : State) : Quiet s (closeSegment s) := ⟨rfl, .refl _⟩

theorem quiet_addDelivered (t : Train) (power elapsed : Nat) (s : State) : Quiet s (addDelivered t power elapsed s) :=
  ⟨rfl, .refl _⟩

theorem quiet_resetDispatcher (s : State) : Quiet s (resetDispatcher s) := ⟨rfl, .refl _⟩

theorem quiet_hideCreditLimits (s : State) : Quiet s (hideCreditLimits s) := ⟨rfl, .refl _⟩

theorem quiet_raiseBoundary (b : Boundary) (s : State) : Quiet s (raiseBoundary b s) :=
  quiet_raiseAll (by simp [Raised.routine]) s

theorem quiet_advanceClock (s : State) : Quiet s (advanceClock s) := by
  unfold advanceClock
  dsimp only
  split
  · exact quiet_setClock ..
  · exact (quiet_setClock ..).trans (quiet_raiseBoundary ..)

theorem quiet_raiseMove (old new : Nat) (s : State) : Quiet s (raiseMove old new s) := by
  unfold raiseMove
  split
  · exact quiet_raiseBoundary ..
  · split
    · exact quiet_raiseBoundary ..
    · exact .refl s

theorem quiet_setClockTo (day second : Nat) (s : State) : Quiet s (setClockTo day second s) := by
  unfold setClockTo
  exact (quiet_setClock ..).trans (quiet_raiseMove ..)

theorem quiet_scheduleChange (code : Octet) (p : Port) (tag : Octet) (a : Amendment) (own : State → Option Reply)
    (s : State) : Quiet s (scheduleChange code p tag a own s) := by
  unfold scheduleChange
  split
  · exact quiet_respond ..
  · split
    · exact quiet_respond ..
    · exact quiet_admitAmendment ..

theorem quiet_amendOwner (p : Port) (tag : Octet) (q : AmendRequest) (s : State) : Quiet s (amendOwner p tag q s) := by
  unfold amendOwner previewAmend
  split
  · exact quiet_respond ..
  · exact quiet_scheduleChange ..

theorem quiet_enterOutageOwner (p : Port) (tag : Octet) (q : OutageRequest) (s : State) :
    Quiet s (enterOutageOwner p tag q s) := by
  unfold enterOutageOwner
  split
  · exact quiet_respond ..
  · exact quiet_admitAmendment ..

theorem quiet_retireOutageOwner (p : Port) (tag : Octet) (h : Nat) (s : State) :
    Quiet s (retireOutageOwner p tag h s) := by
  unfold retireOutageOwner
  split
  · exact quiet_respond ..
  · split
    · exact quiet_respond ..
    · exact quiet_admitAmendment ..

theorem quiet_deployRecord (c : Commitment) (amount : Nat) (s : State) : Quiet s (deployRecord c amount s) := by
  unfold deployRecord
  split
  · exact .refl s
  · exact ⟨by simp [State.footprint], news_raise (by simp) rfl⟩

theorem quiet_deployOwner (q : Nat × Nat) (s : State) : Quiet s (deployOwner q s).2 := by
  unfold deployOwner
  dsimp only
  (repeat' split) <;> first | exact .refl s | exact quiet_deployRecord ..

theorem quiet_walkFrom (p : Port) (key : Nat × Nat) (s : State) : Quiet s (walkFrom p key s).2 := by
  unfold walkFrom setCursor
  split <;> exact ⟨by simp [State.footprint], by simp⟩

theorem quiet_walkNextOwner (p : Port) (s : State) : Quiet s (walkNextOwner p s).2 := by
  unfold walkNextOwner
  split
  · exact .refl s
  · exact quiet_walkFrom ..

theorem quiet_claimOwner (p : Port) (s : State) : Quiet s (claimOwner p s).2 := by
  unfold claimOwner
  split <;> exact ⟨rfl, .refl _⟩

theorem quiet_releaseOwner (p : Port) (s : State) : Quiet s (releaseOwner p s).2 := by
  unfold releaseOwner
  split <;> exact ⟨rfl, .refl _⟩

theorem quiet_forceOwner (s : State) : Quiet s (forceOwner s).2 := by
  unfold forceOwner
  split <;> exact ⟨rfl, .refl _⟩

theorem quiet_amendEnvelopeOwner (q : Nat × Descriptor) (s : State) : Quiet s (amendEnvelopeOwner q s).2 := by
  unfold amendEnvelopeOwner
  dsimp only
  (repeat' split) <;> first | exact .refl s | exact ⟨by simp [State.footprint], by simp⟩

theorem quiet_setTimeOwner (q : Nat × Nat) (s : State) : Quiet s (setTimeOwner q s).2 := by
  unfold setTimeOwner
  dsimp only
  (repeat' split) <;> first | exact .refl s | exact quiet_setClockTo ..

theorem quiet_clearOwner (n : Nat) (s : State) : Quiet s (clearOwner n s).2 := by
  unfold clearOwner
  split <;> exact ⟨rfl, .refl _⟩

theorem quiet_maskOwner (p : Port) (n : Nat) (s : State) : Quiet s (maskOwner p n s).2 := by
  unfold maskOwner
  split
  · exact .refl s
  · exact ⟨by simp [State.footprint], by simp⟩

theorem quiet_takeArrival (a : Arrival) (s : State) : Quiet s (takeArrival a s) :=
  ⟨by simp [State.footprint], by simp⟩

theorem quiet_evaluateRow (s : State) : Quiet s (evaluateRow s) := by
  unfold evaluateRow
  split
  · exact .refl s
  · exact ⟨rfl, .refl _⟩

theorem quiet_configured (s : State) : Quiet s (configured s) := by
  unfold configured
  refine .trans ?_ (quiet_beginIfDue _)
  split
  · exact ⟨rfl, .refl _⟩
  · exact .refl s

end Sys2Proof.Machine
end

/-!
The configuration items as the invariants need them, and the walk through the commands: a property that the operations
named in `Kept` keep is kept by every step.
-/
section
namespace Sys2Proof.Machine

/-! ### Sound items (R204, R205) -/

/-- What the invariants need of an item that has passed its checks. -/
def ItemSound : ConfigItem → Prop
  | .characteristic points => PointsSound points
  | .thresholds th => th.Ordered
  | .dutyRotations compressor expander =>
    (∀ t ∈ compressor, trainKind t = .compressor) ∧ ∀ t ∈ expander, trainKind t = .expander
  | _ => True

theorem pointsIncrease_pairwise {points : List (Nat × Nat)} (h : pointsIncrease points = true) :
    points.Pairwise fun a b => a.1 < b.1 ∧ a.2 < b.2 := by
  induction points with
  | nil => exact .nil
  | cons a rest ih =>
    cases rest with
    | nil => exact List.pairwise_singleton ..
    | cons b rest =>
      simp only [pointsIncrease, Bool.and_eq_true, decide_eq_true_eq] at h
      obtain ⟨⟨mass, pressure⟩, tail⟩ := h
      have next := ih tail
      refine List.pairwise_cons.2 ⟨fun c hc => ?_, next⟩
      obtain rfl | hc := List.mem_cons.1 hc
      · exact ⟨mass, pressure⟩
      · obtain ⟨m, p⟩ := (List.pairwise_cons.1 next).1 c hc
        exact ⟨mass.trans m, pressure.trans p⟩

theorem readPoints_length (n : Nat) (words : List Nat) (h : words.length = 3 * n) : (readPoints words).length = n := by
  induction n generalizing words with
  | zero => simp_all [readPoints]
  | succ n ih =>
    match words, h with
    | _ :: _ :: _ :: rest, h => simp [readPoints, ih rest (by simpa [Nat.mul_add] using h)]

theorem readPoints_mass_le {words : List Nat} (h : ∀ w ∈ words, w < 65536) {a : Nat × Nat} (ha : a ∈ readPoints words) :
    a.1 ≤ 4294967295 := by
  induction words using readPoints.induct with
  | case1 hi lo p rest ih =>
    obtain rfl | ha := List.mem_cons.1 ha
    · have hhi := h hi (by simp)
      have hlo := h lo (by simp)
      simp only [twoWords]
      omega
    · exact ih (fun w hw => h w (by simp [hw])) ha
  | case2 words short => simp [readPoints] at ha

theorem itemSound_characteristic {words : List Nat} (hw : ∀ w ∈ words, w < 65536) (hl : words.length = 27)
    (h : pointsIncrease (readPoints words) = true) : PointsSound (readPoints words) :=
  ⟨readPoints_length 9 words hl, pointsIncrease_pairwise h, fun _ => readPoints_mass_le hw⟩

/-- An item read from words and found sound is one the invariants can take. -/
theorem itemSound_of_readPlain {i : ItemId} {words : List Nat} {item : ConfigItem} {points : List (Nat × Nat)}
    (hw : ∀ w ∈ words, w < 65536) (hr : readPlain i words = some item) (hs : itemSound points item = true) :
    ItemSound item := by
  cases item with
  | characteristic p =>
    have hp : words.length = 27 ∧ readPoints words = p := by
      unfold readPlain at hr
      (repeat' split at hr) <;> simp_all
    obtain ⟨hl, rfl⟩ := hp
    exact itemSound_characteristic hw hl hs
  | thresholds th =>
    simp only [itemSound, thresholdsIncrease, Bool.and_eq_true, decide_eq_true_eq] at hs
    exact ⟨hs.1.1.1, hs.1.1.2, hs.1.2⟩
  | dutyRotations compressor expander =>
    simp only [itemSound, Bool.and_eq_true, List.all_eq_true, decide_eq_true_eq] at hs
    exact hs
  | _ => trivial

theorem itemSound_of_readItem {i : ItemId} {words : List Nat} {item : ConfigItem} {points : List (Nat × Nat)}
    (hw : ∀ w ∈ words, w < 65536) (hr : readItem i words = some item) (hs : itemSound points item = true) :
    ItemSound item := by
  unfold readItem at hr
  split at hr
  · split at hr
    · obtain ⟨rows, _, rfl⟩ := Option.map_eq_some_iff.1 hr
      trivial
    · cases hr
  · exact itemSound_of_readPlain hw hr hs

theorem itemSound_of_readConfigure {i : ItemId} {words : List Nat} {item : ConfigItem} {s : State}
    (hw : ∀ w ∈ words, w < 65536) (hr : readConfigure i words = some item) (hs : configureSound s item = true) :
    ItemSound item := by
  unfold readConfigure at hr
  split at hr
  · obtain ⟨rows, _, rfl⟩ := Option.map_eq_some_iff.1 hr
    trivial
  · exact itemSound_of_readPlain hw hr (Bool.and_eq_true_iff.1 hs).1

theorem wordAt_lt (memory : List Octet) (n : Nat) : wordAt memory n < 65536 := (wordOf _ _).isLt

theorem readItems_words_lt {memory : List Octet} {n address : Nat} {items : List (Nat × List Nat)} {after : Nat}
    (h : readItems memory n address = some (items, after)) : ∀ o ∈ items, ∀ w ∈ o.2, w < 65536 := by
  induction n generalizing address items with
  | zero => simp_all [readItems]
  | succ n ih =>
    simp only [readItems] at h
    split at h
    · cases h
    · split at h
      · cases h
      · next rest after' hrest =>
        obtain ⟨rfl, rfl⟩ := by simpa using h
        intro o ho w hw
        obtain rfl | ho := List.mem_cons.1 ho
        · obtain ⟨k, _, rfl⟩ := List.mem_map.1 hw
          exact wordAt_lt memory _
        · exact ih hrest o ho w hw

theorem readImage_words_lt {memory : List Octet} {occurrences : List (Nat × List Nat)}
    (h : readImage memory = some occurrences) : ∀ o ∈ occurrences, ∀ w ∈ o.2, w < 65536 := by
  unfold readImage at h
  split at h
  · split at h
    · cases h
    · next hr =>
      split at h
      · cases h
        exact readItems_words_lt hr
      · cases h
  · cases h

theorem lastSound_mem {i : ItemId} {judged : List (Option ConfigItem)} {item : ConfigItem}
    (h : lastSound i judged = some item) : some item ∈ judged := by
  have := List.mem_of_find?_eq_some h
  simpa using this

theorem judgeOccurrence_sound {points : List (Nat × Nat)} {o : Nat × List Nat} {item : ConfigItem}
    (hw : ∀ w ∈ o.2, w < 65536) (h : judgeOccurrence points o = some item) : ItemSound item := by
  unfold judgeOccurrence at h
  split at h
  · cases h
  · split at h
    · cases h
    · next hr =>
      split at h
      · next hs =>
        cases h
        exact itemSound_of_readItem hw hr hs
      · cases h

theorem judgeImage_sound {held : List (Nat × Nat)} {occurrences : List (Nat × List Nat)}
    (h : ∀ o ∈ occurrences, ∀ w ∈ o.2, w < 65536) : ∀ item ∈ (judgeImage held occurrences).1, ItemSound item := by
  intro item hi
  obtain ⟨i, _, hl⟩ := List.mem_filterMap.1 hi
  obtain ⟨o, ho, hj⟩ := List.mem_map.1 (lastSound_mem hl)
  exact judgeOccurrence_sound (h o ho) hj

/-! ### The words of a CONFIGURE are 16-bit -/

theorem parseU8_lt {at_ next : Nat × List Octet} {n : Nat} (h : parseU8 at_ = .ok (n, next)) : n < 256 := by
  simp only [parseU8, parser_bind, parser_pure] at h
  split at h
  · cases h
  · cases h
    exact BitVec.isLt _

theorem parseU16_lt {at_ next : Nat × List Octet} {n : Nat} (h : parseU16 at_ = .ok (n, next)) : n < 65536 := by
  simp only [parseU16, parser_bind, parser_pure] at h
  split at h
  · cases h
  · next hhi =>
    split at h
    · cases h
    · next hlo =>
      cases h
      have := parseU8_lt hhi
      have := parseU8_lt hlo
      omega

theorem parseItems_mem {α : Type} {item : Parser α} {p : α → Prop}
    (hp : ∀ at_ next a, item at_ = .ok (a, next) → p a) {n : Nat} {at_ next : Nat × List Octet} {items : List α}
    (h : parseItems item n at_ = .ok (items, next)) : ∀ a ∈ items, p a := by
  induction n generalizing at_ items next with
  | zero => cases h; simp
  | succ n ih =>
    simp only [parseItems, parser_bind, parser_pure] at h
    split at h
    · cases h
    · next ha =>
      split at h
      · cases h
      · next hrest =>
        cases h
        intro b hb
        obtain rfl | hb := List.mem_cons.1 hb
        · exact hp _ _ _ ha
        · exact ih hrest b hb

theorem parseBody_ok {α : Type} {fields : Parser α} {body : List Octet} {a : α} (h : parseBody fields body = .ok a) :
    ∃ next, fields (0, body) = .ok (a, next) := by
  unfold parseBody at h
  split at h
  · cases h
  · next hf =>
    split at h
    · cases h
      exact ⟨_, hf⟩
    · cases h

theorem parseConfigure_words_lt {body : List Octet} {q : Nat × List Nat} (h : parseBody parseConfigure body = .ok q) :
    ∀ w ∈ q.2, w < 65536 := by
  obtain ⟨next, h⟩ := parseBody_ok h
  simp only [parseConfigure, parseList, parser_bind, parser_pure] at h
  split at h
  · cases h
  · split at h
    · cases h
    · next hl =>
      cases h
      split at hl
      · cases hl
      · exact parseItems_mem (fun _ _ _ => parseU16_lt) hl

/-! ### A property that every step keeps -/

theorem foldl_keeps {α : Type} {P : State → Prop} {f : State → α → State} (hf : ∀ a s, P s → P (f s a)) (l : List α)
    {s : State} (h : P s) : P (l.foldl f s) := by
  induction l generalizing s with
  | nil => exact h
  | cons a l ih => exact ih (hf a s h)

theorem quiet_onTrain (t : Train) {f : TrainContext → TrainContext} (hf : ∀ c, (f c).core = c.core) (s : State) :
    Quiet s (onTrain t f s) := by
  refine ⟨?_, by simp⟩
  cases t <;> simp [State.footprint, onTrain, State.train, PerTrain.set, PerTrain.get, PerTrain.map, hf]

/-- What it takes of a property that every step keeps it: it reads the footprint alone, and each operation that changes
the footprint keeps it. `Fits` says what an item must meet for its taking to keep the property. -/
structure Kept (P : State → Prop) (Fits : State → ConfigItem → Prop) : Prop where
  quiet : ∀ {s t}, Quiet s t → P s → P t
  reset : P State.reset
  evaluate : ∀ {s}, P s → P (evaluate s)
  formSetpoint : ∀ t left elapsed {s}, P s → P (formSetpoint t left elapsed s)
  calibrate : ∀ p {s}, P s → P (calibrate p s)
  integrate : ∀ t flow elapsed {s}, P s → P (integrateReport t flow elapsed s)
  loss : ∀ n {s}, P s → P (applyLoss n s)
  survey : ∀ tank layers {s}, P s → s.loader.loadState = .ended → surveyRefusal tank layers s = none →
    P (s.setTank tank (surveyedTank s.interval layers (s.tank tank)))
  deposit : ∀ t h temperature tank {left s}, P s → .deposit t h temperature tank ∈ s.raised →
    (∀ r ∈ left, r ∈ s.raised) → P (depositHeat t h temperature tank (s.setRaised left))
  draw : ∀ t h tank {s}, P s → P (drawHeat t h tank s)
  grant : ∀ t q {s}, P s → trainKind t = .compressor → inUse (s.train t).state = true → P (grantCredit t q s)
  returnAll : ∀ {s}, P s → P (returnAll s)
  resetTrain : ∀ t {s}, P s → P (resetTrain s t)
  takeRow : ∀ t n row {s}, P s → P (takeRow t n row s)
  deselect : ∀ t {s}, P s → P (deselect t s)
  bind : ∀ t tank {s}, P s → inUse (s.train t).state = false → P (onTrain t (fun c => { c with boundTank := tank }) s)
  rest : ∀ t {into s}, P s → inUse into = false → P (moveToRest t into s)
  move : ∀ t power m {s}, P s → m.Fits (s.train t).state → P (applyMove t power m s)
  parts : ∀ line status raw c {s}, P s → P (raiseAll (reportParts line raw (clampReport line status raw) c) s)
  handItems : ∀ (items : List ConfigItem) {s}, P s → s.loader.loadState = .loading → (∀ i ∈ items, ItemSound i) →
    P (raiseAll (items.map Raised.configItem) s)
  endLoad : ∀ {s}, P s → itemsHanded s = false → P (onLoader (fun l => { l with loadState := .ended, judged := false }) s)
  fits_handed : ∀ i {s}, P s → .configItem i ∈ s.raised → Fits s i
  fits_configured : ∀ i {s}, P s → s.loader.loadState = .ended → ItemSound i → configureInUse s i = none → Fits s i
  fits_quiet : ∀ i {s t}, Quiet s t → Fits s i → Fits t i
  characteristic : ∀ points {s}, P s → Fits s (.characteristic points) → P (takeCharacteristic points s)
  thresholds : ∀ th {s}, P s → Fits s (.thresholds th) → P (takeThresholds th s)
  heatConstants : ∀ k {s}, P s → P (takeHeatConstants k s)
  capacities : ∀ c {s}, P s → Fits s (.tankCapacities c) → P (takeCapacities c s)
  rotations : ∀ compressor expander {s}, P s → Fits s (.dutyRotations compressor expander) →
    P (onDispatcher (fun d => { d with compressorRotation := { phases := compressor, pointer := 0 }
                                       expanderRotation := { phases := expander, pointer := 0 } }) s)
  bindings : ∀ b {s}, P s → Fits s (.bindings b) → P (takeBindings b s)

namespace Kept

variable {P : State → Prop} {Fits : State → ConfigItem → Prop} (k : Kept P Fits)
include k

theorem same {s t : State} (h : P s) (hf : t.footprint = s.footprint) (hr : t.raised = s.raised) : P t :=
  k.quiet ⟨hf, hr ▸ .refl _⟩ h

/-! #### Requests and raised events -/

theorem takeRequest {α : Type} {code : Octet} {ports : Port → Bool} {fields : Parser α}
    {owner : Port → Octet → α → State → State} {f : Frame} {s : State} (h : P s)
    (ho : ∀ p tag a r, P r → r.loader.loadState = .ended → parseBody fields f.body = .ok a → P (owner p tag a r)) :
    P (takeRequest code ports fields owner f s) := by
  have hr : P (received f s) := k.quiet (quiet_received f s) h
  obtain e | ⟨_, reply, e⟩ | ⟨_, loaded, a, parsed, e⟩ := takeRequest_cases code ports fields owner f s
  · rw [e]; exact hr
  · rw [e]; exact k.quiet (quiet_respond ..) hr
  · rw [e]; exact ho _ _ a _ hr loaded parsed

theorem quietRequest {α : Type} {code : Octet} {ports : Port → Bool} {fields : Parser α}
    {owner : Port → Octet → α → State → State} {f : Frame} {s : State} (h : P s)
    (ho : ∀ p tag a r, Quiet r (owner p tag a r)) : P (Machine.takeRequest code ports fields owner f s) :=
  k.takeRequest h fun p tag a r hr _ _ => k.quiet (ho p tag a r) hr

theorem atOnce {α : Type} {code : Octet} {ports : Port → Bool} {fields : Parser α}
    {owner : Port → α → State → Reply × State} {f : Frame} {s : State} (h : P s)
    (ho : ∀ p a r, P r → r.loader.loadState = .ended → parseBody fields f.body = .ok a → P (owner p a r).2) :
    P (atOnce code ports fields owner f s) :=
  k.takeRequest h fun p _ a r hr loaded parsed => k.quiet (quiet_respond ..) (ho p a r hr loaded parsed)

theorem quietAtOnce {α : Type} {code : Octet} {ports : Port → Bool} {fields : Parser α}
    {owner : Port → α → State → Reply × State} {f : Frame} {s : State} (h : P s)
    (ho : ∀ p a r, Quiet r (owner p a r).2) : P (Machine.atOnce code ports fields owner f s) :=
  k.atOnce h fun p a r hr _ _ => k.quiet (ho p a r) hr

theorem lookup {α : Type} {code : Octet} {fields : Parser α} {answer : α → State → Reply} {f : Frame} {s : State}
    (h : P s) : P (lookup code fields answer f s) :=
  k.quietAtOnce h fun _ _ r => .refl r

theorem handleRaised {β : Type} {pick : Raised → Option β} {handle : β → State → State} {s : State} (h : P s)
    (hh : ∀ event r, P r → P (handle event r)) : P (handleRaised pick handle s) := by
  obtain e | ⟨event, left, _, hl, e⟩ := handleRaised_cases pick handle s
  · rw [e]; exact h
  · rw [e]; exact hh event _ (k.quiet (quiet_setRaised hl) h)

theorem quietRaised {β : Type} {pick : Raised → Option β} {handle : β → State → State} {s : State} (h : P s)
    (hh : ∀ event r, Quiet r (handle event r)) : P (Machine.handleRaised pick handle s) :=
  k.handleRaised h fun event r => k.quiet (hh event r)

/-! #### Operations made of those named -/

theorem lossForBoundary (b : Boundary) {s : State} (h : P s) : P (lossForBoundary b s) := by
  unfold Machine.lossForBoundary
  split
  · exact k.loss _ h
  · exact h

theorem closeInterval (b : Boundary) {s : State} (h : P s) : P (closeInterval b s) := by
  unfold Machine.closeInterval
  refine k.evaluate (k.quiet ⟨by simp [State.footprint, closeSegment, onDispatcher], ?_⟩ h)
  have raised : News s.raised (raise (.imbalance (closeSegment s).dispatcher.openInterval
      (kwhOf (closeSegment s).dispatcher.delivered - kwhOf (closeSegment s).dispatcher.scheduled))
      (closeSegment s)).raised := news_raise (by simp) rfl
  simp [raised]

theorem expireSilence (t : Train) {s : State} (h : P s) : P (expireSilence t s) :=
  k.quiet (quiet_raise rfl _) (k.rest t h rfl)

theorem expireStart (t : Train) {s : State} (h : P s) : P (expireStart t s) :=
  k.quiet (quiet_order ..) (k.rest t h rfl)

theorem resetTrains {s : State} (h : P s) : P (resetTrains s) :=
  k.quiet (quiet_noticeTrains ..) (foldl_keeps (fun t _ => k.resetTrain t) allTrains h)

theorem selectOwner (q : Train × Nat) {s : State} (h : P s) : P (selectOwner q s).2 := by
  unfold Machine.selectOwner
  dsimp only
  (repeat' split) <;> first
    | exact h
    | exact k.quiet (((quiet_raise rfl _).trans (quiet_triggerPass _)).trans (quiet_beginIfDue _)) (k.takeRow _ _ _ h)

theorem reloadTrain (t : Train) {s : State} (h : P s) : P (reloadTrain s t) := by
  unfold Machine.reloadTrain
  split
  · split
    · exact h
    · exact k.takeRow _ _ _ h
  · exact k.deselect _ h
  · exact h

theorem reloadOwner {s : State} (h : P s) : P (reloadOwner s).2 := by
  unfold Machine.reloadOwner
  dsimp only
  split
  · exact h
  · exact k.quiet (((quiet_noticeTrains _ _).trans (quiet_triggerPass _)).trans (quiet_beginIfDue _))
      (foldl_keeps (fun t _ => k.reloadTrain t) allTrains h)

theorem bindOwner (q : Train × Tank) {s : State} (h : P s) : P (bindOwner q s).2 := by
  unfold Machine.bindOwner
  dsimp only
  split
  · exact h
  · next idle =>
    split
    · exact h
    · exact k.quiet (quiet_raise rfl _) (k.bind _ _ h (by simpa using idle))

theorem restoreOwner (t : Train) {s : State} (h : P s) : P (restoreOwner t s).2 := by
  unfold Machine.restoreOwner
  split
  · exact k.quiet ((quiet_raise rfl _).trans (quiet_beginIfDue _)) (k.rest t h rfl)
  · exact h

theorem calibrateOwner (p : Nat) {s : State} (h : P s) : P (calibrateOwner p s).2 := by
  unfold Machine.calibrateOwner
  split
  · exact h
  · exact k.quiet ((quiet_triggerPass _).trans (quiet_beginIfDue _)) (k.calibrate p h)

theorem surveyOwner (q : Tank × List (Nat × Nat)) {s : State} (h : P s) (loaded : s.loader.loadState = .ended) :
    P (surveyOwner q s).2 := by
  unfold Machine.surveyOwner
  dsimp only
  split
  · exact h
  · next passed =>
    refine k.quiet (.trans (.trans ?_ (quiet_triggerPass _)) (quiet_beginIfDue _)) (k.survey _ _ h loaded passed)
    exact ⟨by simp [State.footprint], news_topNotices _ (.refl _)⟩

theorem startDispatchOwner {s : State} (h : P s) : P (startDispatchOwner s).2 := by
  unfold Machine.startDispatchOwner
  split
  · exact h
  · split
    · exact h
    · dsimp only
      exact k.quiet ((quiet_triggerPass _).trans (quiet_beginIfDue _)) (k.evaluate (k.quiet (quiet_setMode ..) h))

theorem stopDispatchOwner {s : State} (h : P s) : P (stopDispatchOwner s).2 := by
  unfold Machine.stopDispatchOwner
  split
  · dsimp only
    exact k.evaluate (k.quiet (quiet_setMode ..) h)
  · exact h

theorem resetDispatchOwner {s : State} (h : P s) : P (resetDispatchOwner s).2 := by
  unfold Machine.resetDispatchOwner
  split
  · exact h
  · dsimp only
    exact k.quiet ((quiet_hideCreditLimits _).trans (quiet_raiseAll (by simp [Raised.routine]) _))
      (k.evaluate (k.quiet (quiet_resetDispatcher _) h))

theorem takeReport (line : Train) (raw : ReportFrame) (status : ReportedStatus) {s : State} (h : P s) :
    P (takeReport line raw status s) := by
  have recorded := (quiet_setStickyIf (reportBeyond line raw) .reportClamped s).trans
    (quiet_onTrain line (f := fun c => { c with lastReport := some (clampReport line status raw), silence := some 0 })
      (fun _ => rfl) _)
  exact k.quiet (quiet_beginIfDue _) (k.parts line status raw _ (k.move line _ _ (k.quiet recorded h) (reportMove_fits ..)))

theorem judgeReport (line : Train) (raw : ReportFrame) {s : State} (h : P s) : P (judgeReport line raw s) := by
  unfold Machine.judgeReport
  split
  · split
    · exact h
    · exact k.takeReport _ _ _ h
  · exact h

theorem handleReport (t : Train) (part : ReportPart) {s : State} (h : P s) : P (handleReport t part s) :=
  k.evaluate (k.formSetpoint _ _ _ (k.quiet (quiet_addDelivered ..) h))

/-! #### The load and CONFIGURE -/

theorem judgeSilence (t : Train) {s : State} (h : P s) : P (judgeSilence s t) := by
  unfold Machine.judgeSilence
  split
  · exact k.expireSilence t h
  · exact h

theorem takeItem (i : ConfigItem) {s : State} (h : P s) (fits : Fits s i) : P (takeItem i s) := by
  cases i <;> simp only [Machine.takeItem]
  case characteristic points => exact k.quiet (quiet_triggerPass _) (k.characteristic _ h fits)
  case thresholds th => exact k.quiet (quiet_triggerPass _) (k.thresholds _ h fits)
  case rateLimit v => exact k.same h rfl rfl
  case plantRates r => exact k.same h rfl rfl
  case heatConstants c => exact k.quiet (quiet_triggerPass _) (k.heatConstants _ h)
  case tankCapacities c => exact k.quiet (quiet_triggerPass _) (k.capacities _ h fits)
  case creditWindow w => exact k.same h rfl rfl
  case gateLead g => exact k.same h rfl rfl
  case silenceTimeout ms =>
    exact foldl_keeps (P := P) (fun t _ => k.judgeSilence t) allTrains (k.same h rfl rfl)
  case dutyRotations compressor expander =>
    unfold takeRotations
    exact k.evaluate (k.rotations _ _ h fits)
  case envelopeTable first rows => exact k.same h rfl rfl
  case bindings b => exact k.bindings b h fits

theorem takeValid (i : ConfigItem) {s : State} (h : P s) (fits : Fits s i) : P (takeValid i s) :=
  k.same (k.takeItem i h fits) rfl rfl

theorem ended {s : State} (h : P s) : P (Machine.endLoad s) := by
  unfold Machine.endLoad
  split
  · exact h
  · next none => exact k.quiet (quiet_configured _) (k.endLoad h (by simpa using none))

theorem judgeLoad (memory : List Octet) {s : State} (h : P s) (loading : s.loader.loadState = .loading) :
    P (judgeLoad memory s) := by
  have started : P (onLoader (fun l => { l with judged := true }) s) := k.same h rfl rfl
  unfold Machine.judgeLoad
  dsimp only
  refine k.ended (k.handItems _ (k.quiet (quiet_setStickyIf ..) started) (by simpa [onLoader] using loading) ?_)
  split
  · simp
  · next hr => exact judgeImage_sound (readImage_words_lt hr)

theorem configureItem (i : ItemId) (words : List Nat) {s : State} (h : P s) (loaded : s.loader.loadState = .ended)
    (hw : ∀ w ∈ words, w < 65536) : P (configureItem i words s).2 := by
  unfold Machine.configureItem configureReply
  split
  · split
    · split
      · exact k.quiet (quiet_setSticky ..) h
      · next item hr =>
        split
        · next sound =>
          split
          · exact h
          · next free =>
            split
            · exact h
            · exact k.quiet (quiet_configured _)
                (k.takeValid item h (k.fits_configured item h loaded (itemSound_of_readConfigure hw hr sound) free))
        · exact k.quiet (quiet_setSticky ..) h
    · exact k.quiet (quiet_setSticky ..) h
  · exact h

theorem configureOwner (q : Nat × List Nat) {s : State} (h : P s) (loaded : s.loader.loadState = .ended)
    (hw : ∀ w ∈ q.2, w < 65536) : P (configureOwner q s).2 := by
  unfold Machine.configureOwner configureReply
  (repeat' split) <;> first | exact h | exact k.configureItem _ _ h loaded hw

theorem configItemTaken (i : ItemId) {s : State} (h : P s) :
    P (Machine.handleRaised (pickItem s.raised i) (fun item r => Machine.endLoad (Machine.takeValid item r)) s) := by
  obtain e | ⟨item, left, ⟨r, hr, picked⟩, hl, e⟩ := handleRaised_cases (pickItem s.raised i)
    (fun item r => Machine.endLoad (Machine.takeValid item r)) s
  · rw [e]; exact h
  · have handed : r = .configItem item := by
      unfold pickItem at picked
      split at picked
      · cases picked
      · next held =>
        split at picked
        · cases picked
          unfold handedItem at held
          split at held
          · cases held
            rfl
          · cases held
        · cases picked
    subst handed
    rw [e]; exact k.ended (k.takeValid item (k.quiet (quiet_setRaised hl) h)
      (k.fits_quiet item (quiet_setRaised hl) (k.fits_handed item h hr)))

theorem heatDeposit (t : Train) {s : State} (h : P s) :
    P (Machine.handleRaised (pickDeposit t) (fun part => depositHeat t part.1 part.2.1 part.2.2) s) := by
  obtain e | ⟨part, left, ⟨r, hr, picked⟩, hl, e⟩ := handleRaised_cases (pickDeposit t)
    (fun part => depositHeat t part.1 part.2.1 part.2.2) s
  · rw [e]; exact h
  · have handed : r = .deposit t part.1 part.2.1 part.2.2 := by
      unfold pickDeposit at picked
      split at picked
      · split at picked
        · next same =>
          cases picked
          rw [same]
        · cases picked
      · cases picked
    subst handed
    rw [e]; exact k.deposit _ _ _ _ h hr hl

/-! #### Every command -/

/-- Every command keeps the property. -/
theorem exec (c : Instr) {s t : State} (h : P s) (he : exec c s = .next t) : P t := by
  cases c <;> cases he
  case powerOn => exact k.same k.reset rfl rfl
  case loadEnd memory =>
    split
    · next loading => exact k.judgeLoad memory h loading.1
    · exact h
  case configItemTaken i => exact k.configItemTaken i h
  case clockAdvance =>
    have second : P (finishSecond s) := k.quiet ((quiet_elapse ..).trans (quiet_setClock ..)) h
    split
    · exact k.quiet (quiet_advanceClock _) second
    · exact second
  case commitmentBoundary => exact k.quietRaised h fun _ _ => ⟨by simp [State.footprint], by simp⟩
  case horizonShift => exact k.quietRaised h fun _ _ => ⟨by simp [State.footprint], by simp⟩
  case standingLoss => exact k.handleRaised h fun b _ => k.lossForBoundary b
  case intervalClose => exact k.handleRaised h fun b _ => k.closeInterval b
  case imbalanceDelivery => exact k.quietRaised h fun _ _ => ⟨by simp [State.footprint], by simp⟩
  case enter f => exact k.quietRequest h fun _ _ _ _ => quiet_scheduleChange ..
  case amend f => exact k.quietRequest h quiet_amendOwner
  case amendPreview f => exact k.quietRequest h quiet_amendOwner
  case confirm f => exact k.quietRequest h fun _ _ _ _ => quiet_scheduleChange ..
  case retire f => exact k.quietRequest h fun _ _ _ _ => quiet_scheduleChange ..
  case deploy f => exact k.quietAtOnce h fun _ => quiet_deployOwner
  case lookupCommitment f => exact k.lookup h
  case walkFirst f => exact k.quietAtOnce h fun p _ _ => quiet_walkFrom ..
  case walkNext f => exact k.quietAtOnce h fun p _ => quiet_walkNextOwner p
  case claim f => exact k.quietAtOnce h fun p _ => quiet_claimOwner p
  case release f => exact k.quietAtOnce h fun p _ => quiet_releaseOwner p
  case force f => exact k.quietAtOnce h fun _ _ => quiet_forceOwner
  case lookupRow f => exact k.lookup h
  case lookupHorizon f => exact k.lookup h
  case enterOutage f => exact k.quietRequest h quiet_enterOutageOwner
  case retireOutage f => exact k.quietRequest h quiet_retireOutageOwner
  case lookupOutage f => exact k.lookup h
  case lookupTrain f => exact k.lookup h
  case lookupEnvelope f => exact k.lookup h
  case selectEnvelope f => exact k.atOnce h fun _ q _ hr _ _ => k.selectOwner q hr
  case reloadEnvelopes f => exact k.atOnce h fun _ _ _ hr _ _ => k.reloadOwner hr
  case amendEnvelope f => exact k.quietAtOnce h fun _ => quiet_amendEnvelopeOwner
  case bindTank f => exact k.atOnce h fun _ q _ hr _ _ => k.bindOwner q hr
  case restoreTrain f => exact k.atOnce h fun _ t _ hr _ _ => k.restoreOwner t hr
  case lookupCavern f => exact k.lookup h
  case calibrate f => exact k.atOnce h fun _ p _ hr _ _ => k.calibrateOwner p hr
  case lookupTank f => exact k.lookup h
  case surveyTank f => exact k.atOnce h fun _ q _ hr loaded _ => k.surveyOwner q hr loaded
  case setTime f => exact k.quietAtOnce h fun _ => quiet_setTimeOwner
  case startDispatch f => exact k.atOnce h fun _ _ _ hr _ _ => k.startDispatchOwner hr
  case stopDispatch f => exact k.atOnce h fun _ _ _ hr _ _ => k.stopDispatchOwner hr
  case resetDispatch f => exact k.atOnce h fun _ _ _ hr _ _ => k.resetDispatchOwner hr
  case commitmentStoreReset => exact k.quietRaised h fun _ _ => ⟨by simp [State.footprint], by simp⟩
  case projectorReset => exact k.quietRaised h fun _ _ => ⟨by simp [State.footprint], by simp⟩
  case heatStoreReset => exact k.handleRaised h fun _ _ => k.returnAll
  case trainUnitReset => exact k.handleRaised h fun _ _ => k.resetTrains
  case configure f =>
    exact k.atOnce h fun _ q _ hr loaded parsed => k.configureOwner q hr loaded (parseConfigure_words_lt parsed)
  case lookupPlant f => exact k.quietAtOnce h fun _ _ r => .refl r
  case lookupConditions f => exact k.lookup h
  case clearConditions f => exact k.quietAtOnce h fun _ => quiet_clearOwner
  case setAlertMask f => exact k.quietAtOnce h quiet_maskOwner
  case unknownCode code f =>
    have hr : P (received f s) := k.quiet (quiet_received f s) h
    split
    · exact k.quiet (quiet_respond ..) hr
    · exact hr
  case badCheckFrame via octets => exact k.quiet ⟨by simp [State.footprint], by simp⟩ h
  case taintedFrame octets => exact k.same h rfl rfl
  case linkReset p => exact k.quiet ⟨by simp [State.footprint], by simp⟩ h
  case spIdleTransaction octets => exact k.quiet ⟨by simp [State.footprint], by simp⟩ h
  case responseSent => exact k.same h rfl rfl
  case passCompletion => exact k.quiet ⟨by simp [State.footprint], by simp⟩ h
  case trainReport line raw => exact k.judgeReport line raw (k.same h rfl rfl)
  case trainFrameDiscarded line octets e => exact k.same h rfl rfl
  case massIntegration t => exact k.handleRaised h fun _ _ => k.integrate t _ _
  case heatDeposit t => exact k.heatDeposit t h
  case heatDraw t => exact k.handleRaised h fun _ _ => k.draw t _ _
  case heatCreditGrant t q =>
    split
    · next may => exact k.grant t q h may.1 may.2
    · exact h
  case setpointFormation t => exact k.handleRaised h fun part _ => k.handleReport t part
  case activeFirmNotice => exact k.handleRaised h fun _ _ => k.evaluate
  case bandNotice => exact k.handleRaised h fun _ _ => k.evaluate
  case topNotice tank => exact k.handleRaised h fun _ _ => k.evaluate
  case trainNotice t => exact k.handleRaised h fun _ _ => k.evaluate
  case startLimitExpiry t =>
    split
    · exact h
    · exact k.quiet ((quiet_raise rfl _).trans (quiet_beginIfDue _)) (k.expireStart t (k.quiet (quiet_elapse ..) h))
  case silenceTimeout t =>
    split
    · exact h
    · exact k.quiet (quiet_beginIfDue _) (k.expireSilence t (k.quiet (quiet_elapse ..) h))
  case orderSent line => exact k.same h rfl rfl
  case shortLengthFrame length => exact k.same h rfl rfl
  case trainLinkBreak line => exact k.same h rfl rfl

/-- Every step keeps the property. -/
theorem step {s t : State} (h : P s) (hs : step s = .next t) : P t := by
  unfold Machine.step at hs
  split at hs
  · next rest _ =>
    have front : P (s.setPending rest) := k.same h rfl rfl
    exact k.exec _ front hs
  · split at hs
    · cases hs
      exact k.quiet (quiet_takeArrival ..) (k.same (t := s.setArrivals _) h rfl rfl)
    · split at hs
      · exact k.exec _ h hs
      · cases hs
        exact k.quiet ((quiet_elapse ..).trans (quiet_evaluateRow _)) h

end Kept

end Sys2Proof.Machine
end

/-!
The Cavern Account (O58): every interpolation leaves the account in agreement, and every change of its mass, its
Characteristic or its thresholds ends in one.
-/
section
namespace Sys2Proof.Machine

/-- What the Cavern Account must meet for its next interpolation to bring it into agreement. -/
structure CavernReady (s : State) : Prop where
  mass : s.cavern.mass ≤ 4294967295
  residue_ge : -9999 ≤ s.cavern.residue
  residue_le : s.cavern.residue ≤ 9999
  points : PointsSound s.cavern.characteristic
  thresholds : s.cavern.thresholds.Ordered
  handedPoints : ∀ points, .configItem (.characteristic points) ∈ s.raised → PointsSound points
  handedThresholds : ∀ th, .configItem (.thresholds th) ∈ s.raised → th.Ordered

theorem CavernSound.ready {s : State} (h : CavernSound s) : CavernReady s := by
  obtain ⟨_, hm, hr, hr', _, hp, ht, hi, hi'⟩ := h
  exact ⟨hm, hr, hr', hp, ht, hi, hi'⟩

theorem CavernReady.keep {s t : State} (h : CavernReady s) (hc : t.cavern = s.cavern)
    (hi : ∀ i, .configItem i ∈ t.raised → .configItem i ∈ s.raised) : CavernReady t where
  mass := hc ▸ h.mass
  residue_ge := hc ▸ h.residue_ge
  residue_le := hc ▸ h.residue_le
  points := hc ▸ h.points
  thresholds := hc ▸ h.thresholds
  handedPoints p hp := h.handedPoints p (hi _ hp)
  handedThresholds th ht := h.handedThresholds th (hi _ ht)

/-- An account that stays, with no more items handed, keeps the agreement. -/
theorem CavernSound.keep {s t : State} (h : CavernSound s) (hc : t.cavern = s.cavern)
    (hi : ∀ i, .configItem i ∈ t.raised → .configItem i ∈ s.raised) : CavernSound t := by
  have r := h.ready.keep hc hi
  obtain ⟨pressure, _, _, _, band, _⟩ := h
  exact ⟨hc ▸ pressure, r.mass, r.residue_ge, r.residue_le, hc ▸ band, r.points, r.thresholds, r.handedPoints,
    r.handedThresholds⟩

theorem News.items {old new : List Raised} (h : News old new) (i : ConfigItem) (hi : .configItem i ∈ new) :
    .configItem i ∈ old := (h.known _ hi).resolve_right nofun

theorem CavernReady.news {s t : State} (h : CavernReady s) (hc : t.cavern = s.cavern) (hn : News s.raised t.raised) :
    CavernReady t := h.keep hc hn.items

theorem CavernSound.news {s t : State} (h : CavernSound s) (hc : t.cavern = s.cavern) (hn : News s.raised t.raised) :
    CavernSound t := h.keep hc hn.items

theorem reinterpolate_cavern (s : State) :
    (reinterpolate s).cavern =
      { s.cavern with
        pressure := forwardPressure s.cavern.characteristic s.cavern.mass
        band := evaluateBand s.cavern.thresholds (forwardPressure s.cavern.characteristic s.cavern.mass) s.cavern.band } := by
  unfold reinterpolate
  dsimp only
  split <;> simp

/-- An interpolation brings a ready account into agreement (R111, R114). -/
theorem CavernReady.reinterpolate {s : State} (h : CavernReady s) : CavernSound (reinterpolate s) := by
  have r := h.news (t := { Machine.reinterpolate s with cavern := s.cavern }) rfl (news_reinterpolate (.refl _))
  unfold CavernSound
  rw [reinterpolate_cavern]
  exact ⟨rfl, h.mass, h.residue_ge, h.residue_le, bandStep_evaluateBand h.thresholds.1 h.thresholds.2.1 h.thresholds.2.2, h.points, h.thresholds,
    r.handedPoints, r.handedThresholds⟩

/-! ### The account before each interpolation -/

theorem CavernReady.account {s : State} (h : CavernReady s) {c : Cavern} (hm : c.mass ≤ 4294967295)
    (hr : -9999 ≤ c.residue) (hr' : c.residue ≤ 9999) (hp : PointsSound c.characteristic) (ht : c.thresholds.Ordered) :
    CavernReady (s.setCavern c) :=
  ⟨hm, hr, hr', hp, ht, h.handedPoints, h.handedThresholds⟩

/-- Past the first abscissa of an ascending table no ordinate it gives exceeds those of its points. -/
theorem alongSegments_le {points : List (Nat × Nat)} {x m : Nat}
    (h : points.Pairwise fun a b => a.1 < b.1 ∧ a.2 < b.2) (hx : ∀ a, points.head? = some a → a.1 ≤ x)
    (hm : ∀ a ∈ points, a.2 ≤ m) : alongSegments points x ≤ m := by
  induction points with
  | nil => exact Nat.zero_le m
  | cons a rest ih =>
    cases rest with
    | nil => exact hm a (by simp)
    | cons b rest =>
      obtain ⟨ascends, tail⟩ := List.pairwise_cons.1 h
      unfold alongSegments
      split
      · next below =>
        exact (segment_lt (hx a rfl) below (ascends b (by simp)).2).le.trans (hm b (by simp))
      · next past => exact ih tail (by simpa using past) fun c hc => hm c (by simp [hc])

theorem appliedPressure_ge {points : List (Nat × Nat)} (h : PointsSound points) (p : Nat) {a : Nat × Nat}
    (ha : points.head? = some a) : a.2 ≤ appliedPressure points p := by
  have hne : points ≠ [] := by rintro rfl; cases ha
  obtain ⟨front, b, rfl⟩ := List.eq_nil_or_concat' points |>.resolve_left hne
  have hab : a.2 ≤ b.2 := by
    cases front with
    | nil => cases ha; exact le_refl _
    | cons c front =>
      cases ha
      exact ((List.pairwise_cons.1 h.2.1).1 b (by simp)).2.le
  simp only [appliedPressure, ha, List.getLast?_append, List.getLast?_singleton]
  simp only [Option.some_or]
  split
  · exact le_refl _
  · split <;> omega

/-- A CALIBRATE never leaves more mass than the last point's (R117, R118). -/
theorem inverseMass_le {points : List (Nat × Nat)} (h : PointsSound points) (p : Nat) :
    inverseMass points (appliedPressure points p) ≤ 4294967295 := by
  obtain ⟨_, ascending, bounded⟩ := h
  refine alongSegments_le (List.pairwise_map.2 (ascending.imp And.symm)) (fun a ha => ?_) fun a ha => ?_
  · rw [List.head?_map] at ha
    obtain ⟨b, hb, rfl⟩ := Option.map_eq_some_iff.1 ha
    exact appliedPressure_ge ⟨by assumption, ascending, bounded⟩ p hb
  · obtain ⟨b, hb, rfl⟩ := List.mem_map.1 ha
    exact bounded b hb

theorem CavernReady.calibrate {s : State} (h : CavernReady s) (p : Nat) : CavernSound (calibrate p s) := by
  refine CavernReady.reinterpolate (.news (h.account (c := calibratedAccount p s.clock s.cavern) ?_ ?_ ?_ h.points
    h.thresholds) (by simp) (by simp))
  · exact inverseMass_le h.points p
  · norm_num [calibratedAccount]
  · norm_num [calibratedAccount]

theorem CavernSound.integrate {s : State} (h : CavernSound s) (t : Train) (flow elapsed : Nat) :
    CavernSound (integrateReport t flow elapsed s) := by
  by_cases hf : flow = 0
  · rwa [integrateReport_noFlow hf]
  · rw [integrateReport_flow hf]
    split
    · exact h.news rfl (.refl _)
    · have r : CavernReady (reportClamped flow elapsed s) := h.ready.news rfl (.refl _)
      obtain ⟨low, high, _⟩ := residue_bounds (s.cavern.residue + reportMass t flow elapsed)
      refine (r.account (c := moveMass _ s.cavern) ?_ ?_ ?_ h.ready.points h.ready.thresholds).reinterpolate
      all_goals
        rw [moveMass_eq]
        dsimp only
        omega

theorem CavernReady.takeCharacteristic {s : State} (h : CavernReady s) {points : List (Nat × Nat)}
    (hp : PointsSound points) : CavernSound (takeCharacteristic points s) :=
  CavernReady.reinterpolate (h.account h.mass h.residue_ge h.residue_le hp h.thresholds)

theorem CavernReady.takeThresholds {s : State} (h : CavernReady s) {th : Thresholds} (ht : th.Ordered) :
    CavernSound (takeThresholds th s) :=
  CavernReady.reinterpolate (h.account h.mass h.residue_ge h.residue_le h.points ht)

theorem CavernSound.handItems {s : State} (h : CavernSound s) {items : List ConfigItem}
    (hi : ∀ i ∈ items, ItemSound i) : CavernSound (raiseAll (items.map Raised.configItem) s) := by
  obtain ⟨hp, hm, hr, hr', hb, hc, ht, points, thresholds⟩ := h
  have handed (i : ConfigItem) (hi : .configItem i ∈ (raiseAll (items.map Raised.configItem) s).raised) :
      .configItem i ∈ s.raised ∨ i ∈ items := by simpa [raiseAll] using hi
  exact ⟨hp, hm, hr, hr', hb, hc, ht, fun p k => (handed _ k).elim (points p) (hi _),
    fun th k => (handed _ k).elim (thresholds th) (hi _)⟩

/-! ### The operations of the other blocks -/

section
variable {old : List Raised} {s : State}

theorem news_depositHeat (t : Train) (h temperature : Nat) (tank : Tank) (hn : News old s.raised) :
    News old (depositHeat t h temperature tank s).raised := by
  unfold depositHeat
  dsimp only
  split
  · exact hn
  · split
    · simp [hn]
    · exact news_topNotices _ (by (repeat' split) <;> simp [hn])

theorem news_drawHeat (t : Train) (h : Nat) (tank : Tank) (hn : News old s.raised) :
    News old (drawHeat t h tank s).raised := by
  unfold drawHeat recordUnderdraw
  dsimp only
  split
  · exact hn
  · simp only [beginIfDue_frame]
    exact news_topNotices _ (by split <;> simp [hn])

theorem news_takeBindings (b : PerTrain (Tank × Option Nat)) (hn : News old s.raised) :
    News old (takeBindings b s).raised := by
  have folded := foldl_frame State.raised (fun k t => bindTrain t (b.get t) k) allTrains s fun _ _ => by simp
  simp [takeBindings, folded, hn]

theorem drawHeat_cavern (t : Train) (h : Nat) (tank : Tank) (s : State) : (drawHeat t h tank s).cavern = s.cavern := by
  unfold drawHeat recordUnderdraw
  dsimp only
  (repeat' split) <;> simp

end

/-- What an item must meet for the account to take it. -/
def FitsCavern : ConfigItem → Prop
  | .characteristic points => PointsSound points
  | .thresholds th => th.Ordered
  | _ => True

theorem CavernSound.fits_handed {s : State} (h : CavernSound s) {i : ConfigItem} (hi : .configItem i ∈ s.raised) :
    FitsCavern i := by
  cases i with
  | characteristic points => exact h.ready.handedPoints _ hi
  | thresholds th => exact h.ready.handedThresholds _ hi
  | _ => trivial

theorem ItemSound.fitsCavern {i : ConfigItem} (h : ItemSound i) : FitsCavern i := by
  cases i with
  | characteristic points => exact h
  | thresholds th => exact h
  | _ => trivial

theorem State.reset_cavernSound : CavernSound State.reset := by
  refine ⟨by decide, by decide, by decide, by decide, by decide, ⟨rfl, by decide, by decide⟩, ⟨by decide, by decide, by decide⟩, ?_, ?_⟩ <;>
  · intro _ h
    cases h

theorem mem_reportParts_item {line : Train} {raw : ReportFrame} {r : Report} {c : TrainContext} {i : ConfigItem} :
    .configItem i ∉ reportParts line raw r c := by
  unfold reportParts
  split <;> simp

theorem cavernSound_kept : Kept CavernSound fun _ => FitsCavern where
  quiet q h := h.news (congrArg Footprint.cavern q.footprint) q.news
  reset := State.reset_cavernSound
  evaluate h := h.news (by simp) (by simp)
  formSetpoint _ _ _ _ h := h.news (by simp) (by simp)
  calibrate p _ h := h.ready.calibrate p
  integrate t flow elapsed _ h := h.integrate t flow elapsed
  loss _ _ h := h.news (by simp) (news_topNotices _ (.refl _))
  survey _ _ _ h _ _ := h.news rfl (.refl _)
  deposit t _ _ tank _ _ h _ hl := h.news (by simp) (news_depositHeat t _ _ tank (.of_subset hl))
  draw t _ tank _ h := h.news (drawHeat_cavern ..) (news_drawHeat t _ tank (.refl _))
  grant _ _ _ h _ _ := h.news (by simp) (by simp)
  returnAll h := h.news rfl (.refl _)
  resetTrain _ _ h := h.news (by simp) (by simp)
  takeRow _ _ _ _ h := h.news (by simp) (by simp)
  deselect _ _ h := h.news (by simp) (by simp)
  bind _ _ _ h _ := h.news (by simp) (by simp)
  rest _ _ _ h _ := h.news (by simp) (by simp)
  move _ _ _ _ h _ := h.news (by simp) (by simp)
  parts _ _ _ _ _ h := h.keep (by simp) fun _ hi => (List.mem_append.1 hi).resolve_right mem_reportParts_item
  handItems _ _ h _ hi := h.handItems hi
  endLoad h _ := h.news rfl (.refl _)
  fits_handed _ _ h hi := h.fits_handed hi
  fits_configured _ _ _ _ hi _ := hi.fitsCavern
  fits_quiet _ _ _ _ hi := hi
  characteristic _ _ h hp := h.ready.takeCharacteristic hp
  thresholds _ _ h ht := h.ready.takeThresholds ht
  heatConstants _ _ h := h.news (by simp) (news_topNotices _ (.refl _))
  capacities _ _ h _ := h.news (by simp) (news_topNotices _ (.refl _))
  rotations _ _ _ h _ := h.news rfl (.refl _)
  bindings b _ h _ := h.news (by simp) (news_takeBindings b (.refl _))

/-- Settles O58: of all operations only those that end in an interpolation change the account, and an interpolation brings
it into agreement. -/
theorem everyStepKeepsTheCavernSound : Obligations.EveryStepKeepsTheCavernSound := by
  unfold Obligations.EveryStepKeepsTheCavernSound
  exact fun _ _ => cavernSound_kept.step

end Sys2Proof.Machine
end

/-!
Operations on one train, as the invariants of the Tanks and the Setpoints see them: the other trains and everything else
they read stay, and the train's own context changes in one of a few ways.
-/
section
namespace Sys2Proof.Machine

/-- Of what the invariants read, only one train's context may have changed. -/
structure OnlyTrain (t : Train) (s s' : State) : Prop where
  others : ∀ u, u ≠ t → (s'.train u).core = (s.train u).core
  tanks : s'.tanks = s.tanks
  compressorPhases : s'.dispatcher.compressorRotation.phases = s.dispatcher.compressorRotation.phases
  expanderPhases : s'.dispatcher.expanderRotation.phases = s.dispatcher.expanderRotation.phases
  heat : s'.loader.heat = s.loader.heat
  loadState : s'.loader.loadState = s.loader.loadState
  news : News s.raised s'.raised

theorem core_eq_iff {c c' : TrainContext} :
    c'.core = c.core ↔ c'.state = c.state ∧ c'.selection = c.selection ∧ c'.boundTank = c.boundTank ∧
      c'.setpoint = c.setpoint ∧ c'.reservation = c.reservation := by
  simp [TrainContext.core]

theorem Quiet.train {s s' : State} (q : Quiet s s') (u : Train) : (s'.train u).core = (s.train u).core := by
  have := congrArg (fun f => f.trains.get u) q.footprint
  simpa [State.footprint, State.train] using this

theorem Quiet.onlyTrain {s s' : State} (q : Quiet s s') (t : Train) : OnlyTrain t s s' where
  others u _ := q.train u
  tanks := congrArg Footprint.tanks q.footprint
  compressorPhases := congrArg Footprint.compressorPhases q.footprint
  expanderPhases := congrArg Footprint.expanderPhases q.footprint
  heat := congrArg Footprint.heat q.footprint
  loadState := congrArg Footprint.loadState q.footprint
  news := q.news

section
variable {t : Train} {s s' s'' : State}

theorem OnlyTrain.trans (h : OnlyTrain t s s') (k : OnlyTrain t s' s'') : OnlyTrain t s s'' where
  others u hu := (k.others u hu).trans (h.others u hu)
  tanks := k.tanks.trans h.tanks
  compressorPhases := k.compressorPhases.trans h.compressorPhases
  expanderPhases := k.expanderPhases.trans h.expanderPhases
  heat := k.heat.trans h.heat
  loadState := k.loadState.trans h.loadState
  news := h.news.trans k.news

/-- Operations that leave the dispatcher, the loader, the Tanks and the raised events, and the other trains' contexts. -/
theorem OnlyTrain.of_frame (h : ∀ u, u ≠ t → SameTrain u s s') (hd : s'.dispatcher = s.dispatcher)
    (ht : s'.tanks = s.tanks) (hl : s'.loader = s.loader) (hr : s'.raised = s.raised) : OnlyTrain t s s' where
  others u hu := by rw [(h u hu).train]
  tanks := ht
  compressorPhases := by rw [hd]
  expanderPhases := by rw [hd]
  heat := by rw [hl]
  loadState := by rw [hl]
  news := hr ▸ .refl _

end

theorem onlyTrain_setTrain (t : Train) (c : TrainContext) (s : State) : OnlyTrain t s (s.setTrain t c) :=
  .of_frame (fun _ hu => SameTrain.setTrain_other hu s c) rfl rfl rfl rfl

theorem onlyTrain_onTrain (t : Train) (f : TrainContext → TrainContext) (s : State) : OnlyTrain t s (onTrain t f s) :=
  onlyTrain_setTrain ..

theorem onlyTrain_lowerSetpoint (t : Train) (v : Nat) (s : State) : OnlyTrain t s (lowerSetpoint t v s) :=
  .of_frame (fun _ hu => SameTrain.lowerSetpoint_other hu s v) (by simp) (by simp) (by simp) (by simp)

theorem onlyTrain_lowerIfAbove (s : State) (t : Train) : OnlyTrain t s (lowerIfAbove s t) :=
  .of_frame (fun _ hu => SameTrain.lowerIfAbove_other hu s) (by simp) (by simp) (by simp) (by simp)

theorem onlyTrain_moveToRest (t : Train) (into : TrainState) (s : State) : OnlyTrain t s (moveToRest t into s) :=
  .of_frame (fun _ hu => SameTrain.moveToRest_other hu s into) (by simp) (by simp) (by simp) (by simp)

theorem onlyTrain_takeRow (t : Train) (n : Nat) (row : EnvelopeRow) (s : State) : OnlyTrain t s (takeRow t n row s) :=
  .of_frame (fun _ hu => SameTrain.takeRow_other hu s n row) (by simp) (by simp) (by simp) (by simp)

theorem onlyTrain_deselect (t : Train) (s : State) : OnlyTrain t s (deselect t s) :=
  .of_frame (fun _ hu => SameTrain.deselect_other hu s) (by simp) (by simp) (by simp) (by simp)

theorem onlyTrain_grantCredit (t : Train) (q : Nat) (s : State) : OnlyTrain t s (grantCredit t q s) :=
  onlyTrain_setTrain ..

theorem onlyTrain_partialReturn (t : Train) (need : Nat) (s : State) : OnlyTrain t s (partialReturn t need s) :=
  onlyTrain_setTrain ..

theorem onlyTrain_settleCredit (t : Train) (need : Nat) (s : State) : OnlyTrain t s (settleCredit t need s) := by
  unfold settleCredit
  split
  · exact onlyTrain_grantCredit ..
  · exact onlyTrain_partialReturn ..

theorem onlyTrain_limitByCredit (t : Train) (v : Nat) (s : State) : OnlyTrain t s (limitByCredit t v s) := by
  unfold limitByCredit
  dsimp only
  split <;> exact onlyTrain_setTrain ..

theorem onlyTrain_unloadBelowMin (t : Train) (s : State) : OnlyTrain t s (unloadBelowMin t s) :=
  .of_frame (fun _ hu => SameTrain.unloadBelowMin_other hu s) (by simp) (by simp) (by simp) (by simp)

theorem onlyTrain_writeFormed (t : Train) (state : TrainState) (v : Nat) (s : State) :
    OnlyTrain t s (writeFormed t state v s) := by
  unfold writeFormed
  split
  · exact onlyTrain_onTrain ..
  · split
    · exact (onlyTrain_settleCredit ..).trans (onlyTrain_limitByCredit ..)
    · exact onlyTrain_onTrain ..

theorem onlyTrain_formSetpoint (t : Train) (left : TrainState) (elapsed : Nat) (s : State) :
    OnlyTrain t s (formSetpoint t left elapsed s) :=
  ((onlyTrain_writeFormed ..).trans (onlyTrain_unloadBelowMin ..)).trans ((quiet_order ..).onlyTrain t)

theorem onlyTrain_resetTrain (s : State) (t : Train) : OnlyTrain t s (resetTrain s t) := by
  unfold resetTrain
  dsimp only
  split
  · exact (onlyTrain_onTrain ..).trans ((quiet_order ..).onlyTrain t)
  · exact onlyTrain_onTrain ..

theorem onlyTrain_startTrain (t : Train) (d : Descriptor) (s : State) : OnlyTrain t s (startTrain t d s) :=
  (onlyTrain_setTrain ..).trans ((quiet_order ..).onlyTrain t)

theorem onlyTrain_applyMove (t : Train) (power : Nat) (m : ReportMove) (s : State) :
    OnlyTrain t s (applyMove t power m s) := by
  unfold applyMove
  split
  · exact (Quiet.refl s).onlyTrain t
  · exact onlyTrain_moveToRest ..
  · exact onlyTrain_setTrain ..
  · unfold reenterUnloading
    exact (onlyTrain_setTrain ..).trans ((quiet_triggerPassIf ..).onlyTrain t)
  · exact onlyTrain_setTrain ..

theorem onlyTrain_bindTrain (t : Train) (binding : Tank × Option Nat) (s : State) :
    OnlyTrain t s (bindTrain t binding s) := by
  unfold bindTrain
  dsimp only
  refine (onlyTrain_onTrain t (fun c => { c with boundTank := binding.1 }) s).trans ?_
  split
  · split
    · exact (Quiet.refl _).onlyTrain t
    · exact onlyTrain_takeRow ..
  · split
    · exact onlyTrain_deselect ..
    · exact (Quiet.refl _).onlyTrain t

/-! ### The train's own context -/

/-- A context whose Setpoint has been lowered to at most a value, with nothing taken up. -/
structure Lowered (v : Nat) (c c' : TrainContext) : Prop where
  selection : c'.selection = c.selection
  boundTank : c'.boundTank = c.boundTank
  inUse : inUse c'.state = inUse c.state
  setpoint : c'.setpoint ≤ v
  reservation : c'.reservation ≤ c.reservation

theorem train_congr {s s' : State} (h : s'.trains = s.trains) (t : Train) : s'.train t = s.train t := by
  rw [State.train, h, State.train]

theorem order_train (t u : Train) (c : OrderCommand) (s : State) : (order t c s).train u = s.train u :=
  train_congr (by simp) u

theorem unloadBelowMin_train (t : Train) (s : State) :
    (unloadBelowMin t s).train t = s.train t ∨
    ((s.train t).state = .running ∧ (unloadBelowMin t s).train t = (s.train t).unload (s.train t).setpoint) := by
  unfold unloadBelowMin
  dsimp only
  split
  · exact .inl rfl
  · split
    · next below => exact .inr ⟨below.1, by simp⟩
    · exact .inl rfl

theorem lowered_unloadBelowMin (t : Train) (s : State) :
    Lowered (s.train t).setpoint (s.train t) ((unloadBelowMin t s).train t) := by
  obtain h | ⟨running, h⟩ := unloadBelowMin_train t s
  · rw [h]
    exact ⟨rfl, rfl, rfl, le_refl _, le_refl _⟩
  · rw [h]
    exact ⟨rfl, rfl, by rw [running]; rfl, le_refl _, le_refl _⟩

theorem lowered_partialReturn (t : Train) (need : Nat) (s : State) :
    Lowered (s.train t).setpoint (s.train t) ((partialReturn t need s).train t) := by
  simp only [partialReturn, State.train_setTrain]
  exact ⟨rfl, rfl, rfl, le_refl _, Nat.sub_le _ _⟩

theorem lowered_limitByCredit (t : Train) (v : Nat) (s : State) :
    Lowered v (s.train t) ((limitByCredit t v s).train t) := by
  unfold limitByCredit
  dsimp only
  split
  · simp only [State.train_setTrain]
    exact ⟨rfl, rfl, rfl, le_refl _, le_refl _⟩
  · simp only [State.train_setTrain]
    exact ⟨rfl, rfl, rfl, Nat.min_le_left _ _, le_refl _⟩

theorem Lowered.trans {v w : Nat} {a b c : TrainContext} (h : Lowered v a b) (k : Lowered w b c) : Lowered w a c :=
  ⟨k.selection.trans h.selection, k.boundTank.trans h.boundTank, k.inUse.trans h.inUse, k.setpoint,
   k.reservation.trans h.reservation⟩

theorem Lowered.mono {v w : Nat} {a b : TrainContext} (h : Lowered v a b) (k : v ≤ w) : Lowered w a b :=
  { h with setpoint := h.setpoint.trans k }

theorem lowered_writeLowered (t : Train) (v : Nat) (s : State) :
    Lowered v (s.train t) ((writeLowered t v s).train t) := by
  unfold writeLowered
  split
  · simp only [onTrain, State.train_setTrain]
    exact ⟨rfl, rfl, rfl, le_refl _, le_refl _⟩
  · exact (lowered_partialReturn ..).trans (lowered_limitByCredit ..)

theorem lowered_lowerSetpoint (t : Train) (v : Nat) (s : State) :
    Lowered v (s.train t) ((lowerSetpoint t v s).train t) := by
  have ordered : (lowerSetpoint t v s).trains = (unloadBelowMin t (writeLowered t v s)).trains := by
    simp [lowerSetpoint]
  rw [train_congr ordered]
  have written := lowered_writeLowered t v s
  exact written.trans ((lowered_unloadBelowMin ..).mono written.setpoint)

theorem lowered_lowerIfAbove (s : State) (t : Train) :
    Lowered (lowerBound s t) (s.train t) ((lowerIfAbove s t).train t) := by
  unfold lowerIfAbove
  split
  · exact lowered_lowerSetpoint ..
  · next within => exact ⟨rfl, rfl, rfl, by omega, le_refl _⟩

theorem moveToRest_train (t : Train) (into : TrainState) (s : State) :
    (moveToRest t into s).train t = (s.train t).rest into := by
  unfold moveToRest
  dsimp only
  rw [train_congr (s := s.setTrain t ((s.train t).rest into)) (by simp)]
  simp

theorem limitUnder_le (outages : List Outage) (t : Train) (interval maxLoad : Nat) :
    limitUnder outages t interval maxLoad ≤ maxLoad := by
  by_cases full : ∃ o ∈ outagesOver outages t interval, o.kind = .full
  · rw [limitUnder_full full]
    exact Nat.zero_le _
  · refine (limitUnder_derated fun o ho => ?_).1
    cases kind : o.kind with
    | full => exact absurd ⟨o, ho, kind⟩ full
    | derate => rfl

theorem trainLimit_le {s : State} {t : Train} {sel : Selection} (h : (s.train t).selection = some sel) :
    trainLimit s t ≤ sel.descriptor.maxLoad := by
  have current : currentLimit s t ≤ sel.descriptor.maxLoad := by
    rw [currentLimit_selected h]
    exact limitUnder_le ..
  rw [trainLimit_selected h]
  split <;> omega

theorem lowerBound_le {s : State} {t : Train} {sel : Selection} (h : (s.train t).selection = some sel) :
    lowerBound s t ≤ sel.descriptor.maxLoad := by
  unfold lowerBound
  split
  · exact Nat.zero_le _
  · exact trainLimit_le h

theorem lowered_lowerAll (s : State) (t : Train) : Lowered (lowerBound s t) (s.train t) ((lowerAll s).train t) := by
  rw [(lowerAll_sameTrain s t).train]
  exact lowered_lowerIfAbove s t

/-- A formation settles a compressor's credits and then writes a Setpoint of at most the candidate. -/
theorem formSetpoint_split (t : Train) (left : TrainState) (elapsed : Nat) (s : State) :
    ∃ s1, (s1 = s ∨ trainKind t = .compressor ∧ inUse (s.train t).state = true ∧ ∃ need, s1 = settleCredit t need s) ∧
      OnlyTrain t s1 (formSetpoint t left elapsed s) ∧
      Lowered (candidateSetpoint s t (formationState left (s.train t).state) elapsed) (s1.train t)
        ((formSetpoint t left elapsed s).train t) := by
  have written : ∃ s1, (s1 = s ∨ trainKind t = .compressor ∧ inUse (s.train t).state = true ∧
        ∃ need, s1 = settleCredit t need s) ∧
      OnlyTrain t s1 (writeFormed t (formationState left (s.train t).state)
        (candidateSetpoint s t (formationState left (s.train t).state) elapsed) s) ∧
      Lowered (candidateSetpoint s t (formationState left (s.train t).state) elapsed) (s1.train t)
        ((writeFormed t (formationState left (s.train t).state)
          (candidateSetpoint s t (formationState left (s.train t).state) elapsed) s).train t) := by
    have plain (v : Nat) : Lowered v (s.train t) ((onTrain t (fun c => { c with setpoint := v }) s).train t) := by
      simp only [onTrain, State.train_setTrain]
      exact ⟨rfl, rfl, rfl, le_refl _, le_refl _⟩
    unfold writeFormed
    split
    · exact ⟨s, .inl rfl, onlyTrain_onTrain .., plain _⟩
    · next compressor =>
      split
      · next forming =>
        have working : inUse (s.train t).state = true := by
          by_contra resting
          rw [formationState, if_neg resting] at forming
          exact resting forming
        exact ⟨_, .inr ⟨compressor, working, _, rfl⟩, onlyTrain_limitByCredit .., lowered_limitByCredit ..⟩
      · exact ⟨s, .inl rfl, onlyTrain_onTrain .., plain _⟩
  obtain ⟨s1, origin, only, lowered⟩ := written
  refine ⟨s1, origin, (only.trans (onlyTrain_unloadBelowMin ..)).trans ((quiet_order ..).onlyTrain t), ?_⟩
  have ordered : (formSetpoint t left elapsed s).trains = (unloadBelowMin t (writeFormed t
      (formationState left (s.train t).state)
      (candidateSetpoint s t (formationState left (s.train t).state) elapsed) s)).trains := by simp [formSetpoint]
  rw [train_congr ordered]
  exact lowered.trans ((lowered_unloadBelowMin ..).mono lowered.setpoint)

/-- The move of a report writes the context the move leaves. -/
theorem applyMove_train {t : Train} {power : Nat} {m : ReportMove} {s : State} (h : m.Fits (s.train t).state) :
    (applyMove t power m s).train t = m.context (s.train t) power (reentrySetpoint t power s) s.now := by
  rw [applyMove_eq h]
  simp [State.withMove, State.train]

/-- A start judged past its limit trips the train. -/
theorem judgeStart_cases (t : Train) (s : State) :
    (judgeStart t s).train t = (s.train t).rest .tripped ∨ judgeStart t s = s := by
  unfold judgeStart
  split
  · left
    rw [expireStart, train_congr (s := moveToRest t .tripped s) (by simp), moveToRest_train]
  · exact .inr rfl

/-- The Setpoint held at the Train Limit (R173). -/
def heldAtLimit (t : Train) (s : State) : State :=
  if trainLimit s t < (s.train t).setpoint then lowerSetpoint t (trainLimit s t) s else s

/-- A row copied into the train's context. -/
def copyRow (t : Train) (n : Nat) (row : EnvelopeRow) (s : State) : State :=
  onTrain t (fun c => { c with selection := some (selectionOf n row) }) s

theorem takeRow_eq (t : Train) (n : Nat) (row : EnvelopeRow) (s : State) :
    takeRow t n row s = judgeStart t (heldAtLimit t (copyRow t n row s)) := rfl

theorem copyRow_train (t : Train) (n : Nat) (row : EnvelopeRow) (s : State) :
    (copyRow t n row s).train t = { s.train t with selection := some (selectionOf n row) } := by
  simp [copyRow, onTrain]

theorem lowered_heldAtLimit (t : Train) (s : State) :
    Lowered (min (trainLimit s t) (s.train t).setpoint) (s.train t) ((heldAtLimit t s).train t) := by
  unfold heldAtLimit
  split
  · next above => exact (lowered_lowerSetpoint ..).mono (le_min (le_refl _) above.le)
  · next within => exact ⟨rfl, rfl, rfl, le_min (not_lt.1 within) (le_refl _), le_refl _⟩

/-- A row taken leaves the train TRIPPED, or its new selection with the Setpoint held at the new Train Limit. -/
theorem takeRow_train (t : Train) (n : Nat) (row : EnvelopeRow) (s : State) :
    (∃ c, (takeRow t n row s).train t = TrainContext.rest c .tripped) ∨
    ∃ limit ≤ row.descriptor.maxLoad, Lowered (min limit (s.train t).setpoint)
      { s.train t with selection := some (selectionOf n row) } ((takeRow t n row s).train t) := by
  rw [takeRow_eq]
  obtain tripped | stays := judgeStart_cases t (heldAtLimit t (copyRow t n row s))
  · exact .inl ⟨_, tripped⟩
  · have lowered := lowered_heldAtLimit t (copyRow t n row s)
    rw [copyRow_train] at lowered
    rw [stays]
    exact .inr ⟨_, trainLimit_le (sel := selectionOf n row) (congrArg TrainContext.selection (copyRow_train ..)), lowered⟩

/-- A train that loses its selection unloads to 0, or keeps what it holds at rest. -/
theorem deselect_train (t : Train) (s : State) :
    ((deselect t s).train t).selection = none ∧
    inUse ((deselect t s).train t).state = inUse (s.train t).state ∧
    ((deselect t s).train t).boundTank = (s.train t).boundTank ∧
    ((deselect t s).train t).setpoint = (if inUse (s.train t).state then 0 else (s.train t).setpoint) ∧
    ((deselect t s).train t).reservation ≤ (s.train t).reservation := by
  unfold deselect
  dsimp only
  split
  · next working =>
    rw [order_train]
    split
    · simp [partialReturn, TrainContext.unload, inUse_iff, working]
    · simp [TrainContext.unload, inUse_iff, working]
  · simp

theorem resetTrain_train (s : State) (t : Train) : (resetTrain s t).train t = (s.train t).reset := by
  unfold resetTrain
  dsimp only
  split
  · rw [order_train]
    simp [onTrain]
  · simp [onTrain]

/-! ### The parts of an evaluation -/

theorem quiet_takeTarget (s : State) : Quiet s (takeTarget s) := ⟨rfl, .refl _⟩

theorem quiet_settleDirection (s : State) : Quiet s (settleDirection s) := ⟨rfl, .refl _⟩

theorem quiet_takeScheduleValue (s : State) : Quiet s (takeScheduleValue s) := by
  unfold takeScheduleValue
  dsimp only
  split <;> exact ⟨rfl, .refl _⟩

theorem quiet_testStop (s : State) : Quiet s (testStop s) := by
  unfold testStop
  split <;> exact ⟨rfl, .refl _⟩

theorem quiet_writeShares (shares : List (Train × Nat)) (s : State) : Quiet s (writeShares shares s) :=
  foldl_keeps (P := Quiet s) (fun t k h =>
    h.trans (quiet_onTrain t (f := fun c => { c with share := (shares.lookup t).getD 0 }) (fun _ => rfl) k)) allTrains
    (.refl s)

theorem quiet_stopDecisions (k : TrainKind) (n : Nat) (s : State) : Quiet s (stopDecisions k n s) := by
  induction n generalizing s with
  | zero => exact .refl s
  | succ n ih =>
    unfold stopDecisions
    split
    · exact .refl s
    · next t _ =>
      split
      · exact (quiet_onTrain t (f := fun c => { c with released := true }) (fun _ => rfl) s).trans (ih _)
      · exact .refl s

/-- What an evaluation decides in DISPATCHING starts trains of the Active Kind alone; otherwise it starts none. -/
theorem decideTrains_cases (s : State) :
    Quiet s (decideTrains s) ∨ ∃ k, activeKind s.dispatcher.direction = some k ∧
      Quiet (startDecisions k 3 (stopDecisions k 3 s)) (decideTrains s) := by
  unfold decideTrains
  split
  · next k _ active => exact .inr ⟨k, active, quiet_writeShares ..⟩
  · exact .inl (quiet_writeShares ..)

theorem firstStartable_spec {s : State} {deployment : Bool} {walk : List (Nat × Train)} {phase : Nat} {t : Train}
    {d : Descriptor} (h : firstStartable s deployment walk = some (phase, t, d)) :
    (phase, t) ∈ walk ∧ startable s deployment t = some d := by
  induction walk with
  | nil => cases h
  | cons a rest ih =>
    unfold firstStartable at h
    split at h
    · next found =>
      cases h
      exact ⟨by simp, found⟩
    · obtain ⟨mem, found⟩ := ih h
      exact ⟨by simp [mem], found⟩

theorem mem_phases_of_mem_walk {r : Rotation} {p : Nat × Train} (h : p ∈ r.walk) : p.2 ∈ r.phases := by
  have numbered : p ∈ (List.range r.phases.length).zip r.phases := by
    rcases List.mem_append.1 h with h | h
    · exact List.mem_of_mem_drop h
    · exact List.mem_of_mem_take h
  exact (List.of_mem_zip numbered).2

theorem startable_some {s : State} {deployment : Bool} {t : Train} {d : Descriptor}
    (h : startable s deployment t = some d) :
    ∃ sel, (s.train t).selection = some sel ∧ sel.descriptor = d ∧ (s.train t).state = .ready ∧
      (startRequest s t d = 0 ∨ grantSize s t (startRequest s t d) = startRequest s t d) := by
  unfold startable at h
  dsimp only at h
  split at h
  · cases h
  · next sel selected =>
    split at h
    · next may =>
      cases h
      obtain ⟨ready, _, _, _, granted⟩ := may
      exact ⟨sel, selected, rfl, ready, granted⟩
    · cases h

theorem quiet_setPointer (k : TrainKind) (pointer : Nat) (s r : State)
    (h : r.dispatcher.rotation k = s.dispatcher.rotation k) :
    Quiet r (onDispatcher (fun p => p.setRotation k { s.dispatcher.rotation k with pointer := pointer }) r) := by
  rw [← h]
  cases k <;> exact ⟨rfl, .refl _⟩

/-- Start decisions keep a property that survives the start of a Startable train of their kind. -/
theorem startDecisions_keeps {P : State → Prop} (k : TrainKind) (quiet : ∀ {s r}, Quiet s r → P s → P r)
    (start : ∀ {s t d deployment}, P s → t ∈ (s.dispatcher.rotation k).phases → startable s deployment t = some d →
      P (startTrain t d s)) (n : Nat) {s : State} (h : P s) : P (startDecisions k n s) := by
  induction n generalizing s with
  | zero => exact h
  | succ n ih =>
    unfold startDecisions
    dsimp only
    split
    · split
      · exact h
      · next phase t d found =>
        obtain ⟨mem, may⟩ := firstStartable_spec found
        exact ih (quiet (quiet_setPointer k _ s _ (by simp [startTrain, State.setTrain]))
          (start h (mem_phases_of_mem_walk mem) may))
    · exact h

theorem lowerAll_keeps {P : State → Prop} (lower : ∀ t {s}, P s → P (lowerIfAbove s t)) {s : State} (h : P s) :
    P (lowerAll s) :=
  foldl_keeps (fun t _ => lower t) allTrains h

end Sys2Proof.Machine
end

/-!
O60: every step keeps the two kinds of train from holding Setpoints together.
-/
section
namespace Sys2Proof.Machine

/-- SetpointsSound without the bound by the Cached Descriptor, which an evaluation's starts may exceed until its
lowerings. -/
structure SetpointsHeld (s : State) : Prop where
  rest : ∀ t, inUse (s.train t).state = false ∨ (s.train t).selection = none → (s.train t).setpoint = 0
  apart : ∀ t k, trainKind t = .compressor → trainKind k = .expander →
    (s.train t).setpoint = 0 ∨ (s.train k).setpoint = 0
  compressors : ∀ t ∈ s.dispatcher.compressorRotation.phases, trainKind t = .compressor
  expanders : ∀ t ∈ s.dispatcher.expanderRotation.phases, trainKind t = .expander
  handed : ∀ compressor expander, .configItem (.dutyRotations compressor expander) ∈ s.raised →
    (∀ t ∈ compressor, trainKind t = .compressor) ∧ ∀ t ∈ expander, trainKind t = .expander

/-- A Setpoint of at most the max load of the Cached Descriptor. -/
def TrainContext.WithinEnvelope (c : TrainContext) : Prop :=
  ∀ sel, c.selection = some sel → c.setpoint ≤ sel.descriptor.maxLoad

theorem setpointsSound_iff (s : State) :
    SetpointsSound s ↔ SetpointsHeld s ∧ ∀ t, (s.train t).WithinEnvelope := by
  constructor
  · rintro ⟨trains, apart, phases, handed⟩
    exact ⟨⟨fun t => (trains t).1, apart, phases .compressor, phases .expander, handed⟩, fun t => (trains t).2⟩
  · rintro ⟨⟨rest, apart, compressors, expanders, handed⟩, within⟩
    refine ⟨fun t => ⟨rest t, within t⟩, apart, fun k => ?_, handed⟩
    cases k with
    | compressor => exact compressors
    | expander => exact expanders

/-- No train of the other kind holds a Setpoint. -/
def OthersAtZero (t : Train) (s : State) : Prop := ∀ u, trainKind u ≠ trainKind t → (s.train u).setpoint = 0

/-! ### A change of one train -/

section
variable {t : Train} {s s' : State}

/-- The two kinds stay apart when a train takes up a Setpoint only where it held one or no train of the other kind does. -/
theorem SetpointsHeld.only (h : SetpointsHeld s) (o : OnlyTrain t s s')
    (rest : inUse (s'.train t).state = false ∨ (s'.train t).selection = none → (s'.train t).setpoint = 0)
    (apart : (s'.train t).setpoint = 0 ∨ (s.train t).setpoint ≠ 0 ∨ OthersAtZero t s) : SetpointsHeld s' := by
  have core (u : Train) (hu : u ≠ t) := core_eq_iff.1 (o.others u hu)
  have taken (u : Train) (hu : trainKind u ≠ trainKind t) : (s'.train t).setpoint = 0 ∨ (s'.train u).setpoint = 0 := by
    obtain ⟨_, _, _, setpoint, _⟩ := core u fun e => hu (by rw [e])
    rw [setpoint]
    obtain zero | held | zero := apart
    · exact .inl zero
    · by_cases kind : trainKind t = .compressor
      · exact .inr ((h.apart t u kind (by cases e : trainKind u <;> simp_all)).resolve_left held)
      · exact .inr ((h.apart u t (by cases e : trainKind u <;> cases e' : trainKind t <;> simp_all)
          (by cases e' : trainKind t <;> simp_all)).resolve_right held)
    · exact .inr (zero u hu)
  refine ⟨fun u => ?_, fun c x hc hx => ?_, ?_, ?_, fun compressor expander hm => ?_⟩
  · by_cases hu : u = t
    · rw [hu]
      exact rest
    · obtain ⟨state, selection, _, setpoint, _⟩ := core u hu
      rw [state, selection, setpoint]
      exact h.rest u
  · by_cases htc : c = t
    · rw [htc]
      exact taken x (by rw [hx, ← htc, hc]; decide)
    · by_cases htx : x = t
      · rw [htx]
        exact (taken c (by rw [hc, ← htx, hx]; decide)).symm
      · obtain ⟨_, _, _, first, _⟩ := core c htc
        obtain ⟨_, _, _, second, _⟩ := core x htx
        rw [first, second]
        exact h.apart c x hc hx
  · rw [o.compressorPhases]
    exact h.compressors
  · rw [o.expanderPhases]
    exact h.expanders
  · exact h.handed _ _ ((o.news.known _ hm).resolve_right (by simp [Raised.routine]))

theorem SetpointsHeld.quiet (h : SetpointsHeld s) (q : Quiet s s') : SetpointsHeld s' := by
  obtain ⟨state, selection, _, setpoint, _⟩ := core_eq_iff.1 (q.train .k1)
  refine h.only (q.onlyTrain .k1) (by rw [state, selection, setpoint]; exact h.rest _) ?_
  rw [setpoint]
  by_cases zero : (s.train .k1).setpoint = 0
  · exact .inl zero
  · exact .inr (.inl zero)

theorem SetpointsHeld.lowered (h : SetpointsHeld s) (o : OnlyTrain t s s') {v : Nat}
    (l : Lowered v (s.train t) (s'.train t))
    (rest : inUse (s.train t).state = false ∨ (s.train t).selection = none → v = 0)
    (apart : v = 0 ∨ (s.train t).setpoint ≠ 0 ∨ OthersAtZero t s) : SetpointsHeld s' := by
  have le := l.setpoint
  refine h.only o (fun r => ?_) (apart.imp_left fun zero => by omega)
  rw [l.inUse, l.selection] at r
  have := rest r
  omega

/-- A change of one train that leaves it without a Setpoint. -/
theorem SetpointsHeld.zero (h : SetpointsHeld s) (o : OnlyTrain t s s') (zero : (s'.train t).setpoint = 0) :
    SetpointsHeld s' :=
  h.only o (fun _ => zero) (.inl zero)

/-- A change of one train that only lowers its Setpoint. -/
theorem SetpointsHeld.lower (h : SetpointsHeld s) (o : OnlyTrain t s s') {v : Nat}
    (l : Lowered v (s.train t) (s'.train t)) (hv : v ≤ (s.train t).setpoint) : SetpointsHeld s' := by
  refine h.lowered o l (fun r => ?_) ?_
  · have := h.rest t r
    omega
  · by_cases held : (s.train t).setpoint = 0
    · exact .inl (by omega)
    · exact .inr (.inl held)

theorem SetpointsHeld.lowerIfAbove (h : SetpointsHeld s) (t : Train) : SetpointsHeld (lowerIfAbove s t) := by
  by_cases above : lowerBound s t < (s.train t).setpoint
  · exact h.lower (onlyTrain_lowerIfAbove s t) (lowered_lowerIfAbove s t) above.le
  · rw [Machine.lowerIfAbove, if_neg above]
    exact h

end

theorem SetpointsHeld.lowerAll {s : State} (h : SetpointsHeld s) : SetpointsHeld (lowerAll s) :=
  lowerAll_keeps (fun t _ k => k.lowerIfAbove t) h

theorem othersAtZero_of_not_holds {t : Train} {s : State} (h : ¬ kindHolds s (otherKind (trainKind t)) = true) :
    OthersAtZero t s := by
  intro u hu
  by_contra held
  exact h ((kindHolds_otherKind_iff s t).2 ⟨u, hu, Nat.pos_of_ne_zero held⟩)

/-! ### An evaluation -/

/-- A Direction with an Active Kind was settled with no train of the other kind holding a Setpoint. -/
theorem othersAtZero_of_activeKind {s : State} {n : Int} {t : Train} (h : SetpointsHeld s)
    (active : activeKind (directionOf n (heldKind s)) = some (trainKind t)) : OthersAtZero t s := by
  intro u hu
  by_contra setpoint
  have holds : kindHolds s (trainKind u) = true := by
    simp only [kindHolds, List.any_eq_true, decide_eq_true_iff]
    exact ⟨u, (mem_trainsOf ..).2 rfl, Nat.pos_of_ne_zero setpoint⟩
  have held : heldKind s = some (trainKind u) := by
    unfold heldKind
    cases kind : trainKind u with
    | expander => rw [if_pos (kind ▸ holds)]
    | compressor =>
      have none : ¬ kindHolds s .expander = true := by
        simp only [kindHolds, List.any_eq_true, decide_eq_true_iff, not_exists, not_and]
        intro x hx
        have := (h.apart u x kind ((mem_trainsOf ..).1 hx)).resolve_left setpoint
        omega
      rw [if_neg none, if_pos (kind ▸ holds)]
  rw [held] at active
  unfold directionOf at active
  cases ku : trainKind u <;> cases kt : trainKind t <;> simp only [ku, kt] at hu active
  case compressor.compressor => exact hu rfl
  case expander.expander => exact hu rfl
  all_goals
    split at active
    · cases active
    · split at active <;> cases active

theorem startTrain_train (t : Train) (d : Descriptor) (s : State) :
    (startTrain t d s).train t = startedContext s t d := by
  simp [startTrain, State.train]

theorem SetpointsHeld.startTrain {s : State} {t : Train} {d : Descriptor} (h : SetpointsHeld s) {sel : Selection}
    (selected : (s.train t).selection = some sel) (others : OthersAtZero t s) : SetpointsHeld (startTrain t d s) := by
  refine h.only (onlyTrain_startTrain t d s) (fun idle => ?_) (.inr (.inr others))
  rw [startTrain_train] at idle
  obtain idle | idle := idle
  · cases idle
  · cases selected.symm.trans idle

/-- With every train of the other kinds at Setpoint 0, start decisions keep the kinds apart. -/
theorem SetpointsHeld.startDecisions {s : State} (h : SetpointsHeld s) {k : TrainKind}
    (others : ∀ u, trainKind u ≠ k → (s.train u).setpoint = 0) (n : Nat) : SetpointsHeld (startDecisions k n s) := by
  refine (startDecisions_keeps (P := fun s => SetpointsHeld s ∧ ∀ u, trainKind u ≠ k → (s.train u).setpoint = 0) k
    (fun q hr => ⟨hr.1.quiet q, fun u hu => ?_⟩) (fun {s t d _} hr mem may => ?_) n ⟨h, others⟩).1
  · obtain ⟨_, _, _, setpoint, _⟩ := core_eq_iff.1 (q.train u)
    rw [setpoint]
    exact hr.2 u hu
  · obtain ⟨held, zero⟩ := hr
    have kind : trainKind t = k := by
      cases k with
      | compressor => exact held.compressors t mem
      | expander => exact held.expanders t mem
    obtain ⟨sel, selected, _⟩ := startable_some may
    refine ⟨held.startTrain selected (by rwa [OthersAtZero, kind]), fun u hu => ?_⟩
    obtain ⟨_, _, _, setpoint, _⟩ := core_eq_iff.1 ((onlyTrain_startTrain t d s).others u fun e => hu (e ▸ kind))
    rw [setpoint]
    exact zero u hu

theorem SetpointsHeld.decideTrains {s : State} (h : SetpointsHeld s)
    (others : ∀ k, activeKind s.dispatcher.direction = some k → ∀ u, trainKind u ≠ k → (s.train u).setpoint = 0) :
    SetpointsHeld (decideTrains s) := by
  obtain q | ⟨k, active, q⟩ := decideTrains_cases s
  · exact h.quiet q
  · have stopped := quiet_stopDecisions k 3 s
    refine ((h.quiet stopped).startDecisions (fun u hu => ?_) 3).quiet q
    obtain ⟨_, _, _, setpoint, _⟩ := core_eq_iff.1 (stopped.train u)
    rw [setpoint]
    exact others k active u hu

theorem exists_train_of_kind (k : TrainKind) : ∃ t, trainKind t = k := by
  cases k with
  | compressor => exact ⟨.k1, rfl⟩
  | expander => exact ⟨.x1, rfl⟩

/-- The lowerings bring every Setpoint within its envelope. -/
theorem SetpointsHeld.lowered_sound {s : State} (h : SetpointsHeld s) : SetpointsSound (Machine.lowerAll s) := by
  refine (setpointsSound_iff _).2 ⟨h.lowerAll, fun t sel selected => ?_⟩
  have bound := lowered_lowerAll s t
  rw [bound.selection] at selected
  exact bound.setpoint.trans (lowerBound_le selected)

/-! ### The other operations -/

/-- A change of one train that keeps the whole property. -/
theorem SetpointsSound.only {t : Train} {s s' : State} (h : SetpointsSound s) (o : OnlyTrain t s s')
    (held : SetpointsHeld s') (within : (s'.train t).WithinEnvelope) : SetpointsSound s' := by
  refine (setpointsSound_iff _).2 ⟨held, fun u => ?_⟩
  by_cases hu : u = t
  · rw [hu]
    exact within
  · obtain ⟨_, selection, _, setpoint, _⟩ := core_eq_iff.1 (o.others u hu)
    unfold TrainContext.WithinEnvelope
    rw [selection, setpoint]
    exact ((setpointsSound_iff _).1 h).2 u

section
variable {s : State} (h : SetpointsSound s)
include h

theorem SetpointsSound.held : SetpointsHeld s := ((setpointsSound_iff _).1 h).1

theorem SetpointsSound.within (t : Train) : (s.train t).WithinEnvelope := ((setpointsSound_iff _).1 h).2 t

theorem SetpointsSound.zero {t : Train} {s' : State} (o : OnlyTrain t s s') (zero : (s'.train t).setpoint = 0) :
    SetpointsSound s' :=
  h.only o (h.held.zero o zero) fun _ _ => by omega

/-- A change of one train that keeps its selection and whether it is in use, and does not raise its Setpoint. -/
theorem SetpointsSound.taper {t : Train} {s' : State} (o : OnlyTrain t s s')
    (use : inUse (s'.train t).state = inUse (s.train t).state)
    (selection : (s'.train t).selection = (s.train t).selection)
    (setpoint : (s'.train t).setpoint ≤ (s.train t).setpoint) : SetpointsSound s' := by
  refine h.only o (h.held.only o (fun rest => ?_) ?_) fun sel selected => ?_
  · rw [use, selection] at rest
    have := h.held.rest t rest
    omega
  · by_cases held : (s.train t).setpoint = 0
    · exact .inl (by omega)
    · exact .inr (.inl held)
  · rw [selection] at selected
    exact setpoint.trans (h.within t sel selected)

theorem SetpointsSound.lower {t : Train} {s' : State} (o : OnlyTrain t s s') {v : Nat}
    (l : Lowered v (s.train t) (s'.train t)) (hv : v ≤ (s.train t).setpoint) : SetpointsSound s' :=
  h.taper o l.inUse l.selection (l.setpoint.trans hv)

/-- What the property reads stays: State, selection and Setpoint of every train, the phases, the rotations handed on. -/
theorem SetpointsSound.congr {s' : State}
    (trains : ∀ u, (s'.train u).state = (s.train u).state ∧ (s'.train u).selection = (s.train u).selection ∧
      (s'.train u).setpoint = (s.train u).setpoint)
    (rotations : ∀ k, (s'.dispatcher.rotation k).phases = (s.dispatcher.rotation k).phases)
    (handed : ∀ compressor expander, .configItem (.dutyRotations compressor expander) ∈ s'.raised →
      (∀ t ∈ compressor, trainKind t = .compressor) ∧ ∀ t ∈ expander, trainKind t = .expander) :
    SetpointsSound s' := by
  obtain ⟨held, apart, phases, _⟩ := h
  refine ⟨fun u => ?_, fun t k ht hk => ?_, fun k => ?_, handed⟩
  · obtain ⟨state, selection, setpoint⟩ := trains u
    dsimp only
    rw [state, selection, setpoint]
    exact held u
  · rw [(trains t).2.2, (trains k).2.2]
    exact apart t k ht hk
  · rw [rotations k]
    exact phases k

theorem SetpointsSound.news {s' : State}
    (trains : ∀ u, (s'.train u).state = (s.train u).state ∧ (s'.train u).selection = (s.train u).selection ∧
      (s'.train u).setpoint = (s.train u).setpoint)
    (rotations : ∀ k, (s'.dispatcher.rotation k).phases = (s.dispatcher.rotation k).phases)
    (raised : News s.raised s'.raised) : SetpointsSound s' :=
  h.congr trains rotations fun _ _ hm => h.held.handed _ _ ((raised.known _ hm).resolve_right (by simp [Raised.routine]))

/-- Trains and Dispatcher as they were. -/
theorem SetpointsSound.frame {s' : State} (trains : s'.trains = s.trains) (dispatcher : s'.dispatcher = s.dispatcher)
    (raised : News s.raised s'.raised) : SetpointsSound s' :=
  h.news (fun u => by rw [train_congr trains u]; exact ⟨rfl, rfl, rfl⟩) (fun k => by rw [dispatcher]) raised

theorem SetpointsSound.quiet {s' : State} (q : Quiet s s') : SetpointsSound s' := by
  refine h.news (fun u => ?_) (fun k => ?_) q.news
  · obtain ⟨state, selection, _, setpoint, _⟩ := core_eq_iff.1 (q.train u)
    exact ⟨state, selection, setpoint⟩
  · cases k with
    | compressor => exact congrArg Footprint.compressorPhases q.footprint
    | expander => exact congrArg Footprint.expanderPhases q.footprint

end

/-- An evaluation starts trains of the Active Kind, which was settled with the other kind at Setpoint 0; then it lowers. -/
theorem SetpointsSound.evaluate {s : State} (h : SetpointsSound s) : SetpointsSound (evaluate s) := by
  have target := h.quiet (quiet_takeTarget s)
  have settled := target.quiet (quiet_settleDirection _)
  have decided := settled.held.decideTrains fun k active u hu => by
    obtain ⟨t, rfl⟩ := exists_train_of_kind k
    exact othersAtZero_of_activeKind target.held active u hu
  exact decided.lowered_sound.quiet ((quiet_takeScheduleValue _).trans (quiet_testStop _))

/-! ### The formation -/

theorem candidateSetpoint_zero {s : State} {t : Train} {state : TrainState} {elapsed : Nat}
    (h : inUse state = false ∨ (s.train t).selection = none) : candidateSetpoint s t state elapsed = 0 := by
  unfold candidateSetpoint
  dsimp only
  split
  · rfl
  · next sel selected =>
    rw [if_neg]
    simpa [selected] using h

theorem candidateSetpoint_le {s : State} {t : Train} {state : TrainState} {elapsed : Nat} {sel : Selection}
    (selected : (s.train t).selection = some sel) : candidateSetpoint s t state elapsed ≤ sel.descriptor.maxLoad := by
  refine le_trans ?_ (trainLimit_le selected)
  unfold candidateSetpoint
  simp only [selected]
  split
  · split
    · exact Nat.zero_le _
    · unfold afterBand
      split
      · exact Nat.zero_le _
      · split <;> omega
  · exact Nat.zero_le _

/-- A train at Setpoint 0 takes none up while a train of the other kind holds one. -/
theorem candidateSetpoint_apart (s : State) (t : Train) (state : TrainState) (elapsed : Nat) :
    candidateSetpoint s t state elapsed = 0 ∨ (s.train t).setpoint ≠ 0 ∨ OthersAtZero t s := by
  by_cases held : (s.train t).setpoint = 0
  · by_cases other : kindHolds s (otherKind (trainKind t)) = true
    · left
      unfold candidateSetpoint
      simp only [held, other, and_self, if_true, ite_self]
      split <;> rfl
    · exact .inr (.inr (othersAtZero_of_not_holds other))
  · exact .inr (.inl held)

theorem settleCredit_train (t : Train) (need : Nat) (s : State) :
    ((settleCredit t need s).train t).state = (s.train t).state ∧
    ((settleCredit t need s).train t).selection = (s.train t).selection ∧
    ((settleCredit t need s).train t).boundTank = (s.train t).boundTank ∧
    ((settleCredit t need s).train t).setpoint = (s.train t).setpoint := by
  unfold settleCredit
  split <;> simp [grantCredit, partialReturn]

theorem OthersAtZero.only {t : Train} {s s' : State} (h : OthersAtZero t s) (o : OnlyTrain t s s') :
    OthersAtZero t s' := by
  intro u hu
  obtain ⟨_, _, _, setpoint, _⟩ := core_eq_iff.1 (o.others u fun e => hu (by rw [e]))
  rw [setpoint]
  exact h u hu

theorem formationState_inUse {left now : TrainState} (h : inUse now = false) :
    inUse (formationState left now) = false := by
  rw [formationState, if_neg (by simp [h])]
  exact h

theorem SetpointsSound.formSetpoint {s : State} (h : SetpointsSound s) (t : Train) (left : TrainState)
    (elapsed : Nat) : SetpointsSound (formSetpoint t left elapsed s) := by
  obtain ⟨s1, origin, only, lowered⟩ := formSetpoint_split t left elapsed s
  have settled : OnlyTrain t s s1 ∧ (s1.train t).state = (s.train t).state ∧
      (s1.train t).selection = (s.train t).selection ∧ (s1.train t).setpoint = (s.train t).setpoint := by
    obtain rfl | ⟨_, _, need, rfl⟩ := origin
    · exact ⟨(Quiet.refl _).onlyTrain t, rfl, rfl, rfl⟩
    · obtain ⟨state, selection, _, setpoint⟩ := settleCredit_train t need s
      exact ⟨onlyTrain_settleCredit .., state, selection, setpoint⟩
  obtain ⟨first, state, selection, setpoint⟩ := settled
  have before := h.taper first (by rw [state]) selection setpoint.le
  refine before.only only (before.held.lowered only lowered (fun rest => ?_) ?_) fun sel selected => ?_
  · rw [state, selection] at rest
    exact candidateSetpoint_zero (rest.imp_left formationState_inUse)
  · rw [setpoint]
    exact (candidateSetpoint_apart ..).imp_right (Or.imp_right fun zero => zero.only first)
  · rw [lowered.selection, selection] at selected
    exact lowered.setpoint.trans (candidateSetpoint_le selected)

/-! ### The other operations on a train -/

section
variable {s : State} (h : SetpointsSound s) (t : Train)
include h

theorem SetpointsSound.moveToRest (into : TrainState) : SetpointsSound (moveToRest t into s) :=
  h.zero (onlyTrain_moveToRest t into s) (by rw [moveToRest_train]; rfl)

theorem SetpointsSound.takeRow (n : Nat) (row : EnvelopeRow) : SetpointsSound (takeRow t n row s) := by
  obtain ⟨c, rested⟩ | ⟨limit, envelope, lowered⟩ := takeRow_train t n row s
  · exact h.zero (onlyTrain_takeRow ..) (by rw [rested]; rfl)
  · have le := lowered.setpoint
    refine h.only (onlyTrain_takeRow ..) (h.held.only (onlyTrain_takeRow ..) (fun rest => ?_) ?_) fun sel selected => ?_
    · rw [lowered.inUse, lowered.selection] at rest
      have := h.held.rest t (.inl (rest.resolve_right (by simp)))
      omega
    · by_cases held : (s.train t).setpoint = 0
      · exact .inl (by omega)
      · exact .inr (.inl held)
    · rw [lowered.selection] at selected
      cases selected
      exact le.trans ((min_le_left _ _).trans envelope)

theorem SetpointsSound.deselect : SetpointsSound (deselect t s) := by
  obtain ⟨_, _, _, setpoint, _⟩ := deselect_train t s
  refine h.zero (onlyTrain_deselect t s) ?_
  rw [setpoint]
  split
  · rfl
  · next resting => exact h.held.rest t (.inl (by simpa using resting))

theorem SetpointsSound.bindTrain (binding : Tank × Option Nat) : SetpointsSound (bindTrain t binding s) := by
  have bound : SetpointsSound (onTrain t (fun c => { c with boundTank := binding.1 }) s) :=
    h.taper (onlyTrain_onTrain ..) (by simp [onTrain]) (by simp [onTrain]) (by simp [onTrain])
  unfold Machine.bindTrain
  dsimp only
  split
  · split
    · exact bound
    · exact bound.takeRow t ..
  · split
    · exact bound.deselect t
    · exact bound

theorem SetpointsSound.applyMove {power : Nat} {m : ReportMove} (hm : m.Fits (s.train t).state) :
    SetpointsSound (applyMove t power m s) := by
  have moved := applyMove_train (power := power) hm
  have only := onlyTrain_applyMove t power m s
  cases m with
  | stay => exact h
  | rest into => exact h.zero only (by rw [moved]; rfl)
  | run =>
    refine h.taper only ?_ ?_ ?_ <;> rw [moved]
    · rw [show (s.train t).state = .starting from hm]
      rfl
    · rfl
    · rfl
  | unload =>
    refine h.taper only ?_ ?_ ?_ <;> rw [moved]
    · obtain state | state : (s.train t).state = .starting ∨ (s.train t).state = .running := hm <;>
      · rw [state]
        rfl
    · rfl
    · exact min_le_left _ _
  | reenter =>
    have after : ((Machine.applyMove t power .reenter s).train t).setpoint = reentrySetpoint t power s := by
      rw [moved]
      rfl
    have selection : ((Machine.applyMove t power .reenter s).train t).selection = (s.train t).selection := by
      rw [moved]
      rfl
    refine h.only only (h.held.only only (fun rest => ?_) ?_) fun sel selected => ?_
    · rw [after]
      obtain resting | none := rest
      · rw [moved] at resting
        cases resting
      · exact reentrySetpoint_zero (.inl (selection ▸ none))
    · rw [after]
      by_cases other : kindHolds s (otherKind (trainKind t)) = true
      · exact .inl (reentrySetpoint_zero (.inr other))
      · exact .inr (.inr (othersAtZero_of_not_holds other))
    · rw [selection] at selected
      rw [after]
      by_cases other : kindHolds s (otherKind (trainKind t)) = true
      · rw [reentrySetpoint_zero (.inr other)]
        exact Nat.zero_le _
      · rw [reentrySetpoint_selected selected other]
        exact min_le_right _ _

end

/-! ### Every step -/

/-- What an item must meet for the Dispatcher to take it. -/
def FitsRotations : ConfigItem → Prop
  | .dutyRotations compressor expander =>
    (∀ t ∈ compressor, trainKind t = .compressor) ∧ ∀ t ∈ expander, trainKind t = .expander
  | _ => True

theorem ItemSound.fitsRotations {i : ConfigItem} (h : ItemSound i) : FitsRotations i := by
  cases i with
  | dutyRotations compressor expander => exact h
  | _ => trivial

theorem SetpointsSound.fits_handed {s : State} (h : SetpointsSound s) {i : ConfigItem} (hi : .configItem i ∈ s.raised) :
    FitsRotations i := by
  cases i with
  | dutyRotations compressor expander => exact h.held.handed _ _ hi
  | _ => trivial

theorem SetpointsSound.handItems {s : State} (h : SetpointsSound s) {items : List ConfigItem}
    (hi : ∀ i ∈ items, ItemSound i) : SetpointsSound (raiseAll (items.map Raised.configItem) s) := by
  refine h.congr (fun _ => ⟨rfl, rfl, rfl⟩) (fun _ => rfl) fun compressor expander hm => ?_
  have handed : .configItem (.dutyRotations compressor expander) ∈ s.raised ∨
      ConfigItem.dutyRotations compressor expander ∈ items := by simpa [raiseAll] using hm
  exact handed.elim (h.held.handed _ _) (hi _)

theorem SetpointsSound.rotations {s : State} (h : SetpointsSound s) {compressor expander : List Train}
    (hr : FitsRotations (.dutyRotations compressor expander)) :
    SetpointsSound (onDispatcher (fun d => { d with compressorRotation := { phases := compressor, pointer := 0 }
                                                    expanderRotation := { phases := expander, pointer := 0 } }) s) := by
  obtain ⟨held, apart, _, handed⟩ := h
  refine ⟨held, apart, fun k => ?_, handed⟩
  cases k with
  | compressor => exact hr.1
  | expander => exact hr.2

theorem State.reset_setpointsSound : SetpointsSound State.reset := by
  refine ⟨fun t => ?_, fun t k _ _ => ?_, fun k => ?_, fun _ _ h => by cases h⟩
  · cases t <;> exact ⟨fun _ => rfl, fun _ _ => Nat.zero_le _⟩
  · cases t <;> exact .inl rfl
  · cases k <;> decide

/-- Of a deposit's train only the Reservation falls, and other trains stay. -/
theorem depositHeat_train (t : Train) (h temperature : Nat) (tank : Tank) (s : State) (u : Train) :
    (depositHeat t h temperature tank s).train u = s.train u ∨
    u = t ∧ (depositHeat t h temperature tank s).train u =
      { s.train t with reservation := (s.train t).reservation - (depositParts s t tank h).1 } := by
  unfold depositHeat
  dsimp only
  split
  · exact .inl rfl
  · split
    · exact .inl (train_congr (by simp) u)
    · rw [train_congr (s := s.setTrain t
        { s.train t with reservation := (s.train t).reservation - (depositParts s t tank h).1 })
        (by (repeat' split) <;> simp) u]
      by_cases hu : u = t
      · exact .inr ⟨hu, by rw [hu, State.train_setTrain]⟩
      · exact .inl (SameTrain.setTrain_other hu s _).train

theorem depositHeat_setpoint (t : Train) (h temperature : Nat) (tank : Tank) (s : State) (u : Train) :
    ((depositHeat t h temperature tank s).train u).state = (s.train u).state ∧
    ((depositHeat t h temperature tank s).train u).selection = (s.train u).selection ∧
    ((depositHeat t h temperature tank s).train u).setpoint = (s.train u).setpoint := by
  obtain e | ⟨rfl, e⟩ := depositHeat_train t h temperature tank s u <;>
  · rw [e]
    exact ⟨rfl, rfl, rfl⟩

theorem drawHeat_leaves (t : Train) (h : Nat) (tank : Tank) (s : State) :
    (drawHeat t h tank s).trains = s.trains ∧ (drawHeat t h tank s).dispatcher = s.dispatcher ∧
    (drawHeat t h tank s).loader = s.loader := by
  unfold drawHeat recordUnderdraw
  dsimp only
  (repeat' split) <;> simp

theorem setpointsSound_kept : Kept SetpointsSound fun _ => FitsRotations where
  quiet q h := h.quiet q
  reset := State.reset_setpointsSound
  evaluate h := h.evaluate
  formSetpoint t left elapsed _ h := h.formSetpoint t left elapsed
  calibrate _ _ h := h.frame (by simp [calibrate]) (by simp [calibrate]) (news_reinterpolate (by simp))
  integrate t flow elapsed _ h := h.frame (by simp) (by simp) (by simp)
  loss _ _ h := h.frame rfl rfl (news_topNotices _ (.refl _))
  survey _ _ _ h _ _ := h.frame rfl rfl (.refl _)
  deposit t _ _ tank _ _ h _ hl := h.news (depositHeat_setpoint t _ _ tank _) (fun _ => by simp)
    (news_depositHeat t _ _ tank (.of_subset hl))
  draw t q tank s h := h.frame (drawHeat_leaves t q tank s).1 (drawHeat_leaves t q tank s).2.1 (news_drawHeat t _ tank (.refl _))
  grant t _ _ h _ _ := h.taper (onlyTrain_grantCredit t ..) (by simp [grantCredit]) (by simp [grantCredit])
    (by simp [grantCredit])
  returnAll h := h.news (fun u => by cases u <;> exact ⟨rfl, rfl, rfl⟩) (fun _ => rfl) (.refl _)
  resetTrain t _ h := h.zero (onlyTrain_resetTrain _ t) (by
    rw [resetTrain_train, TrainContext.reset]
    split <;> rfl)
  takeRow t n row _ h := h.takeRow t n row
  deselect t _ h := h.deselect t
  bind t _ _ h _ := h.taper (onlyTrain_onTrain t ..) (by simp [onTrain]) (by simp [onTrain]) (by simp [onTrain])
  rest t into _ h _ := h.moveToRest t into
  move t _ _ _ h hm := h.applyMove t hm
  parts _ _ _ _ _ h := h.congr (fun _ => ⟨rfl, rfl, rfl⟩) (fun _ => rfl) fun _ _ hm =>
    h.held.handed _ _ ((List.mem_append.1 hm).resolve_right mem_reportParts_item)
  handItems _ _ h _ hi := h.handItems hi
  endLoad h _ := h.frame rfl rfl (.refl _)
  fits_handed _ _ h hi := h.fits_handed hi
  fits_configured _ _ _ _ hi _ := hi.fitsRotations
  fits_quiet _ _ _ _ hi := hi
  characteristic _ _ h _ := h.frame (by simp) (by simp) (news_reinterpolate (.refl _))
  thresholds _ _ h _ := h.frame (by simp) (by simp) (news_reinterpolate (.refl _))
  heatConstants _ _ h := h.frame (by simp) (by simp) (news_topNotices _ (.refl _))
  capacities _ _ h _ := h.frame (by simp) (by simp) (news_topNotices _ (.refl _))
  rotations _ _ _ h hr := h.rotations hr
  bindings b _ h _ := (foldl_keeps (P := SetpointsSound) (fun t _ k => k.bindTrain t _) allTrains h).quiet
    ((quiet_noticeTrains ..).trans (quiet_triggerPassIf ..))

/-- Settles O60: a Setpoint is taken up only by a start of the Active Kind, by a formation and by a re-entry into UNLOADING,
each with the other kind at Setpoint 0; every other operation lowers Setpoints or leaves them. -/
theorem everyStepKeepsTheSetpointsSound : Obligations.EveryStepKeepsTheSetpointsSound := by
  unfold Obligations.EveryStepKeepsTheSetpointsSound
  exact fun _ _ => setpointsSound_kept.step

end Sys2Proof.Machine
end

/-!
Layer Stacks in order: what the operations on a Layer Stack keep (R125 to R138).
-/
section
namespace Sys2Proof.Machine

/-- A stack in order between two temperatures: each layer holds at least 1 MJ, is hotter than the low one, and no hotter
than the layer above it, or than the high one at the top. -/
def Stacked (low : Nat) : Nat → List Layer → Prop
  | _, [] => True
  | high, l :: rest => 1 ≤ l.energy ∧ low < l.temperature ∧ l.temperature ≤ high ∧ Stacked low l.temperature rest

theorem stacked_iff (low high : Nat) (layers : List Layer) :
    Stacked low high layers ↔ layers.Pairwise (fun a b => b.temperature ≤ a.temperature) ∧
      ∀ l ∈ layers, 1 ≤ l.energy ∧ low < l.temperature ∧ l.temperature ≤ high := by
  induction layers generalizing high with
  | nil => simp [Stacked]
  | cons a rest ih =>
    rw [Stacked, ih, List.pairwise_cons, List.forall_mem_cons]
    constructor
    · rintro ⟨energy, above, below, ordered, bounds⟩
      exact ⟨⟨fun l hl => (bounds l hl).2.2, ordered⟩, ⟨energy, above, below⟩, fun l hl =>
        ⟨(bounds l hl).1, (bounds l hl).2.1, (bounds l hl).2.2.trans below⟩⟩
    · rintro ⟨⟨under, ordered⟩, ⟨energy, above, below⟩, bounds⟩
      exact ⟨energy, above, below, ordered, fun l hl => ⟨(bounds l hl).1, (bounds l hl).2.1, under l hl⟩⟩

section
variable {low high : Nat}

theorem Stacked.mono {layers : List Layer} (h : Stacked low high layers) {higher : Nat} (le : high ≤ higher) :
    Stacked low higher layers := by
  cases layers with
  | nil => trivial
  | cons l rest =>
    obtain ⟨energy, above, below, tail⟩ := h
    exact ⟨energy, above, below.trans le, tail⟩

theorem Stacked.filter {layers : List Layer} (h : Stacked low high layers) (lower : Nat) :
    Stacked lower high (layers.filter fun l => lower < l.temperature) := by
  obtain ⟨ordered, bounds⟩ := (stacked_iff ..).1 h
  refine (stacked_iff ..).2 ⟨ordered.filter _, fun l hl => ?_⟩
  obtain ⟨mem, above⟩ := List.mem_filter.1 hl
  exact ⟨(bounds l mem).1, by simpa using above, (bounds l mem).2.2⟩

theorem storedEnergy_cons (l : Layer) (rest : List Layer) :
    storedEnergy (l :: rest) = l.energy + storedEnergy rest := rfl

theorem storedEnergy_filter_le (p : Layer → Bool) (layers : List Layer) :
    storedEnergy (layers.filter p) ≤ storedEnergy layers := by
  induction layers with
  | nil => exact le_refl _
  | cons l rest ih =>
    rw [List.filter_cons, storedEnergy_cons]
    split
    · rw [storedEnergy_cons]
      omega
    · omega

/-! ### Deposits -/

theorem meanTemperature_bounds {t1 e1 t2 e2 : Nat} (h1 : low < t1) (h2 : low < t2) (k1 : t1 ≤ high) (k2 : t2 ≤ high)
    (he : 1 ≤ e1 + e2) : low < meanTemperature t1 e1 t2 e2 ∧ meanTemperature t1 e1 t2 e2 ≤ high := by
  unfold meanTemperature
  constructor
  · refine (Nat.le_div_iff_mul_le (by omega)).2 ?_
    rw [Nat.mul_add]
    exact Nat.add_le_add (Nat.mul_le_mul_right _ h1) (Nat.mul_le_mul_right _ h2)
  · refine Nat.div_le_of_le_mul ?_
    rw [Nat.add_mul, Nat.mul_comm e1, Nat.mul_comm e2]
    exact Nat.add_le_add (Nat.mul_le_mul_right _ k1) (Nat.mul_le_mul_right _ k2)

theorem mergeLayers_energy (a b : Layer) : (mergeLayers a b).energy = a.energy + b.energy := rfl

theorem mergeLayers_bounds {a b : Layer} (ha : low < a.temperature) (hb : low < b.temperature)
    (ka : a.temperature ≤ high) (kb : b.temperature ≤ high) (he : 1 ≤ a.energy) :
    low < (mergeLayers a b).temperature ∧ (mergeLayers a b).temperature ≤ high :=
  meanTemperature_bounds ha hb ka kb (by omega)

theorem storedEnergy_compact (layers : List Layer) : storedEnergy (compact layers) = storedEnergy layers := by
  induction layers using compact.induct with
  | case1 => rfl
  | case2 a => rfl
  | case3 a b => simp [compact, mergeLayers_energy, storedEnergy, sumOver]
  | case4 a b c rest ih => rw [compact, storedEnergy_cons, ih, storedEnergy_cons a]

theorem length_compact (layers : List Layer) (h : 2 ≤ layers.length) : (compact layers).length = layers.length - 1 := by
  induction layers using compact.induct with
  | case1 => simp at h
  | case2 a => simp at h
  | case3 a b => rfl
  | case4 a b c rest ih =>
    rw [compact, List.length_cons, ih (by simp)]
    simp

theorem Stacked.compact {layers : List Layer} (h : Stacked low high layers) : Stacked low high (compact layers) := by
  induction layers using compact.induct generalizing high with
  | case1 => trivial
  | case2 a => exact h
  | case3 a b =>
    obtain ⟨energy, above, below, _, above', below', _⟩ := h
    obtain ⟨low', high'⟩ := mergeLayers_bounds above above' below (below'.trans below) energy
    exact ⟨by rw [mergeLayers_energy]; omega, low', high', trivial⟩
  | case4 a b c rest ih =>
    obtain ⟨energy, above, below, tail⟩ := h
    exact ⟨energy, above, below, ih tail⟩

theorem storedEnergy_cascade (top : Layer) (rest : List Layer) :
    storedEnergy (cascade top rest) = top.energy + storedEnergy rest := by
  induction rest generalizing top with
  | nil => rfl
  | cons below rest ih =>
    unfold cascade
    split
    · rw [ih, mergeLayers_energy, storedEnergy_cons, Nat.add_assoc]
    · rfl

theorem length_cascade_le (top : Layer) (rest : List Layer) : (cascade top rest).length ≤ rest.length + 1 := by
  induction rest generalizing top with
  | nil => exact le_refl _
  | cons below rest ih =>
    unfold cascade
    split
    · exact (ih _).trans (by simp)
    · simp

/-- The cascade puts the stack in order again (R132). -/
theorem Stacked.cascade {top : Layer} {rest : List Layer} (energy : 1 ≤ top.energy) (above : low < top.temperature)
    (below : top.temperature ≤ high) (h : Stacked low high rest) : Stacked low high (cascade top rest) := by
  induction rest generalizing top with
  | nil => exact ⟨energy, above, below, trivial⟩
  | cons next rest ih =>
    obtain ⟨energy', above', below', tail⟩ := h
    unfold Machine.cascade
    split
    · obtain ⟨low', high'⟩ := mergeLayers_bounds above above' below below' energy
      exact ih (by rw [mergeLayers_energy]; omega) low' high' (tail.mono below')
    · next ordered => exact ⟨energy, above, below, energy', above', not_lt.1 ordered, tail⟩

theorem storedEnergy_placeHeat (band : Nat) (new : Layer) (layers : List Layer) :
    storedEnergy (placeHeat band new layers) = storedEnergy layers + new.energy := by
  unfold placeHeat
  split
  · exact Nat.add_comm ..
  · split
    · rw [storedEnergy_cons, Nat.add_comm]
      split
      · rw [storedEnergy_compact]
      · rfl
    · rw [storedEnergy_cascade, storedEnergy_cons]
      dsimp only
      omega

theorem length_placeHeat_le {band : Nat} {new : Layer} {layers : List Layer} (h : layers.length ≤ 8) :
    (placeHeat band new layers).length ≤ 8 := by
  unfold placeHeat
  split
  · simp
  · split
    · split
      · next full =>
        rw [List.length_cons, length_compact _ (by omega)]
        omega
      · next room =>
        rw [List.length_cons]
        omega
    · exact (length_cascade_le ..).trans h

/-- Heat taken in keeps the stack in order: a push is hotter than the top, and a merge cascades. -/
theorem Stacked.placeHeat {new : Layer} {layers : List Layer} (energy : 1 ≤ new.energy)
    (above : low < new.temperature) (below : new.temperature ≤ high) (h : Stacked low high layers) (band : Nat) :
    Stacked low high (placeHeat band new layers) := by
  unfold Machine.placeHeat
  split
  · exact ⟨energy, above, below, trivial⟩
  · next top rest =>
    obtain ⟨topEnergy, topAbove, topBelow, tail⟩ := h
    split
    · next hotter =>
      have under : Stacked low new.temperature (top :: rest) := ⟨topEnergy, topAbove, by omega, tail⟩
      refine ⟨energy, above, below, ?_⟩
      split
      · exact under.compact
      · exact under
    · obtain ⟨low', high'⟩ := meanTemperature_bounds (e1 := top.energy) (e2 := new.energy) topAbove above topBelow below
        (by omega)
      exact Stacked.cascade (show 1 ≤ top.energy + new.energy by omega) low' high' (tail.mono topBelow)

/-! ### Draws -/

theorem Stacked.drawLayers {layers : List Layer} (h : Stacked low high layers) (draw : Nat) :
    Stacked low high (drawLayers draw layers).1 := by
  induction layers generalizing high draw with
  | nil => trivial
  | cons l rest ih =>
    unfold Machine.drawLayers
    split
    · exact h
    · obtain ⟨energy, above, below, tail⟩ := h
      split
      · exact ⟨by dsimp only; omega, above, below, tail⟩
      · exact (ih tail _).mono below

theorem drawLayers_le (draw : Nat) (layers : List Layer) :
    (drawLayers draw layers).1.length ≤ layers.length ∧ storedEnergy (drawLayers draw layers).1 ≤ storedEnergy layers := by
  induction layers generalizing draw with
  | nil => exact ⟨le_refl _, le_refl _⟩
  | cons l rest ih =>
    unfold drawLayers
    split
    · exact ⟨le_refl _, le_refl _⟩
    · split
      · refine ⟨le_refl _, ?_⟩
        simp only [storedEnergy_cons]
        omega
      · obtain ⟨length, stored⟩ := ih (draw - l.energy)
        refine ⟨length.trans (by simp), ?_⟩
        rw [storedEnergy_cons]
        omega

/-! ### Standing loss -/

theorem scaled_le (n f : Nat) : n * (1000 - f) / 1000 ≤ n := by
  refine Nat.div_le_of_le_mul ?_
  rw [Nat.mul_comm 1000]
  exact Nat.mul_le_mul_left _ (by omega)

theorem coolLayer_temperature_mono {f : Nat} {a b : Layer} (h : b.temperature ≤ a.temperature) :
    (coolLayer low f b).temperature ≤ (coolLayer low f a).temperature :=
  Nat.add_le_add_left (Nat.div_le_div_right (Nat.mul_le_mul_right _ (Nat.sub_le_sub_right h _))) _

theorem Stacked.coolStack {layers : List Layer} (h : Stacked low high layers) (f : Nat) :
    Stacked low high (coolStack low f layers) := by
  obtain ⟨ordered, bounds⟩ := (stacked_iff ..).1 h
  rw [coolStack_eq]
  refine (stacked_iff ..).2 ⟨(List.pairwise_map.2 (ordered.imp coolLayer_temperature_mono)).filter _, fun l hl => ?_⟩
  obtain ⟨cooled, stays⟩ := List.mem_filter.1 hl
  obtain ⟨energy, temperature⟩ := of_decide_eq_true stays
  obtain ⟨a, ha, rfl⟩ := List.mem_map.1 cooled
  obtain ⟨_, above, below⟩ := bounds a ha
  have scaled := scaled_le (a.temperature - low) f
  simp only [coolLayer] at energy temperature ⊢
  omega

theorem storedEnergy_coolStack_le (f : Nat) (layers : List Layer) :
    storedEnergy (coolStack low f layers) ≤ storedEnergy layers := by
  refine (storedEnergy_filter_le ..).trans ?_
  induction layers with
  | nil => exact le_refl _
  | cons l rest ih =>
    have scaled := scaled_le l.energy f
    simp only [List.map_cons, storedEnergy_cons, coolLayer] at ih ⊢
    omega

theorem Stacked.coolTimes {layers : List Layer} (h : Stacked low high layers) (f n : Nat) :
    Stacked low high (coolTimes low f n layers) := by
  induction n generalizing layers with
  | zero => exact h
  | succ n ih =>
    rw [coolTimes_succ]
    exact ih (h.coolStack f)

theorem coolTimes_le (low f n : Nat) (layers : List Layer) :
    (coolTimes low f n layers).length ≤ layers.length ∧
      storedEnergy (coolTimes low f n layers) ≤ storedEnergy layers := by
  induction n generalizing layers with
  | zero => exact ⟨le_refl _, le_refl _⟩
  | succ n ih =>
    rw [coolTimes_succ]
    obtain ⟨length, stored⟩ := ih (coolStack low f layers)
    exact ⟨length.trans ((List.length_filter_le ..).trans (by simp)), stored.trans (storedEnergy_coolStack_le ..)⟩

end

end Sys2Proof.Machine
end

/-!
O59: every step keeps the Layer Stacks in order and every Tank within its Capacity.
-/
section
namespace Sys2Proof.Machine

/-- One Tank in order, with the Energy reserved in it. -/
structure TankSound (tRef reserved : Nat) (v : TankState) : Prop where
  count : v.layers.length ≤ 8
  stacked : Stacked tRef 8000 v.layers
  empty : v.surveyed = false → v.layers = []
  within : storedEnergy v.layers + reserved ≤ v.capacity

/-- TanksSound, its clauses named. -/
structure TanksHeld (s : State) : Prop where
  tank : ∀ tank, TankSound s.loader.heat.tRef (reservedEnergy s.trains tank) (s.tank tank)
  reserved : ∀ t, (s.train t).reservation = 0 ∨ trainKind t = .compressor ∧ inUse (s.train t).state = true
  unsurveyed : s.loader.loadState = .loading → ∀ tank, (s.tank tank).surveyed = false
  unreserved : s.loader.loadState = .loading → ∀ t, (s.train t).reservation = 0
  deposits : ∀ t heat temperature tank, .deposit t heat temperature tank ∈ s.raised →
    trainKind t = .compressor ∧ temperature ≤ 8000
  items : ∀ item, .configItem item ∈ s.raised → s.loader.loadState = .loading

theorem tanksSound_iff (s : State) : TanksSound s ↔ TanksHeld s := by
  constructor
  · rintro ⟨tank, reserved, loading, deposits, items⟩
    refine ⟨fun u => ?_, reserved, fun l => (loading l).1, fun l => (loading l).2, deposits, items⟩
    obtain ⟨count, ordered, bounds, empty, within⟩ := tank u
    exact ⟨count, (stacked_iff ..).2 ⟨ordered, bounds⟩, empty, within⟩
  · rintro ⟨tank, reserved, unsurveyed, unreserved, deposits, items⟩
    refine ⟨fun u => ?_, reserved, fun l => ⟨unsurveyed l, unreserved l⟩, deposits, items⟩
    obtain ⟨count, stacked, empty, within⟩ := tank u
    obtain ⟨ordered, bounds⟩ := (stacked_iff ..).1 stacked
    exact ⟨count, ordered, bounds, empty, within⟩

/-! ### Reserved Energy -/

theorem reservedEnergy_eq (s : State) (tank : Tank) :
    reservedEnergy s.trains tank =
      reservedBy tank (s.train .k1) + reservedBy tank (s.train .k2) + reservedBy tank (s.train .k3) := rfl

theorem reservedBy_congr {c c' : TrainContext} (h : c'.core = c.core) (tank : Tank) :
    reservedBy tank c' = reservedBy tank c := by
  obtain ⟨_, _, bound, _, reservation⟩ := core_eq_iff.1 h
  rw [reservedBy, bound, reservation, reservedBy]

/-- A compressor's change of Reservation is the change of the Reserved Energy. -/
theorem reservedEnergy_only {t : Train} {s s' : State} (o : OnlyTrain t s s') (tank : Tank)
    (compressor : trainKind t = .compressor) :
    reservedEnergy s'.trains tank + reservedBy tank (s.train t) =
      reservedEnergy s.trains tank + reservedBy tank (s'.train t) := by
  have other (u : Train) (hu : u ≠ t) := reservedBy_congr (o.others u hu) tank
  rw [reservedEnergy_eq, reservedEnergy_eq]
  cases t with
  | k1 =>
    have := other .k2 (by decide)
    have := other .k3 (by decide)
    omega
  | k2 =>
    have := other .k1 (by decide)
    have := other .k3 (by decide)
    omega
  | k3 =>
    have := other .k1 (by decide)
    have := other .k2 (by decide)
    omega
  | x1 => cases compressor
  | x2 => cases compressor
  | x3 => cases compressor

theorem reservedEnergy_expander {t : Train} {s s' : State} (o : OnlyTrain t s s') (tank : Tank)
    (expander : trainKind t ≠ .compressor) : reservedEnergy s'.trains tank = reservedEnergy s.trains tank := by
  have other (u : Train) (hu : trainKind u = .compressor) :=
    reservedBy_congr (o.others u fun e => expander (e ▸ hu)) tank
  rw [reservedEnergy_eq, reservedEnergy_eq, other .k1 rfl, other .k2 rfl, other .k3 rfl]

/-- The Reserved Energy rises by no more than one train's Reservation does. -/
theorem reservedEnergy_only_le {t : Train} {s s' : State} (o : OnlyTrain t s s') (tank : Tank) {g : Nat}
    (h : reservedBy tank (s'.train t) ≤ reservedBy tank (s.train t) + g) :
    reservedEnergy s'.trains tank ≤ reservedEnergy s.trains tank + g := by
  by_cases kind : trainKind t = .compressor
  · have := reservedEnergy_only o tank kind
    omega
  · rw [reservedEnergy_expander o tank kind]
    omega

/-- A context whose Reservation has been lowered. -/
def TrainContext.spend (c : TrainContext) (mj : Nat) : TrainContext := { c with reservation := c.reservation - mj }

/-- What leaves a Reservation leaves what it holds reserved in its Tank. -/
theorem reservedBy_spend {c : TrainContext} {tank : Tank} {x : Nat} (h : x ≤ reservedBy tank c) :
    reservedBy tank (c.spend x) + x = reservedBy tank c := by
  unfold reservedBy TrainContext.spend at *
  dsimp only
  split at h
  · next own =>
    rw [if_pos own, if_pos own]
    omega
  · next other =>
    rw [if_neg other, if_neg other]
    omega

theorem sumOver_map {α β : Type} (f : β → Nat) (g : α → β) (l : List α) :
    sumOver f (l.map g) = sumOver (fun a => f (g a)) l := by
  induction l with
  | nil => rfl
  | cons a l ih => rw [List.map_cons, sumOver, ih, sumOver]

theorem reservedEnergy_zero {s : State} {tank : Tank}
    (h : ∀ t, (s.train t).boundTank = tank → (s.train t).reservation = 0) : reservedEnergy s.trains tank = 0 := by
  have zero (t : Train) : reservedBy tank (s.train t) = 0 := by
    unfold reservedBy
    split
    · next bound => exact h t bound
    · rfl
  rw [reservedEnergy_eq, zero, zero, zero]

/-! ### Changes of the Tanks -/

section
variable {tRef reserved : Nat} {v v' : TankState}

theorem TankSound.mono (h : TankSound tRef reserved v) {less : Nat} (le : less ≤ reserved) : TankSound tRef less v :=
  { h with within := by have := h.within; omega }

/-- Layers with no more Energy, in order, in place of a Tank's own. -/
theorem TankSound.relayer (h : TankSound tRef reserved v) {tRef' : Nat} (capacity : v'.capacity = v.capacity)
    (surveyed : v'.surveyed = v.surveyed) (count : v'.layers.length ≤ v.layers.length)
    (stacked : Stacked tRef' 8000 v'.layers) (stored : storedEnergy v'.layers ≤ storedEnergy v.layers) :
    TankSound tRef' reserved v' := by
  refine ⟨count.trans h.count, stacked, fun unsurveyed => ?_, ?_⟩
  · have none := h.empty (surveyed ▸ unsurveyed)
    rw [none] at count
    exact List.length_eq_zero_iff.1 (Nat.le_zero.1 count)
  · have := h.within
    omega

end

section
variable {s s' : State} (h : TanksHeld s)
include h

/-- The Tanks change and the trains stay. -/
theorem TanksHeld.retank (trains : s'.trains = s.trains) (load : s'.loader.loadState = s.loader.loadState)
    (news : News s.raised s'.raised)
    (sound : ∀ tank, TankSound s'.loader.heat.tRef (reservedEnergy s.trains tank) (s'.tank tank))
    (unsurveyed : s.loader.loadState = .loading → ∀ tank, (s'.tank tank).surveyed = false) : TanksHeld s' where
  tank := by rwa [trains]
  reserved t := by rw [train_congr trains]; exact h.reserved t
  unsurveyed l := unsurveyed (load ▸ l)
  unreserved l t := by rw [train_congr trains]; exact h.unreserved (load ▸ l) t
  deposits t q temperature tank hm := h.deposits t q temperature tank ((news.known _ hm).resolve_right (by simp [Raised.routine]))
  items i hm := load ▸ h.items i ((news.known _ hm).resolve_right (by simp [Raised.routine]))

theorem TanksHeld.setTank (tank : Tank) {v : TankState}
    (sound : TankSound s.loader.heat.tRef (reservedEnergy s.trains tank) v)
    (surveyed : s.loader.loadState = .loading → v.surveyed = false) : TanksHeld (s.setTank tank v) := by
  refine h.retank rfl rfl (.refl _) (fun u => ?_) fun loading u => ?_
  · by_cases hu : u = tank
    · rw [hu, State.tank_setTank]
      exact sound
    · rw [State.tank_setTank_other _ _ _ _ hu]
      exact h.tank u
  · by_cases hu : u = tank
    · rw [hu, State.tank_setTank]
      exact surveyed loading
    · rw [State.tank_setTank_other _ _ _ _ hu]
      exact h.unsurveyed loading u

/-! ### Changes of one train -/

theorem TanksHeld.quiet (q : Quiet s s') : TanksHeld s' := by
  have tanks : s'.tanks = s.tanks := congrArg Footprint.tanks q.footprint
  have heat : s'.loader.heat = s.loader.heat := congrArg Footprint.heat q.footprint
  have load : s'.loader.loadState = s.loader.loadState := congrArg Footprint.loadState q.footprint
  have reserved (tank : Tank) : reservedEnergy s'.trains tank = reservedEnergy s.trains tank := by
    rw [reservedEnergy_eq, reservedEnergy_eq, reservedBy_congr (q.train .k1), reservedBy_congr (q.train .k2),
      reservedBy_congr (q.train .k3)]
  refine ⟨fun tank => ?_, fun t => ?_, fun l tank => ?_, fun l t => ?_, fun t k temperature tank hm => ?_, fun i hm => ?_⟩
  · rw [heat, reserved, State.tank, tanks]
    exact h.tank tank
  · obtain ⟨state, _, _, _, reservation⟩ := core_eq_iff.1 (q.train t)
    rw [state, reservation]
    exact h.reserved t
  · rw [State.tank, tanks]
    exact h.unsurveyed (load ▸ l) tank
  · obtain ⟨_, _, _, _, reservation⟩ := core_eq_iff.1 (q.train t)
    rw [reservation]
    exact h.unreserved (load ▸ l) t
  · exact h.deposits t k temperature tank ((q.news.known _ hm).resolve_right (by simp [Raised.routine]))
  · exact load ▸ h.items i ((q.news.known _ hm).resolve_right (by simp [Raised.routine]))

/-- A change of one train that the Tanks still have room for. -/
theorem TanksHeld.only {t : Train} (o : OnlyTrain t s s')
    (within : ∀ tank, storedEnergy (s.tank tank).layers + reservedEnergy s'.trains tank ≤ (s.tank tank).capacity)
    (reserved : (s'.train t).reservation = 0 ∨ trainKind t = .compressor ∧ inUse (s'.train t).state = true)
    (unreserved : s.loader.loadState = .loading → (s'.train t).reservation = 0) : TanksHeld s' := by
  have tanks (tank : Tank) : s'.tank tank = s.tank tank := by rw [State.tank, o.tanks, State.tank]
  refine ⟨fun tank => ?_, fun u => ?_, fun l tank => ?_, fun l u => ?_, fun t k temperature tank hm => ?_, fun i hm => ?_⟩
  · rw [o.heat, tanks]
    exact { h.tank tank with within := within tank }
  · by_cases hu : u = t
    · rw [hu]
      exact reserved
    · obtain ⟨state, _, _, _, reservation⟩ := core_eq_iff.1 (o.others u hu)
      rw [state, reservation]
      exact h.reserved u
  · rw [tanks]
    exact h.unsurveyed (o.loadState ▸ l) tank
  · by_cases hu : u = t
    · rw [hu]
      exact unreserved (o.loadState ▸ l)
    · obtain ⟨_, _, _, _, reservation⟩ := core_eq_iff.1 (o.others u hu)
      rw [reservation]
      exact h.unreserved (o.loadState ▸ l) u
  · exact h.deposits t k temperature tank ((o.news.known _ hm).resolve_right (by simp [Raised.routine]))
  · exact o.loadState ▸ h.items i ((o.news.known _ hm).resolve_right (by simp [Raised.routine]))

/-- A change of one train that gives its whole Reservation back. -/
theorem TanksHeld.release {t : Train} (o : OnlyTrain t s s') (zero : (s'.train t).reservation = 0) : TanksHeld s' := by
  refine h.only o (fun tank => ?_) (.inl zero) fun _ => zero
  have le := reservedEnergy_only_le (g := 0) o tank (by simp [reservedBy, zero])
  have := (h.tank tank).within
  omega

/-- A change of one train that takes no Reservation up. -/
theorem TanksHeld.keep {t : Train} (o : OnlyTrain t s s') (bound : (s'.train t).boundTank = (s.train t).boundTank)
    (use : inUse (s'.train t).state = inUse (s.train t).state)
    (reservation : (s'.train t).reservation ≤ (s.train t).reservation) : TanksHeld s' := by
  refine h.only o (fun tank => ?_) ?_ fun loading => ?_
  · have le := reservedEnergy_only_le (g := 0) o tank (by
      unfold reservedBy
      rw [bound]
      split <;> omega)
    have := (h.tank tank).within
    omega
  · obtain zero | ⟨kind, working⟩ := h.reserved t
    · exact .inl (by omega)
    · exact .inr ⟨kind, use.trans working⟩
  · have := h.unreserved loading t
    omega

theorem TanksHeld.lowered {t : Train} (o : OnlyTrain t s s') {v : Nat} (l : Lowered v (s.train t) (s'.train t)) :
    TanksHeld s' :=
  h.keep o l.boundTank l.inUse l.reservation

theorem TanksHeld.grantSize_le (t : Train) (q : Nat) :
    storedEnergy (s.tank (s.train t).boundTank).layers + reservedEnergy s.trains (s.train t).boundTank + grantSize s t q ≤
      (s.tank (s.train t).boundTank).capacity := by
  have within := (h.tank (s.train t).boundTank).within
  have floor (n : Nat) : creditFloor n ≤ n := Nat.div_mul_le_self n 100
  unfold grantSize
  dsimp only
  split
  · have le := (floor (min q (freeEnergy s (s.train t).boundTank))).trans (min_le_right _ _)
    unfold freeEnergy at le
    unfold freeEnergy
    omega
  · omega

/-- A grant takes Free Energy alone, and none during the load. -/
theorem TanksHeld.grow {t : Train} (o : OnlyTrain t s s') (bound : (s'.train t).boundTank = (s.train t).boundTank)
    {q : Nat} (reservation : (s'.train t).reservation = (s.train t).reservation + grantSize s t q)
    (kind : trainKind t = .compressor) (working : inUse (s'.train t).state = true) : TanksHeld s' := by
  refine h.only o (fun tank => ?_) (.inr ⟨kind, working⟩) fun loading => ?_
  · have reserved := reservedEnergy_only o tank kind
    unfold reservedBy at reserved
    rw [bound, reservation] at reserved
    by_cases own : (s.train t).boundTank = tank
    · have room := h.grantSize_le t q
      rw [own] at room
      rw [if_pos own, if_pos own] at reserved
      omega
    · have := (h.tank tank).within
      rw [if_neg own, if_neg own] at reserved
      omega
  · have unsurveyed := h.unsurveyed loading (s.train t).boundTank
    have none : grantSize s t q = 0 := by simp [grantSize, unsurveyed]
    rw [reservation, none, h.unreserved loading t]

end

/-! ### Operations on a train -/

section
variable {s : State} (h : TanksHeld s) (t : Train)
include h

theorem TanksHeld.grantCredit (q : Nat) (kind : trainKind t = .compressor)
    (working : inUse (s.train t).state = true) : TanksHeld (grantCredit t q s) := by
  refine h.grow (onlyTrain_grantCredit t q s) ?_ (q := q) ?_ kind ?_
  all_goals simp only [Machine.grantCredit, State.train_setTrain]
  exact working

theorem TanksHeld.settleCredit (need : Nat) (kind : trainKind t = .compressor)
    (working : inUse (s.train t).state = true) : TanksHeld (settleCredit t need s) := by
  unfold Machine.settleCredit
  split
  · exact h.grantCredit t _ kind working
  · exact h.lowered (onlyTrain_partialReturn ..) (lowered_partialReturn ..)

theorem TanksHeld.formSetpoint (left : TrainState) (elapsed : Nat) : TanksHeld (formSetpoint t left elapsed s) := by
  obtain ⟨s1, origin, only, lowered⟩ := formSetpoint_split t left elapsed s
  obtain rfl | ⟨kind, working, need, rfl⟩ := origin
  · exact h.lowered only lowered
  · exact (h.settleCredit t need kind working).lowered only lowered

/-- A start takes the credits its Startable train has been found room for. -/
theorem TanksHeld.startTrain {d : Descriptor} {deployment : Bool} (may : startable s deployment t = some d) :
    TanksHeld (startTrain t d s) := by
  obtain ⟨sel, _, _, ready, granted⟩ := startable_some may
  have none : (s.train t).reservation = 0 := (h.reserved t).resolve_right (by simp [ready, inUse])
  have started : ((Machine.startTrain t d s).train t).reservation = (s.train t).reservation + startRequest s t d := by
    rw [startTrain_train]
    rfl
  obtain zero | full := granted
  · exact h.release (onlyTrain_startTrain t d s) (by rw [started, none, zero])
  · by_cases kind : trainKind t = .compressor
    · refine h.grow (onlyTrain_startTrain t d s) ?_ (started.trans (by rw [full])) kind ?_
      all_goals
        rw [startTrain_train]
        rfl
    · refine h.release (onlyTrain_startTrain t d s) ?_
      rw [started, none, startRequest]
      split
      · rfl
      · next compressor => exact absurd compressor kind

theorem TanksHeld.takeRow (n : Nat) (row : EnvelopeRow) : TanksHeld (takeRow t n row s) := by
  obtain ⟨c, rested⟩ | ⟨_, _, lowered⟩ := takeRow_train t n row s
  · exact h.release (onlyTrain_takeRow t n row s) (by rw [rested]; rfl)
  · exact h.keep (onlyTrain_takeRow t n row s) lowered.boundTank lowered.inUse lowered.reservation

theorem TanksHeld.deselect : TanksHeld (deselect t s) := by
  obtain ⟨_, use, bound, _, reservation⟩ := deselect_train t s
  exact h.keep (onlyTrain_deselect t s) bound use reservation

theorem TanksHeld.applyMove {power : Nat} {m : ReportMove} (hm : m.Fits (s.train t).state) :
    TanksHeld (applyMove t power m s) := by
  have moved := applyMove_train (power := power) hm
  have only := onlyTrain_applyMove t power m s
  cases m with
  | stay => exact h
  | rest into => exact h.release only (by rw [moved]; rfl)
  | run =>
    refine h.keep only ?_ ?_ ?_ <;> rw [moved]
    · rfl
    · rw [show (s.train t).state = .starting from hm]
      rfl
    · exact le_refl _
  | unload =>
    refine h.keep only ?_ ?_ ?_ <;> rw [moved]
    · rfl
    · obtain state | state : (s.train t).state = .starting ∨ (s.train t).state = .running := hm <;>
      · rw [state]
        rfl
    · exact le_refl _
  | reenter =>
    have resting : inUse (s.train t).state = false := by
      obtain state | state | state : (s.train t).state = .offline ∨ (s.train t).state = .ready ∨
        (s.train t).state = .lost := hm <;>
      · rw [state]
        rfl
    refine h.release only ?_
    rw [moved]
    exact (h.reserved t).resolve_right (by simp [resting])

end

/-- An evaluation takes credits at its starts and returns some at its lowerings. -/
theorem TanksHeld.evaluate {s : State} (h : TanksHeld s) : TanksHeld (evaluate s) := by
  have settled := h.quiet ((quiet_takeTarget s).trans (quiet_settleDirection _))
  have decided : TanksHeld (decideTrains (settleDirection (takeTarget s))) := by
    obtain q | ⟨k, _, q⟩ := decideTrains_cases (settleDirection (takeTarget s))
    · exact settled.quiet q
    · exact (startDecisions_keeps k (fun q h => TanksHeld.quiet h q) (fun h _ may => TanksHeld.startTrain h _ may) 3
        (settled.quiet (quiet_stopDecisions ..))).quiet q
  have lowered := lowerAll_keeps (P := TanksHeld)
    (fun t s h => TanksHeld.lowered h (onlyTrain_lowerIfAbove s t) (lowered_lowerIfAbove s t)) decided
  exact lowered.quiet ((quiet_takeScheduleValue _).trans (quiet_testStop _))

/-! ### Operations on the Tanks -/

/-- What a spill leaves of its Tank. -/
theorem spillHeat_tank (tank : Tank) (mj : Nat) (s : State) :
    ((spillHeat tank mj s).tank tank).layers = (s.tank tank).layers ∧
    ((spillHeat tank mj s).tank tank).capacity = (s.tank tank).capacity ∧
    ((spillHeat tank mj s).tank tank).surveyed = (s.tank tank).surveyed := by
  have spilled : (spillHeat tank mj s).tank tank =
      { s.tank tank with spillTotal := min ((s.tank tank).spillTotal + mj) maxU32 } := by
    have tanks : (spillHeat tank mj s).tanks = (s.setTank tank
        { s.tank tank with spillTotal := min ((s.tank tank).spillTotal + mj) maxU32 }).tanks := by simp [spillHeat]
    rw [State.tank, tanks]
    exact State.tank_setTank ..
  rw [spilled]
  exact ⟨rfl, rfl, rfl⟩

section
variable {s : State} (h : TanksHeld s)
include h

theorem TanksHeld.topNotices (before : State) : TanksHeld (topNotices before s) :=
  h.quiet ⟨by simp [State.footprint], news_topNotices _ (.refl _)⟩

theorem TanksHeld.spillHeat (tank : Tank) (mj : Nat) : TanksHeld (spillHeat tank mj s) := by
  have spilled : TanksHeld (s.setTank tank
      { s.tank tank with spillTotal := min ((s.tank tank).spillTotal + mj) maxU32 }) :=
    h.setTank tank { h.tank tank with } fun loading => h.unsurveyed loading tank
  exact spilled.quiet (quiet_setSticky ..)

/-- Heat taken in above T_ref joins a stack that has room for it. -/
theorem TanksHeld.placeHeat {tank : Tank} {new : Layer} {heat : HeatConstants} (constants : s.loader.heat = heat)
    (energy : 1 ≤ new.energy) (above : heat.tRef < new.temperature) (below : new.temperature ≤ 8000)
    (surveyed : (s.tank tank).surveyed = true)
    (room : storedEnergy (s.tank tank).layers + reservedEnergy s.trains tank + new.energy ≤ (s.tank tank).capacity) :
    TanksHeld (s.setTank tank
      { s.tank tank with layers := placeHeat heat.band new (s.tank tank).layers }) := by
  subst constants
  obtain ⟨count, stacked, _, _⟩ := h.tank tank
  refine h.setTank tank ⟨length_placeHeat_le count, stacked.placeHeat energy above below _, fun unsurveyed => ?_, ?_⟩
    fun loading => h.unsurveyed loading tank
  · cases surveyed.symm.trans unsurveyed
  · rw [storedEnergy_placeHeat]
    dsimp only
    omega

/-- What a deposit accepts fits the Tank once its reserved part has left the Reservation (R129). -/
theorem TanksHeld.deposit_room {t : Train} (kind : trainKind t = .compressor) (tank : Tank) (mj : Nat) :
    storedEnergy (s.tank tank).layers +
        reservedEnergy (s.setTrain t ((s.train t).spend (depositParts s t tank mj).1)).trains tank +
      ((depositParts s t tank mj).1 + (depositParts s t tank mj).2) ≤ (s.tank tank).capacity := by
  have reserved : (depositParts s t tank mj).1 ≤ reservedBy tank (s.train t) := min_le_right _ _
  have free : (depositParts s t tank mj).2 ≤ freeEnergy s tank := min_le_right _ _
  generalize depositParts s t tank mj = parts at reserved free ⊢
  have only := reservedEnergy_only (onlyTrain_setTrain t ((s.train t).spend parts.1) s) tank kind
  have used := reservedBy_spend reserved
  have within := (h.tank tank).within
  rw [State.train_setTrain] at only
  unfold freeEnergy at free
  omega

theorem TanksHeld.depositHeat {t : Train} (kind : trainKind t = .compressor) (mj : Nat) {temperature : Nat}
    (below : temperature ≤ 8000) (tank : Tank) : TanksHeld (depositHeat t mj temperature tank s) := by
  unfold Machine.depositHeat
  dsimp only
  split
  · exact h
  · split
    · exact h.spillHeat ..
    · next taken =>
      obtain ⟨surveyed, above⟩ : (s.tank tank).surveyed = true ∧ s.loader.heat.tRef < temperature := by
        simpa using taken
      have room := h.deposit_room kind tank mj
      refine TanksHeld.topNotices ?_ s
      generalize depositParts s t tank mj = parts at room ⊢
      have used : TanksHeld (s.setTrain t ((s.train t).spend parts.1)) := by
        refine h.keep (onlyTrain_setTrain t _ s) ?_ ?_ ?_ <;> simp only [State.train_setTrain]
        · rfl
        · rfl
        · exact Nat.sub_le _ _
      by_cases short : parts.1 + parts.2 < mj
      · simp only [if_pos short]
        split
        · exact used.spillHeat ..
        · next some =>
          obtain ⟨layers, capacity, same⟩ :=
            spillHeat_tank tank (mj - (parts.1 + parts.2)) (s.setTrain t ((s.train t).spend parts.1))
          have spilled := used.spillHeat tank (mj - (parts.1 + parts.2))
          refine spilled.placeHeat (by simp) (Nat.one_le_iff_ne_zero.2 some) above below (same.trans surveyed) ?_
          have trains : (Machine.spillHeat tank (mj - (parts.1 + parts.2))
              (s.setTrain t ((s.train t).spend parts.1))).trains = (s.setTrain t ((s.train t).spend parts.1)).trains := by
            simp
          rw [layers, capacity, trains]
          exact room
      · simp only [if_neg short]
        split
        · exact used
        · next some => exact used.placeHeat rfl (Nat.one_le_iff_ne_zero.2 some) above below surveyed room

theorem TanksHeld.drawHeat (t : Train) (mj : Nat) (tank : Tank) : TanksHeld (drawHeat t mj tank s) := by
  obtain ⟨length, stored⟩ := drawLayers_le mj (s.tank tank).layers
  have drawn : TanksHeld (s.setTank tank { s.tank tank with layers := (drawLayers mj (s.tank tank).layers).1 }) :=
    h.setTank tank ((h.tank tank).relayer rfl rfl length ((h.tank tank).stacked.drawLayers mj) stored)
      fun loading => h.unsurveyed loading tank
  unfold Machine.drawHeat
  dsimp only
  split
  · exact h
  · refine TanksHeld.quiet (TanksHeld.topNotices ?_ s) (quiet_beginIfDue _)
    split
    · exact drawn
    · unfold recordUnderdraw
      refine TanksHeld.quiet ?_ ((quiet_setSticky ..).trans (quiet_triggerPass _))
      refine drawn.setTank tank { drawn.tank tank with } fun loading => drawn.unsurveyed loading tank

/-- The layers of every Tank change in place, each stack staying in order and gaining nothing. -/
theorem TanksHeld.relayer {f : List Layer → List Layer} {loader : Loader}
    (load : loader.loadState = s.loader.loadState)
    (hf : ∀ layers, Stacked s.loader.heat.tRef 8000 layers → Stacked loader.heat.tRef 8000 (f layers) ∧
      (f layers).length ≤ layers.length ∧ storedEnergy (f layers) ≤ storedEnergy layers) :
    TanksHeld ((s.setLoader loader).setTanks (s.tanks.map fun tank => { tank with layers := f tank.layers })) := by
  refine h.retank rfl load (.refl _) (fun tank => ?_) fun loading tank => ?_
  · obtain ⟨stacked, length, stored⟩ := hf _ (h.tank tank).stacked
    cases tank <;> exact (h.tank _).relayer rfl rfl length stacked stored
  · cases tank with
    | t1 => exact h.unsurveyed loading .t1
    | t2 => exact h.unsurveyed loading .t2
    | t3 => exact h.unsurveyed loading .t3

theorem TanksHeld.applyLoss (n : Nat) : TanksHeld (applyLoss n s) := by
  refine TanksHeld.topNotices (s := s.setTanks _) ?_ s
  exact h.relayer (loader := s.loader) rfl fun layers stacked => ⟨stacked.coolTimes _ n, coolTimes_le ..⟩

theorem TanksHeld.takeHeatConstants (k : HeatConstants) : TanksHeld (takeHeatConstants k s) := by
  refine TanksHeld.topNotices (s := (s.setLoader _).setTanks _) ?_ s
  exact h.relayer (loader := { s.loader with heat := k }) rfl fun layers stacked =>
    ⟨stacked.filter _, List.length_filter_le .., storedEnergy_filter_le ..⟩

theorem TanksHeld.survey {tank : Tank} {layers : List (Nat × Nat)} (loaded : s.loader.loadState = .ended)
    (passed : surveyRefusal tank layers s = none) :
    TanksHeld (s.setTank tank (surveyedTank s.interval layers (s.tank tank))) := by
  have checks := passed
  unfold surveyRefusal at checks
  split at checks
  · cases checks
  split at checks
  · cases checks
  split at checks
  · cases checks
  split at checks
  · cases checks
  next sound room =>
  obtain ⟨count, bounds, ordered⟩ := (layersSound_iff ..).1 (by simpa using sound)
  have stored : storedEnergy (surveyedTank s.interval layers (s.tank tank)).layers = sumOver Prod.snd layers :=
    sumOver_map ..
  refine h.setTank tank ⟨by simpa [surveyedTank] using count, (stacked_iff ..).2 ⟨?_, fun l hl => ?_⟩,
    (nomatch ·), ?_⟩ fun loading => by cases loaded.symm.trans loading
  · exact List.pairwise_map.2 ordered
  · obtain ⟨a, ha, rfl⟩ := List.mem_map.1 hl
    obtain ⟨above, below, energy⟩ := bounds a ha
    exact ⟨energy, above, below⟩
  · rw [stored]
    exact not_lt.1 room

theorem TanksHeld.returnAll : TanksHeld (returnAll s) := by
  have zero (t : Train) : ((Machine.returnAll s).train t).reservation = 0 := by cases t <;> rfl
  have reserved (tank : Tank) : reservedEnergy (Machine.returnAll s).trains tank = 0 :=
    reservedEnergy_zero fun t _ => zero t
  refine ⟨fun tank => ?_, fun t => .inl (zero t), h.unsurveyed, fun _ => zero, h.deposits, h.items⟩
  rw [reserved]
  exact (h.tank tank).mono (Nat.zero_le _)

/-- A Capacity changes where nothing is reserved, and a Tank that would overflow loses its survey (R143). -/
theorem TanksHeld.takeCapacities {c : PerTank Nat}
    (free : ∀ tank, (s.tank tank).capacity = c.get tank ∨ reservedEnergy s.trains tank = 0) :
    TanksHeld (takeCapacities c s) := by
  have sound (tank : Tank) : TankSound s.loader.heat.tRef (reservedEnergy s.trains tank)
      (recapacitate (c.get tank) (reservedEnergy s.trains tank) (s.tank tank)) := by
    obtain ⟨count, stacked, empty, within⟩ := h.tank tank
    unfold recapacitate
    split
    · next overflows =>
      refine ⟨Nat.zero_le _, trivial, fun _ => rfl, ?_⟩
      have := (free tank).resolve_left (by omega)
      rw [this]
      exact Nat.zero_le _
    · next fits => exact ⟨count, stacked, empty, not_lt.1 fits⟩
  unfold Machine.takeCapacities
  refine TanksHeld.topNotices ?_ s
  refine h.retank rfl rfl (.refl _) (fun tank => ?_) fun loading tank => ?_
  · cases tank <;> exact sound _
  · have unsurveyed (tank : Tank) :
        (recapacitate (c.get tank) (reservedEnergy s.trains tank) (s.tank tank)).surveyed = false := by
      unfold recapacitate
      split
      · rfl
      · exact h.unsurveyed loading tank
    cases tank with
    | t1 => exact unsurveyed .t1
    | t2 => exact unsurveyed .t2
    | t3 => exact unsurveyed .t3

/-! ### Bindings -/

theorem TanksHeld.bindTank (t : Train) (tank : Tank)
    (free : (s.train t).reservation = 0 ∨ (s.train t).boundTank = tank) :
    TanksHeld (onTrain t (fun c => { c with boundTank := tank }) s) := by
  have only := onlyTrain_onTrain t (fun c => { c with boundTank := tank }) s
  have bound : (onTrain t (fun c => { c with boundTank := tank }) s).train t = { s.train t with boundTank := tank } := by
    simp [onTrain]
  obtain zero | same := free
  · exact h.release only (by rw [bound]; exact zero)
  · refine h.keep only ?_ ?_ ?_ <;> rw [bound]
    exact same.symm

theorem TanksHeld.bindTrain (t : Train) (binding : Tank × Option Nat)
    (free : (s.train t).reservation = 0 ∨ (s.train t).boundTank = binding.1) : TanksHeld (bindTrain t binding s) := by
  have bound := h.bindTank t binding.1 free
  unfold Machine.bindTrain
  dsimp only
  split
  · split
    · exact bound
    · exact bound.takeRow t ..
  · split
    · exact bound.deselect t
    · exact bound

end

/-- No train whose binding moves holds a Reservation. -/
def FreeToBind (b : PerTrain (Tank × Option Nat)) (s : State) : Prop :=
  ∀ t, (s.train t).reservation = 0 ∨ (s.train t).boundTank = (b.get t).1

theorem bindTrain_bound (t : Train) (binding : Tank × Option Nat) (s : State) :
    ((bindTrain t binding s).train t).reservation = 0 ∨ ((bindTrain t binding s).train t).boundTank = binding.1 := by
  have bound : (onTrain t (fun c => { c with boundTank := binding.1 }) s).train t =
      { s.train t with boundTank := binding.1 } := by simp [onTrain]
  unfold bindTrain
  dsimp only
  split
  · next n row _ =>
    split
    · exact .inr (by rw [bound])
    · obtain ⟨c, rested⟩ | ⟨_, _, lowered⟩ := takeRow_train t n row
        (onTrain t (fun c => { c with boundTank := binding.1 }) s)
      · exact .inl (by rw [rested]; rfl)
      · exact .inr (by rw [lowered.boundTank, bound])
  · split
    · obtain ⟨_, _, same, _⟩ := deselect_train t (onTrain t (fun c => { c with boundTank := binding.1 }) s)
      exact .inr (by rw [same, bound])
    · exact .inr (by rw [bound])

theorem TanksHeld.takeBindings {s : State} (h : TanksHeld s) {b : PerTrain (Tank × Option Nat)} (free : FreeToBind b s) :
    TanksHeld (takeBindings b s) := by
  have all := foldl_keeps (P := fun s => TanksHeld s ∧ FreeToBind b s) (f := fun k t => Machine.bindTrain t (b.get t) k)
    (fun t s k => ⟨k.1.bindTrain t _ (k.2 t), fun u => by
      by_cases hu : u = t
      · rw [hu]
        exact bindTrain_bound ..
      · obtain ⟨_, _, bound, _, reservation⟩ := core_eq_iff.1 ((onlyTrain_bindTrain t (b.get t) s).others u hu)
        rw [bound, reservation]
        exact k.2 u⟩) allTrains ⟨h, free⟩
  exact all.1.quiet ((quiet_noticeTrains ..).trans (quiet_triggerPassIf ..))

/-! ### Every step -/

/-- What an item must meet for the Tanks to stay sound: what it changes holds no Reservation. -/
def FitsTanks (s : State) : ConfigItem → Prop
  | .tankCapacities c => ∀ tank, (s.tank tank).capacity = c.get tank ∨ reservedEnergy s.trains tank = 0
  | .bindings b => FreeToBind b s
  | _ => True

theorem TanksHeld.fits_handed {s : State} (h : TanksHeld s) {i : ConfigItem} (hi : .configItem i ∈ s.raised) :
    FitsTanks s i := by
  have none := h.unreserved (h.items i hi)
  cases i with
  | tankCapacities c => exact fun tank => .inr (reservedEnergy_zero fun t _ => none t)
  | bindings b => exact fun t => .inl (none t)
  | _ => trivial

/-- CONFIGURE refuses an item that would change what is in use (R143, R177). -/
theorem TanksHeld.fits_configured {s : State} (h : TanksHeld s) {i : ConfigItem} (free : configureInUse s i = none) :
    FitsTanks s i := by
  have resting (t : Train) (ht : inUse (s.train t).state = false) : (s.train t).reservation = 0 :=
    (h.reserved t).resolve_right (by simp [ht])
  cases i with
  | tankCapacities c =>
    intro tank
    by_cases same : (s.tank tank).capacity = c.get tank
    · exact .inl same
    · refine .inr (reservedEnergy_zero fun t bound => resting t ?_)
      by_contra working
      simp only [configureInUse] at free
      rw [if_pos] at free
      · cases free
      · simp only [List.any_eq_true, Bool.and_eq_true, decide_eq_true_eq, tankInUse]
        exact ⟨tank, by cases tank <;> simp [allTanks], same, t, mem_allTrains t, bound, by simpa using working⟩
  | bindings b =>
    intro t
    by_cases same : (s.train t).boundTank = (b.get t).1
    · exact .inr same
    · refine .inl (resting t ?_)
      by_contra working
      simp only [configureInUse] at free
      rw [if_pos] at free
      · cases free
      · simp only [List.any_eq_true, Bool.and_eq_true, decide_eq_true_eq]
        exact ⟨t, mem_allTrains t, same, by simpa using working⟩
  | _ => trivial

theorem FitsTanks.quiet {s s' : State} {i : ConfigItem} (h : FitsTanks s i) (q : Quiet s s') : FitsTanks s' i := by
  cases i with
  | tankCapacities c =>
    intro tank
    have tanks : s'.tanks = s.tanks := congrArg Footprint.tanks q.footprint
    have reserved : reservedEnergy s'.trains tank = reservedEnergy s.trains tank := by
      rw [reservedEnergy_eq, reservedEnergy_eq, reservedBy_congr (q.train .k1), reservedBy_congr (q.train .k2),
        reservedBy_congr (q.train .k3)]
    rw [State.tank, tanks, reserved]
    exact h tank
  | bindings b =>
    intro t
    obtain ⟨_, _, bound, _, reservation⟩ := core_eq_iff.1 (q.train t)
    rw [bound, reservation]
    exact h t
  | _ => trivial

theorem mem_reportParts_deposit {line t : Train} {raw : ReportFrame} {status : ReportedStatus} {c : TrainContext}
    {mj temperature : Nat} {tank : Tank}
    (h : .deposit t mj temperature tank ∈ reportParts line raw (clampReport line status raw) c) :
    trainKind t = .compressor ∧ temperature ≤ 8000 := by
  unfold reportParts at h
  split at h
  · next kind =>
    simp only [List.mem_cons, reduceCtorEq, Raised.deposit.injEq, List.not_mem_nil, or_false, false_or] at h
    obtain ⟨rfl, _, rfl, _⟩ := h
    exact ⟨kind, min_le_right _ _⟩
  · simp at h

theorem TanksHeld.parts {s : State} (h : TanksHeld s) (line : Train) (status : ReportedStatus) (raw : ReportFrame)
    (c : TrainContext) : TanksHeld (raiseAll (reportParts line raw (clampReport line status raw) c) s) where
  tank := h.tank
  reserved := h.reserved
  unsurveyed := h.unsurveyed
  unreserved := h.unreserved
  deposits _ _ _ _ hm := (List.mem_append.1 hm).elim (h.deposits _ _ _ _) mem_reportParts_deposit
  items _ hm := h.items _ ((List.mem_append.1 hm).resolve_right mem_reportParts_item)

theorem TanksHeld.handItems {s : State} (h : TanksHeld s) (items : List ConfigItem)
    (loading : s.loader.loadState = .loading) : TanksHeld (raiseAll (items.map Raised.configItem) s) where
  tank := h.tank
  reserved := h.reserved
  unsurveyed := h.unsurveyed
  unreserved := h.unreserved
  deposits _ _ _ _ hm := h.deposits _ _ _ _ ((List.mem_append.1 hm).resolve_right (by simp))
  items _ _ := loading

theorem TanksHeld.endLoad {s : State} (h : TanksHeld s) (none : itemsHanded s = false) :
    TanksHeld (onLoader (fun l => { l with loadState := .ended, judged := false }) s) where
  tank := h.tank
  reserved := h.reserved
  unsurveyed l := by cases l
  unreserved l := by cases l
  deposits := h.deposits
  items i hi := by
    have handed : itemsHanded s = true := List.any_eq_true.2 ⟨_, hi, rfl⟩
    cases none.symm.trans handed

theorem TanksHeld.frame {s s' : State} (h : TanksHeld s) (tanks : s'.tanks = s.tanks) (trains : s'.trains = s.trains)
    (loader : s'.loader = s.loader) (news : News s.raised s'.raised) : TanksHeld s' :=
  h.retank trains (by rw [loader]) news (fun tank => by rw [loader, State.tank, tanks]; exact h.tank tank)
    fun loading tank => by rw [State.tank, tanks]; exact h.unsurveyed loading tank

theorem State.reset_tanksHeld : TanksHeld State.reset := by
  refine ⟨fun tank => ?_, fun t => ?_, fun _ tank => ?_, fun _ t => ?_, fun _ _ _ _ h => ?_, fun _ h => ?_⟩
  · cases tank <;> exact ⟨Nat.zero_le _, trivial, fun _ => rfl, Nat.zero_le _⟩
  · cases t <;> exact .inl rfl
  · cases tank <;> rfl
  · cases t <;> rfl
  · cases h
  · cases h

theorem tanksHeld_kept : Kept TanksHeld FitsTanks where
  quiet q h := h.quiet q
  reset := State.reset_tanksHeld
  evaluate h := h.evaluate
  formSetpoint t left elapsed _ h := h.formSetpoint t left elapsed
  calibrate _ _ h := h.frame (by simp [calibrate]) (by simp [calibrate]) (by simp [calibrate]) (news_reinterpolate (by simp))
  integrate t flow elapsed _ h := h.frame (by simp) (by simp) (by simp) (by simp)
  loss n _ h := h.applyLoss n
  survey _ _ _ h loaded passed := h.survey loaded passed
  deposit _ mj _ tank _ _ h hm hl := by
    obtain ⟨kind, below⟩ := h.deposits _ _ _ _ hm
    exact (h.quiet (quiet_setRaised hl)).depositHeat kind mj below tank
  draw t mj tank _ h := h.drawHeat t mj tank
  grant t q _ h kind working := h.grantCredit t q kind working
  returnAll h := h.returnAll
  resetTrain t _ h := h.release (onlyTrain_resetTrain _ t) (by
    rw [resetTrain_train, TrainContext.reset]
    split <;> rfl)
  takeRow t n row _ h := h.takeRow t n row
  deselect t _ h := h.deselect t
  bind t tank _ h resting := h.bindTank t tank (.inl ((h.reserved t).resolve_right (by simp [resting])))
  rest t into _ h _ := h.release (onlyTrain_moveToRest t into _) (by rw [moveToRest_train]; rfl)
  move t _ _ _ h hm := h.applyMove t hm
  parts line status raw c _ h := h.parts line status raw c
  handItems items _ h loading _ := h.handItems items loading
  endLoad h none := h.endLoad none
  fits_handed _ _ h hi := h.fits_handed hi
  fits_configured _ _ h _ _ free := h.fits_configured free
  fits_quiet _ _ _ q hi := hi.quiet q
  characteristic _ _ h _ := h.frame (by simp) (by simp) (by simp) (news_reinterpolate (.refl _))
  thresholds _ _ h _ := h.frame (by simp) (by simp) (by simp) (news_reinterpolate (.refl _))
  heatConstants k _ h := h.takeHeatConstants k
  capacities _ _ h free := h.takeCapacities free
  rotations _ _ _ h _ := h.frame rfl rfl rfl (.refl _)
  bindings _ _ h free := h.takeBindings free

/-- Settles O59: a deposit and a grant take no more than a Tank has room for, stacks are built in order, and no change of a
Capacity or a Bound Tank meets a Reservation. -/
theorem everyStepKeepsTheTanksSound : Obligations.EveryStepKeepsTheTanksSound := by
  unfold Obligations.EveryStepKeepsTheTanksSound
  intro s t h hs
  exact (tanksSound_iff t).2 (tanksHeld_kept.step ((tanksSound_iff s).1 h) hs)

end Sys2Proof.Machine
end

/-!
O57: every step keeps the Amendment Queue and the ports' counts in agreement.
-/
section
namespace Sys2Proof.Machine

/-! ### What the queue's invariant reads -/

/-- What it reads of a port: how many responses wait, the Outstanding Count, the Dropped Answer mark. -/
def PortLink.tally (l : PortLink) : Nat × Nat × Bool := (l.responses.length, l.outstanding, l.dropped)

/-- What it reads of a state. -/
def State.queueView (s : State) : List Entry × Option Entry × Nat × (Nat × Nat × Bool) × Nat × Nat × Bool :=
  (s.store.queue, s.store.inService, s.store.nextArrival, s.mp.tally, s.sp.tally)

theorem tally_eq_iff {l l' : PortLink} :
    l'.tally = l.tally ↔ l'.responses.length = l.responses.length ∧ l'.outstanding = l.outstanding ∧
      l'.dropped = l.dropped := by
  simp [PortLink.tally]

theorem queueView_eq_iff {s s' : State} :
    s'.queueView = s.queueView ↔ s'.store.queue = s.store.queue ∧ s'.store.inService = s.store.inService ∧
      s'.store.nextArrival = s.store.nextArrival ∧ ∀ p, (s'.link p).tally = (s.link p).tally := by
  have ports : (∀ p, (s'.link p).tally = (s.link p).tally) ↔ s'.mp.tally = s.mp.tally ∧ s'.sp.tally = s.sp.tally :=
    ⟨fun h => ⟨h .mp, h .sp⟩, fun h p => by cases p; exacts [h.1, h.2]⟩
  rw [ports]
  simp [State.queueView]

/-- The Arrival Order and the Passing Counts of the queue and the Entry in Service (R13, R67 to R71). -/
structure Queued (queue : List Entry) (served : Option Entry) (next : Nat) : Prop where
  count : queue.length ≤ 16
  ordered : queue.Pairwise fun a b => a.arrival < b.arrival
  bounds : ∀ e ∈ queue, e.arrival < next ∧ e.passing ≤ 4
  served : ∀ e, served = some e → e.arrival < next ∧ ∀ k ∈ queue, k.arrival ≠ e.arrival

/-- What a port's Outstanding Count counts among entries waiting for their answers and the Entry in Service. -/
def owed (waiting : List Entry) (served : Option Entry) (p : Port) (dropped : Bool) : Nat :=
  (waiting.map Entry.source).count p +
  match served with
  | none => 0
  | some e => if e.source = p ∧ dropped = false then 1 else 0

/-- Each port counts the entries it still has to answer, with room for their answers (R17 to R19). -/
structure LinksSound (waiting : List Entry) (served : Option Entry) (s : State) : Prop where
  outstanding : ∀ p, (s.link p).outstanding = owed waiting served p (s.link p).dropped
  limit : ∀ p, (s.link p).outstanding ≤ 12
  room : ∀ p, (s.link p).responses.length + (s.link p).outstanding ≤ 32
  dropped : ∀ p, (s.link p).dropped = true → ∃ e, served = some e ∧ e.source = p

/-- QueueSound, its clauses named. -/
structure QueueHeld (s : State) : Prop where
  queued : Queued s.store.queue s.store.inService s.store.nextArrival
  links : LinksSound s.store.queue s.store.inService s

theorem counts_eq (s : State) (p : Port) :
    counts s p = owed s.store.queue s.store.inService p (s.link p).dropped := by
  have waiting : (s.store.queue.filter fun e => decide (e.source = p)).length =
      (s.store.queue.map Entry.source).count p := by
    rw [List.count_eq_countP, List.countP_map, List.countP_eq_length_filter]
    rfl
  rw [counts, waiting]
  rfl

theorem queueSound_iff (s : State) : QueueSound s ↔ QueueHeld s := by
  constructor
  · rintro ⟨count, ordered, bounds, served, ports⟩
    refine ⟨⟨count, ordered, bounds, served⟩, ⟨fun p => ?_, fun p => ?_, fun p => ?_, fun p => ?_⟩⟩
    all_goals obtain ⟨outstanding, limit, room, dropped⟩ := ports p
    · rw [outstanding, counts_eq]
    · exact limit
    · exact room
    · exact dropped
  · rintro ⟨⟨count, ordered, bounds, served⟩, ⟨outstanding, limit, room, dropped⟩⟩
    exact ⟨count, ordered, bounds, served, fun p =>
      ⟨by rw [outstanding, counts_eq], limit p, room p, dropped p⟩⟩

/-! ### The ports -/

section
variable {waiting : List Entry} {served : Option Entry} {s s' : State}

theorem LinksSound.congr (h : LinksSound waiting served s) (same : ∀ p, (s'.link p).tally = (s.link p).tally) :
    LinksSound waiting served s' := by
  refine ⟨fun p => ?_, fun p => ?_, fun p => ?_, fun p => ?_⟩
  all_goals obtain ⟨responses, outstanding, dropped⟩ := tally_eq_iff.1 (same p)
  · rw [outstanding, dropped]
    exact h.outstanding p
  · rw [outstanding]
    exact h.limit p
  · rw [responses, outstanding]
    exact h.room p
  · rw [dropped]
    exact h.dropped p

/-- Only the ports the waiting entries came from count. -/
theorem LinksSound.sources (h : LinksSound waiting served s) {waiting' : List Entry}
    (same : (waiting'.map Entry.source).Perm (waiting.map Entry.source)) : LinksSound waiting' served s :=
  { h with outstanding := fun p => by simp only [h.outstanding p, owed, same.count_eq] }

theorem LinksSound.perm (h : LinksSound waiting served s) {waiting' : List Entry} (same : waiting'.Perm waiting) :
    LinksSound waiting' served s :=
  h.sources (same.map _)

/-- A port's link is replaced. -/
theorem LinksSound.setLink (h : LinksSound waiting served s) (p : Port) {l : PortLink} {waiting' : List Entry}
    {served' : Option Entry} (outstanding : l.outstanding = owed waiting' served' p l.dropped)
    (limit : l.outstanding ≤ 12) (room : l.responses.length + l.outstanding ≤ 32)
    (dropped : l.dropped = true → ∃ e, served' = some e ∧ e.source = p)
    (others : ∀ q, q ≠ p → ∀ b, owed waiting' served' q b = owed waiting served q b)
    (marks : ∀ q, q ≠ p → ∀ e, served = some e → e.source = q → served' = some e) :
    LinksSound waiting' served' (s.setLink p l) := by
  have cases {P : Port → PortLink → Prop} (own : P p l) (other : ∀ q, q ≠ p → P q (s.link q)) (q : Port) :
      P q ((s.setLink p l).link q) := by
    by_cases hq : q = p
    · rw [hq, State.link_setLink]
      exact own
    · rw [State.link_setLink_other _ _ _ _ hq]
      exact other q hq
  refine ⟨cases (P := fun q l => l.outstanding = owed waiting' served' q l.dropped) outstanding fun q hq => ?_,
    cases (P := fun _ l => l.outstanding ≤ 12) limit fun q _ => h.limit q,
    cases (P := fun _ l => l.responses.length + l.outstanding ≤ 32) room fun q _ => h.room q,
    cases (P := fun q l => l.dropped = true → ∃ e, served' = some e ∧ e.source = q) dropped fun q hq mark => ?_⟩
  · rw [others q hq]
    exact h.outstanding q
  · obtain ⟨e, he, source⟩ := h.dropped q mark
    exact ⟨e, marks q hq e he source, source⟩

/-- Room for one more answer. -/
def Room (p : Port) (s : State) : Prop := (s.link p).responses.length + (s.link p).outstanding < 32

theorem LinksSound.respond (h : LinksSound waiting served s) {p : Port} (room : Room p s) (tag code : Octet)
    (reply : Reply) : LinksSound waiting served (respond p tag code reply s) := by
  unfold Room at room
  refine h.setLink p (h.outstanding p) (h.limit p) ?_ (h.dropped p) (fun _ _ _ => rfl) fun _ _ _ he _ => he
  simp only [List.length_append, List.length_singleton]
  omega

/-- An answer takes the place its entry was counted for (R18). -/
theorem LinksSound.answerEntry {e : Entry} (h : LinksSound (e :: waiting) served s) (reply : Reply) :
    LinksSound waiting served (answerEntry e reply s) := by
  have counted : owed (e :: waiting) served e.source (s.link e.source).dropped =
      owed waiting served e.source (s.link e.source).dropped + 1 := by
    simp only [owed, List.map_cons, List.count_cons_self]
    omega
  have outstanding := h.outstanding e.source
  have limit := h.limit e.source
  have room := h.room e.source
  rw [counted] at outstanding
  have answered : Machine.answerEntry e reply s = s.setLink e.source { s.link e.source with
      responses := (s.link e.source).responses ++ [{ tag := e.tag, code := e.code, reply := reply }],
      outstanding := (s.link e.source).outstanding - 1 } := by
    unfold Machine.answerEntry Machine.respond
    dsimp only
    rw [State.link_setLink]
    cases e.source <;> rfl
  rw [answered]
  refine h.setLink e.source ?_ ?_ ?_ (h.dropped e.source) (fun q hq b => ?_) fun _ _ _ he _ => he
  · dsimp only
    omega
  · dsimp only
    omega
  · simp only [List.length_append, List.length_singleton]
    omega
  · simp only [owed, List.map_cons, List.count_cons_of_ne (Ne.symm hq)]

theorem LinksSound.answerInService {e : Entry} (h : LinksSound waiting (some e) s) (reply : Reply) :
    LinksSound waiting none (answerInService e reply s) := by
  have others (q : Port) (hq : q ≠ e.source) (b : Bool) : owed waiting none q b = owed waiting (some e) q b := by
    simp [owed, Ne.symm hq]
  have marks (q : Port) (hq : q ≠ e.source) (k : Entry) (hk : some e = some k) (source : k.source = q) :
      (none : Option Entry) = some k := by
    cases hk
    exact absurd source.symm hq
  have unmarked (q : Port) (hq : q ≠ e.source) : (s.link q).dropped = false := by
    by_contra mark
    obtain ⟨k, hk, source⟩ := h.dropped q (by simpa using mark)
    cases marks q hq k hk source
  unfold Machine.answerInService
  split
  · next mark =>
    refine h.setLink e.source ?_ (h.limit _) (h.room _) (by simp) others marks
    have outstanding := h.outstanding e.source
    simpa [owed, mark] using outstanding
  · next mark =>
    have unserved : LinksSound (e :: waiting) none s := by
      refine ⟨fun p => ?_, h.limit, h.room, fun p mark' => ?_⟩
      · rw [h.outstanding p]
        by_cases hp : p = e.source
        · simp [owed, hp, mark]
        · simp [owed, Ne.symm hp]
      · by_cases hp : p = e.source
        · exact absurd (hp ▸ mark') mark
        · cases (unmarked p hp).symm.trans mark'
    exact unserved.answerEntry reply

/-- An entry that goes into service is counted as before. -/
theorem LinksSound.serve {e : Entry} (h : LinksSound (e :: waiting) none s) : LinksSound waiting (some e) s := by
  have unmarked (p : Port) : (s.link p).dropped = false := by
    by_contra mark
    obtain ⟨k, hk, _⟩ := h.dropped p (by simpa using mark)
    cases hk
  refine ⟨fun p => ?_, h.limit, h.room, fun p mark => ?_⟩
  · rw [h.outstanding p, unmarked p]
    by_cases hp : e.source = p
    · simp [owed, hp]
    · simp [owed, hp]
  · cases (unmarked p).symm.trans mark

end

/-! ### Selection -/

/-- An entry of a queue in Arrival Order parts it into the older entries and the younger ones. -/
theorem queue_split {queue : List Entry} (ordered : queue.Pairwise fun a b => a.arrival < b.arrival) {e : Entry}
    (mem : e ∈ queue) : ∃ older younger, queue = older ++ e :: younger ∧ (∀ k ∈ older, k.arrival < e.arrival) ∧
      ∀ k ∈ younger, e.arrival < k.arrival := by
  obtain ⟨older, younger, rfl⟩ := List.append_of_mem mem
  obtain ⟨_, tail, across⟩ := List.pairwise_append.1 ordered
  exact ⟨older, younger, rfl, fun k hk => across k hk e (by simp), (List.pairwise_cons.1 tail).1⟩

/-- The Passing Count of an older entry rises by one. -/
def Entry.passedOver (e : Entry) : Entry := { e with passing := e.passing + 1 }

theorem withoutSelected_split {older younger : List Entry} {e : Entry} (ho : ∀ k ∈ older, k.arrival < e.arrival)
    (hy : ∀ k ∈ younger, e.arrival < k.arrival) :
    withoutSelected e.arrival (older ++ e :: younger) = older.map Entry.passedOver ++ younger := by
  have keepOlder : older.filter (fun k => decide (k.arrival ≠ e.arrival)) = older :=
    List.filter_eq_self.2 fun k hk => decide_eq_true (Nat.ne_of_lt (ho k hk))
  have keepYounger : younger.filter (fun k => decide (k.arrival ≠ e.arrival)) = younger :=
    List.filter_eq_self.2 fun k hk => decide_eq_true (Nat.ne_of_gt (hy k hk))
  rw [withoutSelected, List.filter_append, List.filter_cons, keepOlder, keepYounger]
  simp only [ne_eq, not_true_eq_false, decide_false, Bool.false_eq_true, if_false, List.map_append]
  congr 1
  · exact List.map_congr_left fun k hk => if_pos (ho k hk)
  · exact (List.map_congr_left fun k hk => if_neg (Nat.not_lt.2 (hy k hk).le)).trans (List.map_id _)

/-- What is selected has no older entry that has been passed over four times (R70). -/
theorem pickEntry_spec {queue : List Entry} {e : Entry} (h : pickEntry queue = some e) :
    e ∈ queue ∧ ∀ older younger, queue = older ++ e :: younger → (queue.Pairwise fun a b => a.arrival < b.arrival) →
      ∀ k ∈ older, k.passing < 4 := by
  unfold pickEntry at h
  split at h
  · next k found =>
    cases h
    obtain ⟨_, older, younger, rfl, below⟩ := List.find?_eq_some_iff_append.1 found
    refine ⟨by simp, fun older' younger' same ordered k hk => ?_⟩
    obtain ⟨_, _, across⟩ := List.pairwise_append.1 (same ▸ ordered)
    have before : k ∈ older := by
      have mem : k ∈ older ++ e :: younger := by rw [same]; simp [hk]
      have lt := across k hk e (by simp)
      rcases List.mem_append.1 mem with mem | mem
      · exact mem
      · obtain ⟨_, tail, _⟩ := List.pairwise_append.1 ordered
        rcases List.mem_cons.1 mem with rfl | mem
        · omega
        · have := (List.pairwise_cons.1 tail).1 k mem
          omega
    simpa using below k before
  · next none =>
    have few (k : Entry) (hk : k ∈ queue) : k.passing < 4 := by simpa using List.find?_eq_none.1 none k hk
    have mem : e ∈ queue := by
      split at h
      · next found =>
        cases h
        exact List.mem_of_find?_eq_some found
      · split at h
        · next found =>
          cases h
          exact List.mem_of_find?_eq_some found
        · exact List.mem_of_mem_head? h
    exact ⟨mem, fun older younger same _ k hk => few k (by rw [same]; simp [hk])⟩

/-- A selection leaves the queue in order, and the selected entry is no longer in it. -/
theorem Queued.select {queue : List Entry} {next : Nat} {served : Option Entry} (h : Queued queue served next)
    {e : Entry} (picked : pickEntry queue = some e) :
    Queued (withoutSelected e.arrival queue) none next ∧ Queued (withoutSelected e.arrival queue) (some e) next ∧
      ((e :: withoutSelected e.arrival queue).map Entry.source).Perm (queue.map Entry.source) := by
  obtain ⟨mem, few⟩ := pickEntry_spec picked
  obtain ⟨older, younger, rfl, ho, hy⟩ := queue_split h.ordered mem
  obtain ⟨orderedOlder, tail, across⟩ := List.pairwise_append.1 h.ordered
  have passed := few older younger rfl h.ordered
  rw [withoutSelected_split ho hy]
  have queued : Queued (older.map Entry.passedOver ++ younger) none next := by
    refine ⟨?_, ?_, fun k hk => ?_, nofun⟩
    · have := h.count
      simp only [List.length_append, List.length_cons, List.length_map] at this ⊢
      omega
    · refine List.pairwise_append.2 ⟨List.pairwise_map.2 orderedOlder, (List.pairwise_cons.1 tail).2, ?_⟩
      intro a ha b hb
      obtain ⟨k, hk, rfl⟩ := List.mem_map.1 ha
      exact across k hk b (by simp [hb])
    · rcases List.mem_append.1 hk with hk | hk
      · obtain ⟨a, ha, rfl⟩ := List.mem_map.1 hk
        exact ⟨(h.bounds a (by simp [ha])).1, passed a ha⟩
      · exact h.bounds k (by simp [hk])
  refine ⟨queued, { queued with served := fun k hk => ?_ }, ?_⟩
  · cases hk
    refine ⟨(h.bounds e (by simp)).1, fun a ha => ?_⟩
    rcases List.mem_append.1 ha with ha | ha
    · obtain ⟨b, hb, rfl⟩ := List.mem_map.1 ha
      exact Nat.ne_of_lt (ho b hb)
    · exact Nat.ne_of_gt (hy a ha)
  · have sources : (older.map Entry.passedOver).map Entry.source = older.map Entry.source := by
      rw [List.map_map]
      rfl
    rw [List.map_cons, List.map_append, List.map_append, List.map_cons, sources]
    exact List.perm_middle.symm

/-! ### Service -/

section
variable {s s' : State}

theorem QueueHeld.congr (h : QueueHeld s) (same : s'.queueView = s.queueView) : QueueHeld s' := by
  obtain ⟨queue, served, next, links⟩ := queueView_eq_iff.1 same
  refine ⟨?_, ?_⟩
  · rw [queue, served, next]
    exact h.queued
  · rw [queue, served]
    exact h.links.congr links

theorem Room.congr {p : Port} (h : Room p s) (same : s'.queueView = s.queueView) : Room p s' := by
  obtain ⟨responses, outstanding, _⟩ := tally_eq_iff.1 ((queueView_eq_iff.1 same).2.2.2 p)
  rw [Room, responses, outstanding]
  exact h

theorem QueueHeld.respond (h : QueueHeld s) {p : Port} (room : Room p s) (tag code : Octet) (reply : Reply) :
    QueueHeld (respond p tag code reply s) := by
  have store : (Machine.respond p tag code reply s).store = s.store := by simp
  refine ⟨?_, ?_⟩ <;> rw [store]
  · exact h.queued
  · exact h.links.respond room tag code reply

end

/-- What the service of an entry comes to: it is answered, or goes into service, and the queue and the ports are otherwise
left. -/
inductive Served (e : Entry) (s : State) : State → Prop
  | answered (reply : Reply) (r : State) (same : r.queueView = s.queueView) : Served e s (answerEntry e reply r)
  | screened : Served e s (setInService (some e) s)
  | after {t t' : State} (h : Served e s t) (same : t'.queueView = t.queueView) : Served e s t'

section
variable (e : Entry) (s : State)

variable {e s} in
theorem Served.beginPass {t : State} (h : Served e s t) : Served e s (beginPass t) :=
  h.after (by simp [State.queueView])

variable {e s} in
theorem Served.beginScreen {t : State} (h : Served e s t) (trial : Trial) : Served e s (beginScreen trial t) :=
  h.after (by simp [State.queueView])

variable {e s} in
theorem Served.triggerPass {t : State} (h : Served e s t) : Served e s (triggerPass t) :=
  h.after (by simp [State.queueView])

variable {e s} in
theorem Served.noticeIfActive {t : State} (h : Served e s t) (c : Commitment) : Served e s (noticeIfActive c t) :=
  h.after (by simp [State.queueView])

variable {e s} in
theorem Served.noticeTrains {t : State} (h : Served e s t) (ts : List Train) : Served e s (noticeTrains ts t) :=
  h.after (by simp [State.queueView])

theorem served_answer (reply : Reply) : Served e s (answerEntry e reply s) := .answered reply s rfl

theorem served_enter (q : EnterRequest) : Served e s (serveEnter e q s) := by
  unfold serveEnter
  dsimp only
  split
  · exact served_answer ..
  · split
    · exact Served.beginPass (.answered _ _ rfl)
    · exact Served.screened.beginScreen _

theorem served_removal (reply : Reply) (c : Commitment) : Served e s (serveRemoval e reply c s) := by
  have answered : Served e s (answerEntry e reply (setCommitments (removeRecord c.handle s.store.commitments) s)) :=
    .answered _ _ rfl
  unfold serveRemoval
  dsimp only
  split
  · exact (answered.noticeIfActive c).beginPass
  · exact answered.triggerPass

theorem served_amend (q : AmendRequest) (c : Commitment) : Served e s (serveAmend e q c s) := by
  unfold serveAmend
  dsimp only
  split
  · exact served_answer ..
  · split
    · exact served_answer ..
    · split
      · exact .answered _ _ rfl
      · split
        · exact served_removal ..
        · split
          · refine Served.beginPass (Served.noticeIfActive (.answered _ _ ?_) c)
            rfl
          · exact Served.screened.beginScreen _

theorem served_confirm (c : Commitment) : Served e s (serveConfirm e c s) := by
  unfold serveConfirm
  split
  · exact served_answer ..
  · exact .answered _ _ rfl

theorem served_outage (q : OutageRequest) : Served e s (serveOutage e q s) := by
  have cleared : (removeExpired s.interval s).1.queueView = s.queueView := by simp [State.queueView]
  unfold serveOutage
  dsimp only
  split
  · exact Served.noticeTrains (.answered _ _ cleared) _
  · refine Served.beginPass (Served.noticeTrains (.answered _ _ ?_) _)
    exact cleared

theorem served_retireOutage (h : Nat) : Served e s (serveRetireOutage e h s) := by
  unfold serveRetireOutage
  split
  · exact served_answer ..
  · refine Served.beginPass (Served.noticeTrains (.answered _ _ ?_) _)
    rfl

theorem served_record (h : Nat) {serve : Commitment → State → State} (hs : ∀ c, Served e s (serve c s)) :
    Served e s (serveRecord e h serve s) := by
  unfold serveRecord
  split
  · exact served_answer ..
  · exact hs _

theorem served_entry : Served e s (serveEntry e s) := by
  unfold serveEntry
  split
  · split
    · exact served_enter ..
    · exact served_record e s _ fun c => served_amend e s _ c
    · exact served_record e s _ fun c => served_confirm e s c
    · exact served_record e s _ fun c => served_removal e s _ c
    · exact served_outage ..
    · exact served_retireOutage ..
  · exact served_answer ..

end

/-- The service of an entry taken from the queue keeps queue and counts in agreement. -/
theorem Served.held {e : Entry} {s t : State} (h : Served e s t) (idle : s.store.inService = none)
    (queued : Queued s.store.queue none s.store.nextArrival) (served : Queued s.store.queue (some e) s.store.nextArrival)
    (links : LinksSound (e :: s.store.queue) none s) : QueueHeld t := by
  induction h with
  | answered reply r same =>
    obtain ⟨queue, inService, next, ports⟩ := queueView_eq_iff.1 same
    have store : (answerEntry e reply r).store = r.store := by simp
    refine ⟨?_, ?_⟩ <;> rw [store, queue, inService, idle]
    · rw [next]
      exact queued
    · exact (links.congr ports).answerEntry reply
  | screened => exact ⟨served, (links.serve).congr fun p => by cases p <;> rfl⟩
  | after _ same ih => exact ih.congr same

theorem QueueHeld.serveRounds {s : State} (h : QueueHeld s) (n : Nat) : QueueHeld (serveRounds n s) := by
  induction n generalizing s with
  | zero => exact h
  | succ n ih =>
    unfold Machine.serveRounds
    split
    · exact h
    · next e selected =>
      unfold selectable at selected
      split at selected
      · next may =>
        obtain ⟨idle, _, _⟩ := may
        obtain ⟨queued, served, sources⟩ := h.queued.select selected
        have links := h.links
        rw [idle] at links
        refine ih (QueueHeld.congr ((served_entry e (setQueue (withoutSelected e.arrival s.store.queue) s)).held idle queued served ?_) (by simp [State.queueView]))
        exact (links.sources sources).congr fun p => by cases p <;> rfl
      · cases selected

theorem QueueHeld.serveQueue {s : State} (h : QueueHeld s) : QueueHeld (serveQueue s) := h.serveRounds _

/-! ### Admission -/

/-- An entry at the young end, with the next Arrival Order. -/
theorem Queued.append {queue : List Entry} {served : Option Entry} {next : Nat} (h : Queued queue served next)
    (room : queue.length < 16) {e : Entry} (arrival : e.arrival = next) (passing : e.passing = 0) :
    Queued (queue ++ [e]) served (next + 1) := by
  refine ⟨by simp only [List.length_append, List.length_singleton]; omega, ?_, fun k hk => ?_, fun k hk => ?_⟩
  · refine List.pairwise_append.2 ⟨h.ordered, by simp, fun a ha b hb => ?_⟩
    rw [List.mem_singleton.1 hb, arrival]
    exact (h.bounds a ha).1
  · rcases List.mem_append.1 hk with hk | hk
    · have := h.bounds k hk
      omega
    · rw [List.mem_singleton.1 hk]
      omega
  · obtain ⟨before, apart⟩ := h.served k hk
    refine ⟨by omega, fun a ha => ?_⟩
    rcases List.mem_append.1 ha with ha | ha
    · exact apart a ha
    · rw [List.mem_singleton.1 ha]
      omega

/-- A fresh entry is counted at its port (R17). -/
theorem LinksSound.countIn {waiting : List Entry} {served : Option Entry} {s : State} (h : LinksSound waiting served s)
    {e : Entry} (below : (s.link e.source).outstanding < 12) (room : Room e.source s) :
    LinksSound (waiting ++ [e]) served (s.setLink e.source { s.link e.source with
      outstanding := (s.link e.source).outstanding + 1 }) := by
  have outstanding := h.outstanding e.source
  unfold Room at room
  refine h.setLink e.source ?_ ?_ ?_ (h.dropped e.source) (fun q hq b => ?_) fun _ _ _ he _ => he
  · dsimp only
    rw [outstanding]
    simp only [owed, List.map_append, List.count_append, List.map_cons, List.map_nil, List.count_singleton_self]
    omega
  · exact below
  · dsimp only
    omega
  · simp [owed, Ne.symm hq]

theorem QueueHeld.admitAmendment {s : State} (h : QueueHeld s) {p : Port} (room : Room p s) (tag code : Octet)
    (a : Amendment) : QueueHeld (admitAmendment p tag code a s) := by
  unfold Machine.admitAmendment
  split
  · exact h.respond room ..
  · next below =>
    split
    · exact h.respond room ..
    · next few =>
      dsimp only
      generalize fresh : Entry.mk (classOf a s.store.commitments) p tag code a s.store.nextArrival 0 = e
      obtain rfl : e.source = p := by rw [← fresh]
      have links (store : Store) (q : Port) : (s.setStore store).link q = s.link q := by cases q <;> rfl
      refine QueueHeld.serveQueue ⟨?_, ?_⟩ <;> simp only [State.setLink_store, State.setStore_store]
      · exact h.queued.append (by omega) (by rw [← fresh]) (by rw [← fresh])
      · refine LinksSound.countIn (h.links.congr fun q => by rw [links]) ?_ ?_
        · rw [links]
          omega
        · rw [Room, links]
          exact room

/-! ### The Entry in Service answered -/

theorem Queued.unserved {queue : List Entry} {served : Option Entry} {next : Nat} (h : Queued queue served next) :
    Queued queue none next :=
  { h with served := nofun }

/-- The Entry in Service is answered, and none is in service. -/
theorem QueueHeld.answerInService {s r : State} (h : QueueHeld s) {e : Entry} (served : s.store.inService = some e)
    (same : r.queueView = (setInService none s).queueView) (reply : Reply) : QueueHeld (answerInService e reply r) := by
  obtain ⟨queue, inService, next, ports⟩ := queueView_eq_iff.1 same
  have store : (Machine.answerInService e reply r).store = r.store := by simp
  have links := h.links
  rw [served] at links
  refine ⟨?_, ?_⟩ <;> rw [store, queue, inService]
  · rw [next]
    exact h.queued.unserved
  · refine LinksSound.answerInService (links.congr fun p => ?_) reply
    rw [ports p]
    cases p <;> rfl

theorem QueueHeld.answerServed {s : State} (h : QueueHeld s) (reply : Reply) : QueueHeld (answerServed reply s) := by
  unfold Machine.answerServed
  split
  · exact h
  · next e served => exact h.answerInService served rfl reply

theorem QueueHeld.restartPass {s : State} (h : QueueHeld s) : QueueHeld (restartPass s) := by
  unfold Machine.restartPass
  split
  · exact h.congr (by simp [State.queueView])
  · split
    · next status _ => exact (h.answerServed (.bare status)).congr (by simp [State.queueView])
    · exact h.congr (by simp [State.queueView])

theorem QueueHeld.shiftForBoundary {s : State} (h : QueueHeld s) (b : Boundary) : QueueHeld (shiftForBoundary b s) := by
  unfold Machine.shiftForBoundary
  dsimp only
  split
  · exact h.congr (by simp [State.queueView])
  · exact QueueHeld.restartPass (h.congr (by simp [State.queueView]))

theorem adopt_queueView (rows : List Row) (s : State) : (adopt rows s).queueView = s.queueView := by
  simp [adopt, rewriteMarks, State.queueView]

theorem writeTrial_queueView (t : Trial) (s : State) : (writeTrial t s).queueView = s.queueView := by
  cases t <;> rfl

theorem setInService_queueView {s s' : State} (same : s'.queueView = s.queueView) (e : Option Entry) :
    (setInService e s').queueView = (setInService e s).queueView := by
  simp only [State.queueView, Prod.mk.injEq] at same ⊢
  obtain ⟨queue, _, next, mp, sp⟩ := same
  exact ⟨queue, rfl, next, mp, sp⟩

theorem QueueHeld.decidePass {s : State} (h : QueueHeld s) : QueueHeld (decidePass s) := by
  unfold Machine.decidePass
  split
  · exact h.congr (adopt_queueView ..)
  · next t _ =>
    split
    · next e served =>
      unfold judgeTrial
      dsimp only
      split
      · exact h.answerInService served
          (setInService_queueView ((adopt_queueView ..).trans (writeTrial_queueView ..)) none) _
      · exact h.answerInService served rfl _
    · exact h.congr (by simp [State.queueView])

theorem QueueHeld.completePass {s : State} (h : QueueHeld s) : QueueHeld (completePass s) := by
  unfold Machine.completePass
  split
  · exact h
  · exact QueueHeld.serveQueue (h.decidePass.congr (by simp [State.queueView]))

/-! ### Reset and Link Reset -/

theorem insertByArrival_split (e : Entry) (queue : List Entry) :
    ∃ before after, queue = before ++ after ∧ insertByArrival e queue = before ++ e :: after := by
  induction queue with
  | nil => exact ⟨[], [], rfl, rfl⟩
  | cons a rest ih =>
    unfold insertByArrival
    split
    · exact ⟨[], a :: rest, rfl, rfl⟩
    · obtain ⟨before, after, same, inserted⟩ := ih
      exact ⟨a :: before, after, by rw [same]; rfl, by rw [inserted]; rfl⟩

/-- Queued entries are answered ABORTED one after the other. -/
theorem LinksSound.abortQueued {served counted : Option Entry} {before after : List Entry} {s : State}
    (h : LinksSound (before ++ after) counted s) (apart : ∀ k ∈ before, served ≠ some k) :
    LinksSound after counted (before.foldl (abortEntry served) s) := by
  induction before generalizing s with
  | nil => exact h
  | cons k before ih =>
    have aborted : abortEntry served s k = Machine.answerEntry k (.bare .aborted) s := if_neg (apart k (by simp))
    rw [List.foldl_cons, aborted]
    exact ih (h.answerEntry _) fun j hj => apart j (by simp [hj])

/-- Every entry is answered, the Entry in Service under its mark (R75). -/
theorem LinksSound.abortWaiting {s : State} {st : Store} (queued : Queued st.queue st.inService st.nextArrival)
    (h : LinksSound st.queue st.inService s) :
    LinksSound [] none ((waitingEntries st).foldl (abortEntry st.inService) s) := by
  unfold waitingEntries
  cases served : st.inService with
  | none =>
    rw [served] at h
    exact LinksSound.abortQueued (before := st.queue) (by simpa using h) fun _ _ => nofun
  | some e =>
    rw [served] at h
    obtain ⟨before, after, same, inserted⟩ := insertByArrival_split e st.queue
    have apart (k : Entry) (hk : k ∈ st.queue) : some e ≠ some k := by
      intro same
      cases same
      exact (queued.served e served).2 e hk rfl
    rw [same] at h
    dsimp only
    rw [inserted, List.foldl_append, List.foldl_cons]
    have half := LinksSound.abortQueued (served := some e) h fun k hk => apart k (by rw [same]; simp [hk])
    have own : abortEntry (some e) (before.foldl (abortEntry (some e)) s) e =
        Machine.answerInService e (.bare .aborted) (before.foldl (abortEntry (some e)) s) := if_pos rfl
    rw [own]
    exact LinksSound.abortQueued (before := after) (by simpa using half.answerInService _)
      fun k hk => apart k (by rw [same]; simp [hk])

theorem QueueHeld.abortAll {s : State} (h : QueueHeld s) : QueueHeld (abortAll s) := by
  have store : (Machine.abortAll s).store = { s.store with queue := [], inService := none } := by
    unfold Machine.abortAll
    rw [foldl_frame State.store _ _ _ fun _ _ => by unfold abortEntry; split <;> simp]
    rfl
  refine ⟨?_, ?_⟩ <;> rw [store]
  · exact ⟨Nat.zero_le _, .nil, nofun, nofun⟩
  · exact LinksSound.abortWaiting h.queued (h.links.congr fun p => by cases p <;> rfl)

/-- A Link Reset takes a port's entries out of the queue and its count (R19, R76). -/
theorem QueueHeld.resetLink {s : State} (h : QueueHeld s) (p : Port) : QueueHeld (resetLink p s) := by
  have queued : Queued (s.store.queue.filter fun e => decide (e.source ≠ p)) s.store.inService s.store.nextArrival := by
    obtain ⟨count, ordered, bounds, served⟩ := h.queued
    refine ⟨(List.length_filter_le ..).trans count, ordered.filter _, fun e he => bounds e (List.mem_of_mem_filter he),
      fun e he => ⟨(served e he).1, fun k hk => (served e he).2 k (List.mem_of_mem_filter hk)⟩⟩
  have others (q : Port) (hq : q ≠ p) (b : Bool) :
      owed (s.store.queue.filter fun e => decide (e.source ≠ p)) s.store.inService q b =
        owed s.store.queue s.store.inService q b := by
    simp only [owed, List.count_eq_countP, List.countP_map, List.countP_filter]
    congr 1
    refine List.countP_congr fun e _ => ?_
    simp only [Function.comp_apply, beq_iff_eq, Bool.and_eq_true, decide_eq_true_eq]
    exact ⟨And.left, fun source => ⟨source, fun e => hq (source.symm.trans e)⟩⟩
  have room := h.links.room p
  have links (ended : State) (same : ∀ q, (ended.link q).tally = (s.link q).tally) (l : PortLink)
      (outstanding : l.outstanding = 0) (few : l.responses.length ≤ 32)
      (dropped : l.dropped = match s.store.inService with
        | none => false
        | some e => decide (e.source = p)) :
      LinksSound (s.store.queue.filter fun e => decide (e.source ≠ p)) s.store.inService (ended.setLink p l) := by
    refine (h.links.congr same).setLink p ?_ (by omega) (by omega) (fun mark => ?_) others fun _ _ _ he _ => he
    · rw [outstanding, dropped]
      unfold owed
      have none : ((s.store.queue.filter fun e => decide (e.source ≠ p)).map Entry.source).count p = 0 := by
        simp [List.count_eq_zero]
      rw [none]
      split
      · rfl
      · next e _ => by_cases source : e.source = p <;> simp [source]
    · rw [dropped] at mark
      split at mark
      · cases mark
      · next e he => exact ⟨e, he, of_decide_eq_true mark⟩
  have store : (Machine.resetLink p s).store =
      { s.store with queue := s.store.queue.filter fun e => decide (e.source ≠ p) } := by
    unfold Machine.resetLink
    cases p <;> rfl
  refine ⟨?_, ?_⟩ <;> rw [store]
  · exact queued
  · unfold Machine.resetLink
    cases p with
    | mp => exact links _ (fun q => by cases q <;> rfl) _ rfl ((List.length_take_le ..).trans (by omega)) rfl
    | sp => exact links _ (fun q => by cases q <;> rfl) _ rfl (Nat.zero_le _) rfl

end Sys2Proof.Machine
end

/-!
O57, the walk: each command leaves the queue and the counts, drains a Response Queue, or is one of the operations that keep
them in agreement.
-/
section
namespace Sys2Proof.Machine

/-! ### Operations that leave the queue and the ports' counts -/

section
variable (s : State)

theorem deployOwner_queueView (q : Nat × Nat) : (deployOwner q s).2.queueView = s.queueView := by
  unfold deployOwner deployRecord
  dsimp only
  (repeat' split) <;> simp [State.queueView, setCommitments]

theorem walkFrom_queueView (p : Port) (key : Nat × Nat) : (walkFrom p key s).2.queueView = s.queueView := by
  unfold walkFrom setCursor
  split <;> cases p <;> rfl

theorem walkNextOwner_queueView (p : Port) : (walkNextOwner p s).2.queueView = s.queueView := by
  unfold walkNextOwner
  split
  · rfl
  · exact walkFrom_queueView ..

theorem claimOwner_queueView (p : Port) : (claimOwner p s).2.queueView = s.queueView := by
  unfold claimOwner
  split <;> rfl

theorem releaseOwner_queueView (p : Port) : (releaseOwner p s).2.queueView = s.queueView := by
  unfold releaseOwner
  split <;> rfl

theorem forceOwner_queueView : (forceOwner s).2.queueView = s.queueView := by
  unfold forceOwner
  split <;> rfl

theorem selectOwner_queueView (q : Train × Nat) : (selectOwner q s).2.queueView = s.queueView := by
  unfold selectOwner
  dsimp only
  (repeat' split) <;> simp [State.queueView]

theorem reloadTrain_queueView (t : Train) : (reloadTrain s t).queueView = s.queueView := by
  unfold reloadTrain
  (repeat' split) <;> simp [State.queueView]

theorem reloadOwner_queueView : (reloadOwner s).2.queueView = s.queueView := by
  unfold reloadOwner
  dsimp only
  split
  · rfl
  · refine Eq.trans ?_ (foldl_frame State.queueView reloadTrain allTrains s reloadTrain_queueView)
    simp [State.queueView]

theorem amendEnvelopeOwner_queueView (q : Nat × Descriptor) : (amendEnvelopeOwner q s).2.queueView = s.queueView := by
  unfold amendEnvelopeOwner
  dsimp only
  (repeat' split) <;> simp [State.queueView]

theorem bindOwner_queueView (q : Train × Tank) : (bindOwner q s).2.queueView = s.queueView := by
  unfold bindOwner
  dsimp only
  (repeat' split) <;> simp [State.queueView]

theorem restoreOwner_queueView (t : Train) : (restoreOwner t s).2.queueView = s.queueView := by
  unfold restoreOwner
  split <;> simp [State.queueView]

theorem calibrateOwner_queueView (p : Nat) : (calibrateOwner p s).2.queueView = s.queueView := by
  unfold calibrateOwner calibrate
  split <;> simp [State.queueView]

theorem surveyOwner_queueView (q : Tank × List (Nat × Nat)) : (surveyOwner q s).2.queueView = s.queueView := by
  unfold surveyOwner
  dsimp only
  split <;> simp [State.queueView]

theorem raiseBoundary_queueView (b : Boundary) : (raiseBoundary b s).queueView = s.queueView := by
  simp [raiseBoundary, State.queueView]

theorem setClockTo_queueView (day second : Nat) : (setClockTo day second s).queueView = s.queueView := by
  unfold setClockTo raiseMove raiseBoundary
  dsimp only
  (repeat' split) <;> simp [State.queueView]

theorem setTimeOwner_queueView (q : Nat × Nat) : (setTimeOwner q s).2.queueView = s.queueView := by
  unfold setTimeOwner
  (repeat' split) <;> simp [setClockTo_queueView]

theorem startDispatchOwner_queueView : (startDispatchOwner s).2.queueView = s.queueView := by
  unfold startDispatchOwner setMode
  (repeat' split) <;> simp [State.queueView]

theorem stopDispatchOwner_queueView : (stopDispatchOwner s).2.queueView = s.queueView := by
  unfold stopDispatchOwner setMode
  split <;> simp [State.queueView]

theorem resetDispatchOwner_queueView : (resetDispatchOwner s).2.queueView = s.queueView := by
  unfold resetDispatchOwner
  split <;> simp [State.queueView]

theorem configureItem_queueView (i : ItemId) (words : List Nat) :
    (configureItem i words s).2.queueView = s.queueView := by
  unfold configureItem configureReply
  (repeat' split) <;> simp [State.queueView]

theorem configureOwner_queueView (q : Nat × List Nat) : (configureOwner q s).2.queueView = s.queueView := by
  unfold configureOwner
  (repeat' split) <;> first | rfl | exact configureItem_queueView ..

theorem clearOwner_queueView (n : Nat) : (clearOwner n s).2.queueView = s.queueView := by
  unfold clearOwner
  split <;> rfl

theorem maskOwner_queueView (p : Port) (n : Nat) : (maskOwner p n s).2.queueView = s.queueView := by
  unfold maskOwner
  split
  · rfl
  · cases p <;> rfl

theorem drawHeat_queueView (t : Train) (h : Nat) (tank : Tank) : (drawHeat t h tank s).queueView = s.queueView := by
  unfold drawHeat recordUnderdraw
  dsimp only
  (repeat' split) <;> simp [State.queueView]

theorem judgeReport_queueView (line : Train) (raw : ReportFrame) : (judgeReport line raw s).queueView = s.queueView := by
  unfold judgeReport takeReport
  (repeat' split) <;> simp [State.queueView]

theorem advanceClock_queueView : (advanceClock s).queueView = s.queueView := by
  unfold advanceClock raiseBoundary
  dsimp only
  split <;> simp [State.queueView]

theorem settleBoundary_queueView (b : Boundary) : (settleBoundary b s).queueView = s.queueView := by
  unfold settleBoundary
  dsimp only
  split <;> simp [State.queueView]

theorem lossForBoundary_queueView (b : Boundary) : (lossForBoundary b s).queueView = s.queueView := by
  unfold lossForBoundary
  split <;> simp [State.queueView]

theorem deliver_queueView (c : Option Instr) : (deliver c s).queueView = s.queueView := by
  unfold deliver
  split <;> rfl

theorem takeArrival_queueView (a : Arrival) : (takeArrival a s).queueView = s.queueView := by
  cases a with
  | marketCharacter c => exact (deliver_queueView ..).trans rfl
  | marketBreak => exact deliver_queueView ..
  | supervisoryOctet octet =>
    unfold takeArrival clockTransaction
    rfl
  | supervisoryRelease => exact (deliver_queueView ..).trans rfl
  | trainCharacter line c => exact (deliver_queueView ..).trans rfl
  | trainBreak line => exact deliver_queueView ..

theorem evaluateRow_queueView : (evaluateRow s).queueView = s.queueView := by
  unfold evaluateRow
  (repeat' split) <;> simp [State.queueView]

end

/-! ### Every command -/

section
variable {s : State} (h : QueueHeld s)
include h

/-- Responses may leave a port's queue. -/
theorem QueueHeld.drain {s' : State} (store : s'.store = s.store)
    (links : ∀ p, (s'.link p).outstanding = (s.link p).outstanding ∧ (s'.link p).dropped = (s.link p).dropped ∧
      (s'.link p).responses.length ≤ (s.link p).responses.length) : QueueHeld s' := by
  refine ⟨by rw [store]; exact h.queued, ?_⟩
  rw [store]
  refine ⟨fun p => ?_, fun p => ?_, fun p => ?_, fun p => ?_⟩
  all_goals obtain ⟨outstanding, dropped, responses⟩ := links p
  · rw [outstanding, dropped]
    exact h.links.outstanding p
  · rw [outstanding]
    exact h.links.limit p
  · have := h.links.room p
    omega
  · rw [dropped]
    exact h.links.dropped p

theorem QueueHeld.endTransaction (clocked : Nat) : QueueHeld (endTransaction clocked s) := by
  refine h.drain rfl fun p => ?_
  cases p with
  | mp => exact ⟨rfl, rfl, le_refl _⟩
  | sp =>
    refine ⟨rfl, rfl, ?_⟩
    show (responsesLeft clocked s).length ≤ s.sp.responses.length
    unfold responsesLeft
    split
    · exact Nat.zero_le _
    · next held =>
      rw [held]
      split <;> simp

theorem QueueHeld.receive (via : Via) (octets : Nat) : QueueHeld (receive via octets s) := by
  cases via with
  | mp => exact h.congr rfl
  | sp extra => exact h.endTransaction _

theorem QueueHeld.takeRequest {α : Type} {code : Octet} {ports : Port → Bool} {fields : Parser α}
    {owner : Port → Octet → α → State → State} {f : Frame}
    (ho : ∀ p tag a r, QueueHeld r → Room p r → QueueHeld (owner p tag a r)) :
    QueueHeld (takeRequest code ports fields owner f s) := by
  have hr : QueueHeld (received f s) := h.receive ..
  have roomy (hroom : hasRoom (viaPort f.via) (received f s) = true) : Room (viaPort f.via) (received f s) :=
    by simpa [hasRoom, Room] using hroom
  obtain e | ⟨room, reply, e⟩ | ⟨room, _, a, _, e⟩ := takeRequest_cases code ports fields owner f s
  · rw [e]; exact hr
  · rw [e]; exact hr.respond (roomy room) ..
  · rw [e]; exact ho _ _ a _ hr (roomy room)

theorem QueueHeld.atOnce {α : Type} {code : Octet} {ports : Port → Bool} {fields : Parser α}
    {owner : Port → α → State → Reply × State} {f : Frame} (ho : ∀ p a r, (owner p a r).2.queueView = r.queueView) :
    QueueHeld (atOnce code ports fields owner f s) :=
  h.takeRequest fun p _ a r hr room => (hr.congr (ho p a r)).respond (room.congr (ho p a r)) ..

theorem QueueHeld.lookup {α : Type} {code : Octet} {fields : Parser α} {answer : α → State → Reply} {f : Frame} :
    QueueHeld (lookup code fields answer f s) :=
  h.atOnce fun _ _ _ => rfl

theorem QueueHeld.handleRaised {β : Type} {pick : Raised → Option β} {handle : β → State → State}
    (hh : ∀ event r, QueueHeld r → QueueHeld (handle event r)) : QueueHeld (handleRaised pick handle s) := by
  obtain e | ⟨event, left, _, _, e⟩ := handleRaised_cases pick handle s
  · rw [e]; exact h
  · rw [e]; exact hh event _ (h.congr rfl)

theorem QueueHeld.quietRaised {β : Type} {pick : Raised → Option β} {handle : β → State → State}
    (hh : ∀ event r, (handle event r).queueView = r.queueView) : QueueHeld (Machine.handleRaised pick handle s) :=
  h.handleRaised fun event r hr => hr.congr (hh event r)

theorem QueueHeld.scheduleChange {p : Port} (room : Room p s) (code tag : Octet) (a : Amendment)
    (own : State → Option Reply) : QueueHeld (scheduleChange code p tag a own s) := by
  unfold Machine.scheduleChange
  split
  · exact h.respond room ..
  · split
    · exact h.respond room ..
    · exact h.admitAmendment room ..

theorem QueueHeld.amendOwner {p : Port} (room : Room p s) (tag : Octet) (q : AmendRequest) :
    QueueHeld (amendOwner p tag q s) := by
  unfold Machine.amendOwner previewAmend
  split
  · exact h.respond room ..
  · exact h.scheduleChange room ..

theorem QueueHeld.enterOutageOwner {p : Port} (room : Room p s) (tag : Octet) (q : OutageRequest) :
    QueueHeld (enterOutageOwner p tag q s) := by
  unfold Machine.enterOutageOwner
  split
  · exact h.respond room ..
  · exact h.admitAmendment room ..

theorem QueueHeld.retireOutageOwner {p : Port} (room : Room p s) (tag : Octet) (handle : Nat) :
    QueueHeld (retireOutageOwner p tag handle s) := by
  unfold Machine.retireOutageOwner
  split
  · exact h.respond room ..
  · split
    · exact h.respond room ..
    · exact h.admitAmendment room ..

end

theorem State.reset_queueHeld : QueueHeld State.reset := by
  refine ⟨⟨Nat.zero_le _, .nil, nofun, nofun⟩, ⟨fun p => ?_, fun p => ?_, fun p => ?_, fun p => ?_⟩⟩
  · cases p <;> rfl
  · cases p <;> exact Nat.zero_le _
  · cases p <;> exact Nat.zero_le _
  · cases p <;> nofun

/-- Every command keeps queue and counts in agreement. -/
theorem QueueHeld.exec {s t : State} (h : QueueHeld s) (c : Instr) (he : exec c s = .next t) : QueueHeld t := by
  cases c <;> cases he
  case powerOn => exact State.reset_queueHeld.congr rfl
  case loadEnd memory => split <;> exact h.congr (by simp [State.queueView])
  case configItemTaken i => exact h.quietRaised fun _ _ => by simp [State.queueView]
  case clockAdvance =>
    have second : QueueHeld (finishSecond s) := h.congr (by simp [finishSecond, State.queueView])
    split
    · exact second.congr (advanceClock_queueView _)
    · exact second
  case commitmentBoundary => exact h.quietRaised fun b r => settleBoundary_queueView r b
  case horizonShift => exact h.handleRaised fun b _ hr => hr.shiftForBoundary b
  case standingLoss => exact h.quietRaised fun b r => lossForBoundary_queueView r b
  case intervalClose => exact h.quietRaised fun _ _ => by simp [State.queueView]
  case imbalanceDelivery => exact h.quietRaised fun _ _ => rfl
  case enter f => exact h.takeRequest fun _ _ _ _ hr room => hr.scheduleChange room ..
  case amend f => exact h.takeRequest fun _ _ _ _ hr room => hr.amendOwner room ..
  case amendPreview f => exact h.takeRequest fun _ _ _ _ hr room => hr.amendOwner room ..
  case confirm f => exact h.takeRequest fun _ _ _ _ hr room => hr.scheduleChange room ..
  case retire f => exact h.takeRequest fun _ _ _ _ hr room => hr.scheduleChange room ..
  case deploy f => exact h.atOnce fun _ q r => deployOwner_queueView r q
  case lookupCommitment f => exact h.lookup
  case walkFirst f => exact h.atOnce fun p _ r => walkFrom_queueView r p _
  case walkNext f => exact h.atOnce fun p _ r => walkNextOwner_queueView r p
  case claim f => exact h.atOnce fun p _ r => claimOwner_queueView r p
  case release f => exact h.atOnce fun p _ r => releaseOwner_queueView r p
  case force f => exact h.atOnce fun _ _ r => forceOwner_queueView r
  case lookupRow f => exact h.lookup
  case lookupHorizon f => exact h.lookup
  case enterOutage f => exact h.takeRequest fun _ _ _ _ hr room => hr.enterOutageOwner room ..
  case retireOutage f => exact h.takeRequest fun _ _ _ _ hr room => hr.retireOutageOwner room ..
  case lookupOutage f => exact h.lookup
  case lookupTrain f => exact h.lookup
  case lookupEnvelope f => exact h.lookup
  case selectEnvelope f => exact h.atOnce fun _ q r => selectOwner_queueView r q
  case reloadEnvelopes f => exact h.atOnce fun _ _ r => reloadOwner_queueView r
  case amendEnvelope f => exact h.atOnce fun _ q r => amendEnvelopeOwner_queueView r q
  case bindTank f => exact h.atOnce fun _ q r => bindOwner_queueView r q
  case restoreTrain f => exact h.atOnce fun _ t r => restoreOwner_queueView r t
  case lookupCavern f => exact h.lookup
  case calibrate f => exact h.atOnce fun _ p r => calibrateOwner_queueView r p
  case lookupTank f => exact h.lookup
  case surveyTank f => exact h.atOnce fun _ q r => surveyOwner_queueView r q
  case setTime f => exact h.atOnce fun _ q r => setTimeOwner_queueView r q
  case startDispatch f => exact h.atOnce fun _ _ r => startDispatchOwner_queueView r
  case stopDispatch f => exact h.atOnce fun _ _ r => stopDispatchOwner_queueView r
  case resetDispatch f => exact h.atOnce fun _ _ r => resetDispatchOwner_queueView r
  case commitmentStoreReset => exact h.handleRaised fun _ _ hr => hr.abortAll
  case projectorReset => exact h.quietRaised fun _ _ => by simp [State.queueView]
  case heatStoreReset => exact h.quietRaised fun _ _ => rfl
  case trainUnitReset => exact h.quietRaised fun _ _ => by simp [State.queueView]
  case configure f => exact h.atOnce fun _ q r => configureOwner_queueView r q
  case lookupPlant f => exact h.atOnce fun _ _ _ => rfl
  case lookupConditions f => exact h.lookup
  case clearConditions f => exact h.atOnce fun _ n r => clearOwner_queueView r n
  case setAlertMask f => exact h.atOnce fun p n r => maskOwner_queueView r p n
  case unknownCode code f =>
    have hr : QueueHeld (received f s) := h.receive ..
    split
    · next room => exact hr.respond (by simpa [hasRoom, Room] using room) ..
    · exact hr
  case badCheckFrame via octets => exact h.receive ..
  case taintedFrame octets => exact h.congr rfl
  case linkReset p => exact h.resetLink p
  case spIdleTransaction octets => exact h.endTransaction _
  case responseSent =>
    refine h.drain rfl fun p => ?_
    cases p with
    | mp => exact ⟨rfl, rfl, (List.length_drop ..).le.trans (Nat.sub_le _ _)⟩
    | sp => exact ⟨rfl, rfl, le_refl _⟩
  case passCompletion => exact h.completePass
  case trainReport line raw => exact h.congr ((judgeReport_queueView ..).trans rfl)
  case trainFrameDiscarded line octets e => exact h.congr rfl
  case massIntegration t => exact h.quietRaised fun _ _ => by simp [State.queueView]
  case heatDeposit t => exact h.quietRaised fun _ _ => by simp [State.queueView]
  case heatDraw t => exact h.quietRaised fun _ r => drawHeat_queueView r ..
  case heatCreditGrant t q => split <;> exact h.congr (by simp [State.queueView])
  case setpointFormation t => exact h.quietRaised fun _ _ => by simp [State.queueView]
  case activeFirmNotice => exact h.quietRaised fun _ _ => by simp [State.queueView]
  case bandNotice => exact h.quietRaised fun _ _ => by simp [State.queueView]
  case topNotice tank => exact h.quietRaised fun _ _ => by simp [State.queueView]
  case trainNotice t => exact h.quietRaised fun _ _ => by simp [State.queueView]
  case startLimitExpiry t => split <;> exact h.congr (by simp [State.queueView])
  case silenceTimeout t => split <;> exact h.congr (by simp [State.queueView])
  case orderSent line => exact h.congr rfl
  case shortLengthFrame length => exact h.congr rfl
  case trainLinkBreak line => exact h.congr rfl

theorem QueueHeld.step {s t : State} (h : QueueHeld s) (hs : step s = .next t) : QueueHeld t := by
  unfold Machine.step at hs
  split at hs
  · next rest _ => exact QueueHeld.exec (s := s.setPending rest) (h.congr rfl) _ hs
  · split at hs
    · cases hs
      exact QueueHeld.congr (h.congr rfl) (takeArrival_queueView ..)
    · split at hs
      · exact h.exec _ hs
      · cases hs
        exact h.congr (evaluateRow_queueView _)

/-- Settles O57: an entry is counted at its port from its admission to its answer, and an answer takes the place it was
counted for; a request is answered at once only where there is room. -/
theorem everyStepKeepsTheQueueSound : Obligations.EveryStepKeepsTheQueueSound := by
  unfold Obligations.EveryStepKeepsTheQueueSound
  intro s t h hs
  exact (queueSound_iff t).2 (((queueSound_iff s).1 h).step hs)

/-- Settles O56. -/
theorem theInvariantsHoldAtReset : Obligations.TheInvariantsHoldAtReset := by
  unfold Obligations.TheInvariantsHoldAtReset
  exact ⟨(queueSound_iff _).2 State.reset_queueHeld, State.reset_cavernSound,
    (tanksSound_iff _).2 State.reset_tanksHeld, State.reset_setpointsSound⟩

end Sys2Proof.Machine
end

/-!
What an evaluation leaves, step by step (R185): the Dispatcher's fields, and each train's context and link.
-/
section
namespace Sys2Proof.Machine

/-! ### The Dispatcher's fields -/

/-- The Dispatcher with the Duty Rotations of another. -/
def Dispatcher.rotated (d d' : Dispatcher) : Dispatcher :=
  { d with compressorRotation := d'.compressorRotation, expanderRotation := d'.expanderRotation }

theorem startDecisions_dispatcher (k : TrainKind) (n : Nat) (s : State) :
    (startDecisions k n s).dispatcher = s.dispatcher.rotated (startDecisions k n s).dispatcher := by
  induction n generalizing s with
  | zero => rfl
  | succ n ih =>
    unfold startDecisions
    dsimp only
    split
    · split
      · rfl
      · rw [ih]
        cases k <;> simp [onDispatcher, Dispatcher.setRotation, Dispatcher.rotated]
    · rfl

theorem decideTrains_dispatcher (s : State) :
    (decideTrains s).dispatcher = s.dispatcher.rotated (decideTrains s).dispatcher := by
  unfold decideTrains
  split
  · next k _ _ =>
    have started := startDecisions_dispatcher k 3 (stopDecisions k 3 s)
    simpa using started
  · simp [Dispatcher.rotated]

/-- The state after steps 1 to 4 of an evaluation. -/
def decidedState (s : State) : State := decideTrains (settleDirection (takeTarget s))

theorem evaluate_eq (s : State) : evaluate s = testStop (takeScheduleValue (lowerAll (decidedState s))) := rfl

theorem decidedState_dispatcher (s : State) :
    (decidedState s).dispatcher =
      (settleDirection (takeTarget s)).dispatcher.rotated (decidedState s).dispatcher :=
  decideTrains_dispatcher _

@[simp] theorem takeScheduleValue_trains (s : State) :
    (takeScheduleValue s).trains = s.trains ∧ (takeScheduleValue s).trainLinks = s.trainLinks := by
  unfold takeScheduleValue
  dsimp only
  split <;> exact ⟨rfl, rfl⟩

@[simp] theorem testStop_trains (s : State) :
    (testStop s).trains = s.trains ∧ (testStop s).trainLinks = s.trainLinks := by
  unfold testStop
  split <;> exact ⟨rfl, rfl⟩

theorem evaluate_train (s : State) (t : Train) : (evaluate s).train t = (lowerIfAbove (decidedState s) t).train t := by
  rw [← (lowerAll_sameTrain (decidedState s) t).train]
  exact train_congr (by simp [evaluate_eq]) t

theorem evaluate_link (s : State) (t : Train) :
    (evaluate s).trainLinks.get t = (lowerIfAbove (decidedState s) t).trainLinks.get t := by
  rw [← (lowerAll_sameTrain (decidedState s) t).link]
  simp [evaluate_eq]

theorem stopCondition_congr {s s' : State} (h : s'.trains = s.trains) : stopCondition s' = stopCondition s := by
  simp [stopCondition, train_congr h]

/-- What step 6 leaves of the Dispatcher. -/
theorem takeScheduleValue_keeps (s : State) :
    (takeScheduleValue s).dispatcher.mode = s.dispatcher.mode ∧
    (takeScheduleValue s).dispatcher.direction = s.dispatcher.direction ∧
    (takeScheduleValue s).dispatcher.delivered = s.dispatcher.delivered ∧
    (takeScheduleValue s).dispatcher.openInterval = s.dispatcher.openInterval ∧
    ∀ k, (takeScheduleValue s).dispatcher.rotation k = s.dispatcher.rotation k := by
  unfold takeScheduleValue
  dsimp only
  split <;> exact ⟨rfl, rfl, rfl, rfl, fun k => by cases k <;> rfl⟩

theorem testStop_dispatcher (s : State) :
    (testStop s).dispatcher = { s.dispatcher with
      mode := if s.dispatcher.mode = .stopping ∧ stopCondition s then .standby else s.dispatcher.mode } := by
  unfold testStop
  split <;> rfl

theorem testStop_rotation (s : State) (k : TrainKind) :
    (testStop s).dispatcher.rotation k = s.dispatcher.rotation k := by
  rw [testStop_dispatcher]
  cases k <;> rfl

theorem testStop_segment (s : State) :
    (testStop s).dispatcher.scheduled = s.dispatcher.scheduled ∧
    (testStop s).dispatcher.scheduledMark = s.dispatcher.scheduledMark := by
  rw [testStop_dispatcher]
  exact ⟨rfl, rfl⟩

theorem Dispatcher.rotated_rotation (d d' : Dispatcher) (k : TrainKind) : (d.rotated d').rotation k = d'.rotation k := by
  cases k <;> rfl

theorem takeScheduleValue_segment (s : State) :
    (takeScheduleValue s).dispatcher.scheduled =
      (if scheduleValueOf s.store.commitments = s.dispatcher.scheduleValue then s.dispatcher.scheduled
       else holdEnergy (s.dispatcher.scheduled +
         s.dispatcher.scheduleValue * ((s.tables.millis - s.dispatcher.scheduledMark : Nat) : Int))) ∧
    (takeScheduleValue s).dispatcher.scheduledMark =
      (if scheduleValueOf s.store.commitments = s.dispatcher.scheduleValue then s.dispatcher.scheduledMark
       else s.tables.millis) := by
  unfold takeScheduleValue
  dsimp only
  split <;> exact ⟨rfl, rfl⟩

/-- The Dispatcher before step 6 of an evaluation. -/
theorem lowerAll_decided_dispatcher (s : State) :
    (lowerAll (decidedState s)).dispatcher =
      (settleDirection (takeTarget s)).dispatcher.rotated (decidedState s).dispatcher :=
  (lowerAll_frame _).2.2.2.2.2.2.2.2.2.2.1.trans (decidedState_dispatcher s)

section
variable (s : State)

/-- STOPPING ends with the Stop Condition, judged after the lowerings. -/
theorem evaluate_mode : (evaluate s).dispatcher.mode =
    if s.dispatcher.mode = .stopping ∧ stopCondition (evaluate s) then .standby else s.dispatcher.mode := by
  have trains : (evaluate s).trains = (takeScheduleValue (lowerAll (decidedState s))).trains := by simp [evaluate_eq]
  rw [stopCondition_congr trains, evaluate_eq, testStop_dispatcher]
  have mode : (takeScheduleValue (lowerAll (decidedState s))).dispatcher.mode = s.dispatcher.mode := by
    rw [(takeScheduleValue_keeps _).1, lowerAll_decided_dispatcher]
    rfl
  simp only [mode]

theorem evaluate_direction :
    (evaluate s).dispatcher.direction = directionOf (evaluate s).dispatcher.target (heldKind s) := by
  rw [evaluate_target, evaluate_eq, testStop_dispatcher]
  dsimp only
  rw [(takeScheduleValue_keeps _).2.1, lowerAll_decided_dispatcher]
  rfl

theorem evaluate_delivered : (evaluate s).dispatcher.delivered = s.dispatcher.delivered := by
  rw [evaluate_eq, testStop_dispatcher]
  dsimp only
  rw [(takeScheduleValue_keeps _).2.2.1, lowerAll_decided_dispatcher]
  rfl

theorem evaluate_openInterval : (evaluate s).dispatcher.openInterval = s.dispatcher.openInterval := by
  rw [evaluate_eq, testStop_dispatcher]
  dsimp only
  rw [(takeScheduleValue_keeps _).2.2.2.1, lowerAll_decided_dispatcher]
  rfl

theorem evaluate_rotation (k : TrainKind) :
    (evaluate s).dispatcher.rotation k = (decidedState s).dispatcher.rotation k := by
  rw [evaluate_eq, testStop_rotation, (takeScheduleValue_keeps _).2.2.2.2 k, lowerAll_decided_dispatcher,
    Dispatcher.rotated_rotation]

/-- Step 6: an unchanged C leaves the segment open; a changed one closes it under the old C (R185, R197). -/
theorem evaluate_segment :
    (evaluate s).dispatcher.scheduled =
      (if scheduleValueOf s.store.commitments = s.dispatcher.scheduleValue then s.dispatcher.scheduled
       else holdEnergy (s.dispatcher.scheduled +
         s.dispatcher.scheduleValue * ((s.tables.millis - s.dispatcher.scheduledMark : Nat) : Int))) ∧
    (evaluate s).dispatcher.scheduledMark =
      (if scheduleValueOf s.store.commitments = s.dispatcher.scheduleValue then s.dispatcher.scheduledMark
       else s.tables.millis) := by
  have store : (lowerAll (decidedState s)).store = s.store := by simp [decidedState]
  have tables : (lowerAll (decidedState s)).tables = s.tables := by simp [decidedState]
  have segment := takeScheduleValue_segment (lowerAll (decidedState s))
  have value : (lowerAll (decidedState s)).dispatcher.scheduleValue = s.dispatcher.scheduleValue := by
    rw [lowerAll_decided_dispatcher]
    rfl
  have held : (lowerAll (decidedState s)).dispatcher.scheduled = s.dispatcher.scheduled := by
    rw [lowerAll_decided_dispatcher]
    rfl
  have mark : (lowerAll (decidedState s)).dispatcher.scheduledMark = s.dispatcher.scheduledMark := by
    rw [lowerAll_decided_dispatcher]
    rfl
  rw [store, tables, value, held, mark] at segment
  rw [evaluate_eq, (testStop_segment _).1, (testStop_segment _).2]
  exact segment

end

/-- An evaluation changes the Train Contexts, the train links and the Dispatcher alone. -/
theorem evaluate_changes (s : State) :
    evaluate s = { s with
      trains := (evaluate s).trains, trainLinks := (evaluate s).trainLinks
      dispatcher := (evaluate s).dispatcher } := by
  have frame := evaluate_frame s
  generalize evaluate s = e at frame ⊢
  cases e
  cases s
  simp_all

/-! ### The shares -/

/-- Each train is given its Share, or 0. -/
theorem writeShares_train (shares : List (Train × Nat)) (s : State) (t : Train) :
    (writeShares shares s).train t = { s.train t with share := (shares.lookup t).getD 0 } := by
  cases t <;> rfl

theorem settleDirection_train (s : State) (t : Train) : (settleDirection (takeTarget s)).train t = s.train t := rfl

/-- Without an Active Kind in DISPATCHING nothing is decided. -/
theorem decideTrains_idle {s : State}
    (h : ∀ k, s.dispatcher.mode = .dispatching → activeKind s.dispatcher.direction ≠ some k) :
    decideTrains s = writeShares [] s := by
  unfold decideTrains
  split
  · next k mode active => exact absurd active (h k mode)
  · rfl

theorem decideTrains_active {s : State} {k : TrainKind} (mode : s.dispatcher.mode = .dispatching)
    (active : activeKind s.dispatcher.direction = some k) :
    decideTrains s = writeShares (sharesOf (startDecisions k 3 (stopDecisions k 3 s)) k)
      (startDecisions k 3 (stopDecisions k 3 s)) := by
  rw [decideTrains, mode, active]

/-! ### A lowering -/

/-- A lowering writes the Setpoint, the Reservation and the HEAT_CREDIT_LIMIT of its train. -/
def TrainContext.settled (c l : TrainContext) : TrainContext :=
  { c with setpoint := l.setpoint, reservation := l.reservation, creditLimit := l.creditLimit }

theorem writeLowered_train (t : Train) (v : Nat) (s : State) :
    (writeLowered t v s).train t = (s.train t).settled ((writeLowered t v s).train t) := by
  unfold writeLowered
  split
  · simp [onTrain, TrainContext.settled]
  · unfold limitByCredit partialReturn
    dsimp only
    split <;> simp [TrainContext.settled]

/-- A RUNNING train below its min load unloads (R165). -/
def UnloadsBelowMin (c : TrainContext) (setpoint : Nat) : Prop :=
  c.state = .running ∧ ∃ sel, c.selection = some sel ∧ setpoint < sel.descriptor.minLoad

theorem unloadBelowMin_unloads {t : Train} {s : State} (h : UnloadsBelowMin (s.train t) (s.train t).setpoint) :
    unloadBelowMin t s = s.setTrain t ((s.train t).unload (s.train t).setpoint) := by
  obtain ⟨running, sel, selected, below⟩ := h
  unfold unloadBelowMin
  simp only [selected]
  rw [if_pos ⟨running, below⟩]

theorem unloadBelowMin_stays {t : Train} {s : State} (h : ¬ UnloadsBelowMin (s.train t) (s.train t).setpoint) :
    unloadBelowMin t s = s := by
  unfold unloadBelowMin
  dsimp only
  split
  · rfl
  · next sel selected =>
    rw [if_neg fun ⟨running, below⟩ => h ⟨running, sel, selected, below⟩]

theorem lowerSetpoint_train_eq (t : Train) (v : Nat) (s : State) :
    (lowerSetpoint t v s).train t = (unloadBelowMin t (writeLowered t v s)).train t := by
  have ordered : (lowerSetpoint t v s).trains = (unloadBelowMin t (writeLowered t v s)).trains := by
    simp [lowerSetpoint]
  exact train_congr ordered t

/-- What a lowering leaves of its train: the Setpoint, Reservation and HEAT_CREDIT_LIMIT written, and UNLOADING for a RUNNING
train below its min load. -/
theorem lowerSetpoint_train (t : Train) (v : Nat) (s : State) :
    let c := s.train t
    let l := (lowerSetpoint t v s).train t
    (UnloadsBelowMin c l.setpoint → l = (c.settled l).unload l.setpoint) ∧
    (¬ UnloadsBelowMin c l.setpoint → l = c.settled l) := by
  intro c l
  have written : (writeLowered t v s).train t = c.settled ((writeLowered t v s).train t) := writeLowered_train t v s
  have result : l = (unloadBelowMin t (writeLowered t v s)).train t := lowerSetpoint_train_eq t v s
  have same (setpoint : Nat) : UnloadsBelowMin ((writeLowered t v s).train t) setpoint ↔ UnloadsBelowMin c setpoint := by
    rw [written]
    exact Iff.rfl
  by_cases unloads : UnloadsBelowMin ((writeLowered t v s).train t) ((writeLowered t v s).train t).setpoint
  · have after : l = ((writeLowered t v s).train t).unload ((writeLowered t v s).train t).setpoint := by
      rw [result, unloadBelowMin_unloads unloads, State.train_setTrain]
    have setpoint : l.setpoint = ((writeLowered t v s).train t).setpoint := by rw [after]; rfl
    rw [← setpoint, same] at unloads
    refine ⟨fun _ => ?_, fun no => absurd unloads no⟩
    rw [setpoint, after, written]
    rfl
  · have after : l = (writeLowered t v s).train t := by rw [result, unloadBelowMin_stays unloads]
    rw [same, ← after] at unloads
    refine ⟨fun yes => absurd yes unloads, fun _ => ?_⟩
    rw [after]
    exact written

/-- A lowering keeps the Share, and the Released flag but for a move to UNLOADING. -/
theorem lowerIfAbove_share (s : State) (t : Train) :
    ((lowerIfAbove s t).train t).share = (s.train t).share ∧
    (((lowerIfAbove s t).train t).released = (s.train t).released ∨ ((lowerIfAbove s t).train t).released = false) := by
  unfold lowerIfAbove
  split
  · obtain ⟨unloaded, stayed⟩ := lowerSetpoint_train t (lowerBound s t) s
    by_cases unloads : UnloadsBelowMin (s.train t) ((lowerSetpoint t (lowerBound s t) s).train t).setpoint
    · rw [unloaded unloads]
      exact ⟨rfl, .inr rfl⟩
    · rw [stayed unloads]
      exact ⟨rfl, .inl rfl⟩
  · exact ⟨rfl, .inl rfl⟩

end Sys2Proof.Machine
end

/-!
Time and modes (chapter 1): CLOCK_ADVANCE, SET_TIME, START_DISPATCH, STOP_DISPATCH and RESET_DISPATCH.
-/
section
namespace Sys2Proof.Machine

/-! ### CLOCK_ADVANCE (R2, R3) -/

/-- The rest of the reference second passes. -/
theorem finishSecond_eq (s : State) :
    finishSecond s = { s with
      clock := { s.clock with sinceAdvance := s.clock.sinceAdvance - 1000 }
      trains := s.trains.map fun c => { c with
        silence := c.silence.map fun ms => min (ms + (1000 - s.clock.sinceAdvance)) 4294967295
        startTimer := c.startTimer.map fun ms => min (ms + (1000 - s.clock.sinceAdvance)) 4294967295 }
      tables := { s.tables with millis := s.tables.millis + (1000 - s.clock.sinceAdvance) } } := by
  have rest : s.clock.sinceAdvance + (1000 - s.clock.sinceAdvance) - 1000 = s.clock.sinceAdvance - 1000 := by omega
  rw [← rest]
  rfl

/-- The four events of a Boundary. -/
def boundaryEvents (b : Boundary) : List Raised :=
  [.boundary .commitmentStore b, .boundary .horizonProjector b, .boundary .heatStoreUnit b, .boundary .dispatcher b]

theorem raiseBoundary_eq (b : Boundary) (s : State) :
    raiseBoundary b s = { s with raised := s.raised ++ boundaryEvents b } := rfl

section
variable {s : State}

theorem advanceClock_sameInterval (h : s.interval = (s.setClock (advancedTime s.clock)).interval) :
    advanceClock s = { s with clock := advancedTime s.clock } := by
  rw [advanceClock]
  exact if_pos h

theorem advanceClock_newInterval (h : s.interval ≠ (s.setClock (advancedTime s.clock)).interval) :
    advanceClock s = { s with
      clock := advancedTime s.clock
      raised := s.raised ++
        boundaryEvents (forwardBoundary s.interval (s.setClock (advancedTime s.clock)).interval) } := by
  rw [advanceClock]
  exact if_neg h

theorem advancedTime_held (hd : s.clock.day = 65535) (hs : s.clock.second = 86399) : advancedTime s.clock = s.clock := by
  rw [advancedTime, if_pos hs, if_pos hd]

theorem advancedTime_nextDay (hs : s.clock.second = 86399) (hd : s.clock.day < 65535) :
    advancedTime s.clock = { s.clock with day := s.clock.day + 1, second := 0 } := by
  rw [advancedTime, if_pos hs, if_neg (by omega)]

theorem advancedTime_nextSecond (hs : s.clock.second < 86399) :
    advancedTime s.clock = { s.clock with second := s.clock.second + 1 } := by
  rw [advancedTime, if_neg (by omega)]

theorem interval_eq (s : State) : s.interval = s.clock.day * 96 + s.clock.second / 900 := rfl

theorem advanceClock_held (hd : s.clock.day = 65535) (hs : s.clock.second = 86399) : advanceClock s = s := by
  have same := advancedTime_held hd hs
  rw [advanceClock_sameInterval (by rw [same]; rfl), same]

theorem advanceClock_second (hs : s.clock.second < 86399) (h : (s.clock.second + 1) % 900 ≠ 0) :
    advanceClock s = { s with clock := { s.clock with second := s.clock.second + 1 } } := by
  have next := advancedTime_nextSecond hs
  rw [advanceClock_sameInterval (by simp only [next, interval_eq, State.setClock]; omega), next]

theorem advanceClock_boundary (hs : s.clock.second < 86399) (h : (s.clock.second + 1) % 900 = 0) :
    advanceClock s = { s with
      clock := { s.clock with second := s.clock.second + 1 }
      raised := s.raised ++ boundaryEvents
        { newInterval := s.interval + 1, step := .forward 1, dayStart := false } } := by
  have next := advancedTime_nextSecond hs
  have interval : (s.setClock (advancedTime s.clock)).interval = s.interval + 1 := by
    simp only [next, interval_eq, State.setClock]
    omega
  have sameDay : s.interval / 96 = (s.interval + 1) / 96 := by
    simp only [interval_eq]
    omega
  rw [advanceClock_newInterval (by omega), interval, next]
  simp [forwardBoundary, sameDay]

theorem advanceClock_day (hs : s.clock.second = 86399) (hd : s.clock.day < 65535) :
    advanceClock s = { s with
      clock := { s.clock with day := s.clock.day + 1, second := 0 }
      raised := s.raised ++ boundaryEvents
        { newInterval := s.interval + 1, step := .forward 1, dayStart := true } } := by
  have next := advancedTime_nextDay hs hd
  have interval : (s.setClock (advancedTime s.clock)).interval = s.interval + 1 := by
    simp only [next, interval_eq, State.setClock, hs]
    omega
  have nextDay : s.interval / 96 ≠ (s.interval + 1) / 96 := by
    simp only [interval_eq, hs]
    omega
  rw [advanceClock_newInterval (by omega), interval, next]
  simp [forwardBoundary, nextDay]

end

theorem exec_clockAdvance_unset {s : State} (h : s.clock.timeSet = false) :
    exec .clockAdvance s = .next (finishSecond s) :=
  congrArg Host.Outcome.next (if_neg (by simp [finishSecond_eq, h]))

theorem exec_clockAdvance_set {s : State} (h : s.clock.timeSet = true) :
    exec .clockAdvance s = .next (advanceClock (finishSecond s)) :=
  congrArg Host.Outcome.next (if_pos (by simp [finishSecond_eq, h]))

/-- Settles O13: the rest of the second passes, and with the time set the Clock moves on unless it is at its last second. -/
theorem clockAdvanceCountsOneSecond : Obligations.ClockAdvanceCountsOneSecond := by
  unfold Obligations.ClockAdvanceCountsOneSecond
  intro s _ k boundary raisedAll held rest run
  have day : k.clock.day = s.clock.day := by simp [k, finishSecond_eq]
  have second : k.clock.second = s.clock.second := by simp [k, finishSecond_eq]
  have interval : k.interval = s.interval := by rw [interval_eq, interval_eq, day, second]
  have raised : k.raised = s.raised := by simp [k, finishSecond_eq]
  refine ⟨finishSecond_eq s, fun stays => ?_, fun set before inside => ?_, fun set before turn => ?_,
    fun set last within => ?_⟩
  · by_cases set : s.clock.timeSet = true
    · obtain ⟨lastDay, lastSecond⟩ := stays.resolve_left (by simp [set])
      rw [exec_clockAdvance_set set]
      exact congrArg _ (advanceClock_held (day.trans lastDay) (second.trans lastSecond))
    · exact exec_clockAdvance_unset (by simpa using set)
  · rw [exec_clockAdvance_set set, advanceClock_second (s := k) (by omega) (by rwa [second]), ← second]
  · rw [exec_clockAdvance_set set, advanceClock_boundary (s := k) (by omega) (by rwa [second]), ← second]
    have today : boundary.dayStart = false := decide_eq_false (by omega)
    have same : boundary = { newInterval := k.interval + 1, step := .forward 1, dayStart := false } := by
      rw [interval, ← today]
    rw [← same, raised]
    rfl
  · rw [exec_clockAdvance_set set, advanceClock_day (s := k) (second.trans last) (by omega), ← day]
    have turn : boundary.dayStart = true := decide_eq_true last
    have same : boundary = { newInterval := k.interval + 1, step := .forward 1, dayStart := true } := by
      rw [interval, ← turn]
    rw [← same, raised]
    rfl

/-! ### SET_TIME (R5 to R8) -/

theorem forwardBoundary_dayStart_iff {old new : Nat} (h : old < new) :
    (forwardBoundary old new).dayStart = true ↔ ∃ k, old < k ∧ k ≤ new ∧ k % 96 = 0 := by
  have turns : (forwardBoundary old new).dayStart = true ↔ old / 96 ≠ new / 96 := decide_eq_true_iff
  rw [turns]
  constructor
  · intro changes
    exact ⟨new / 96 * 96, by omega, by omega, by omega⟩
  · rintro ⟨k, after, upTo, dayTurn⟩
    omega

theorem rebaseBoundary_dayStart_iff (old new : Nat) :
    (rebaseBoundary old new).dayStart = true ↔ new / 96 ≠ old / 96 := by
  rw [ne_comm]
  exact decide_eq_true_iff

theorem timeAccepted_iff (s : State) (day second : Nat) :
    let new := day * 96 + second / 900
    let change : Int := ((day * 86400 + second : Nat) : Int) - ((s.clock.day * 86400 + s.clock.second : Nat) : Int)
    let slew := s.dispatcher.mode = .dispatching ∨ s.dispatcher.mode = .stopping
    timeAccepted s day second = true ↔
      (¬ slew ∧ (s.interval ≤ new ∨ s.store.commitments = [])) ∨
      (slew ∧ -60 ≤ change ∧ change ≤ 60 ∧ s.interval ≤ new) := by
  intro new change slew
  have near : change.natAbs ≤ 60 ↔ -60 ≤ change ∧ change ≤ 60 := by omega
  by_cases slews : slew
  · have accepted : timeAccepted s day second = (decide (change.natAbs ≤ 60) && decide (s.interval ≤ new)) := by
      obtain mode | mode := slews <;> simp only [timeAccepted, mode] <;> rfl
    simp [accepted, slews, near, and_assoc]
  · have accepted : timeAccepted s day second = (decide (s.interval ≤ new) || s.store.commitments.isEmpty) := by
      obtain ⟨notDispatching, notStopping⟩ := not_or.1 slews
      cases mode : s.dispatcher.mode with
      | dispatching => exact absurd mode notDispatching
      | stopping => exact absurd mode notStopping
      | unconfigured => simp only [timeAccepted, mode]; rfl
      | standby => simp only [timeAccepted, mode]; rfl
    simp [accepted, slews]

section
variable {day second : Nat} {r : State}

theorem setClockTo_sameInterval (h : day * 96 + second / 900 = r.interval) :
    setClockTo day second r =
      { r with clock := { r.clock with day := day, second := second, timeSet := true, sinceAdvance := 0 } } := by
  unfold setClockTo raiseMove
  have same : intervalOf day second = r.interval := h
  rw [same, if_neg (Nat.lt_irrefl _), if_neg (Nat.lt_irrefl _)]
  rfl

theorem setClockTo_newInterval (h : day * 96 + second / 900 ≠ r.interval) :
    setClockTo day second r =
      { r with
        clock := { r.clock with day := day, second := second, timeSet := true, sinceAdvance := 0 }
        raised := r.raised ++ boundaryEvents
          (if r.interval < day * 96 + second / 900 then forwardBoundary r.interval (day * 96 + second / 900)
           else rebaseBoundary r.interval (day * 96 + second / 900)) } := by
  unfold setClockTo raiseMove
  have new : intervalOf day second = day * 96 + second / 900 := rfl
  rw [new]
  split
  · rfl
  · rw [if_pos (by omega)]
    rfl

theorem setTimeOwner_outOfRange (h : 86399 < second) :
    setTimeOwner (day, second) r = (.withBody .outOfRange (clockBody r), r) := by
  rw [setTimeOwner, if_pos h]

theorem setTimeOwner_refused (h : second ≤ 86399) (ht : ¬ timeAccepted r day second = true) :
    setTimeOwner (day, second) r = (.withBody .wrongState (clockBody r), r) := by
  rw [setTimeOwner, if_neg (Nat.not_lt.2 h), if_neg ht]

/-- Two times of the Clock are the same when no seconds lie between them. -/
theorem setTimeOwner_taken (h : second ≤ 86399) (hr : r.clock.second ≤ 86399) (ht : timeAccepted r day second = true) :
    setTimeOwner (day, second) r =
      (.withBody (if r.clock.timeSet = true ∧
          ((day * 86400 + second : Nat) : Int) - ((r.clock.day * 86400 + r.clock.second : Nat) : Int) = 0
        then .doneUnchanged else .done) (clockBody (setClockTo day second r)), setClockTo day second r) := by
  rw [setTimeOwner, if_neg (Nat.not_lt.2 h), if_pos ht]
  have same : (r.clock.timeSet && decide ((day, second) = (r.clock.day, r.clock.second))) = true ↔
      (r.clock.timeSet = true ∧
        ((day * 86400 + second : Nat) : Int) - ((r.clock.day * 86400 + r.clock.second : Nat) : Int) = 0) := by
    rw [Bool.and_eq_true, decide_eq_true_iff, Prod.mk.injEq]
    refine and_congr_right fun _ => ⟨fun ⟨d, s⟩ => by rw [d, s]; omega, fun zero => ⟨?_, ?_⟩⟩ <;> omega
  simp only [same]

end

theorem exec_setTime_admitted {f : Frame} {s r : State} {day second : Nat} (ha : Admitted supervisoryOnly f s r)
    (hb : f.body = u16 day ++ u32 second) (hd : day < 65536) (hs : second < 4294967296) :
    exec (.setTime f) s = .next (afterOwner f 0x40 (setTimeOwner (day, second) r)) :=
  congrArg Host.Outcome.next (atOnce_admitted ha (hb ▸ parseBody_time day second hd hs))

/-- Settles O14: the second is judged first, then the mode's rule, and a time taken raises the Boundary of its move. -/
theorem setTimeIsJudgedByTheMode : Obligations.SetTimeIsJudgedByTheMode := by
  unfold Obligations.SetTimeIsJudgedByTheMode
  refine ⟨fun f day second s r ha hb hd hs hr => ?_, fun old new => ⟨fun forward => ?_, fun back => ?_⟩⟩
  · intro new change slew taken refusedBody boundary raisedAll clock status
    have accepted : timeAccepted r day second = true ↔ taken := timeAccepted_iff r day second
    rw [exec_setTime_admitted ha hb hd hs]
    refine ⟨fun beyond => ?_, fun within refused => ?_, fun within take same => ?_, fun within take differs => ?_⟩
    · rw [setTimeOwner_outOfRange beyond]
      rfl
    · rw [setTimeOwner_refused within (accepted.not.2 refused)]
      rfl
    · rw [setTimeOwner_taken within hr (accepted.2 take), setClockTo_sameInterval same]
      rfl
    · rw [setTimeOwner_taken within hr (accepted.2 take), setClockTo_newInterval differs]
      rfl
  · exact ⟨forwardBoundary_dayStart_iff forward, rfl, rfl⟩
  · exact ⟨rebaseBoundary_dayStart_iff old new, rfl, rfl⟩

/-! ### START_DISPATCH and STOP_DISPATCH (R9 to R11) -/

theorem exec_startDispatch_admitted {f : Frame} {s r : State} (ha : Admitted supervisoryOnly f s r) (hb : f.body = []) :
    exec (.startDispatch f) s = .next (afterOwner f 0x41 (startDispatchOwner r)) :=
  congrArg Host.Outcome.next (atOnce_admitted ha (hb ▸ parseBody_empty))

theorem exec_stopDispatch_admitted {f : Frame} {s r : State} (ha : Admitted supervisoryOnly f s r) (hb : f.body = []) :
    exec (.stopDispatch f) s = .next (afterOwner f 0x42 (stopDispatchOwner r)) :=
  congrArg Host.Outcome.next (atOnce_admitted ha (hb ▸ parseBody_empty))

theorem exec_resetDispatch_admitted {f : Frame} {s r : State} (ha : Admitted supervisoryOnly f s r) (hb : f.body = []) :
    exec (.resetDispatch f) s = .next (afterOwner f 0x43 (resetDispatchOwner r)) :=
  congrArg Host.Outcome.next (atOnce_admitted ha (hb ▸ parseBody_empty))

section
variable {r : State}

theorem startDispatchOwner_dispatching (h : r.dispatcher.mode = .dispatching) :
    startDispatchOwner r = (.bare .doneUnchanged, r) := by
  rw [startDispatchOwner, if_pos h]

theorem startDispatchOwner_unmet {u : Unmet} (h : r.dispatcher.mode ≠ .dispatching) (hu : firstUnmet r = some u) :
    startDispatchOwner r = (.withBody .wrongState (unmetBody u), r) := by
  rw [startDispatchOwner, if_neg h, hu]

theorem startDispatchOwner_met (h : r.dispatcher.mode ≠ .dispatching) (hu : firstUnmet r = none) :
    startDispatchOwner r = (.bare .done, beginIfDue (triggerPass (evaluate (setMode .dispatching r)))) := by
  rw [startDispatchOwner, if_neg h, hu]

/-! The first unmet prerequisite, in the order of R10. -/

theorem firstUnmet_mode (h : r.dispatcher.mode ≠ .standby) : firstUnmet r = some (.mode r.dispatcher.mode) := by
  rw [firstUnmet, if_pos h]

variable (standby : r.dispatcher.mode = .standby)
include standby

theorem firstUnmet_time (h : r.clock.timeSet = false) : firstUnmet r = some .timeUnset := by
  rw [firstUnmet, if_neg (not_not.2 standby), if_pos h]

theorem firstUnmet_cavern (ht : r.clock.timeSet = true) (h : r.cavern.calibrated = false) :
    firstUnmet r = some .cavernUncalibrated := by
  rw [firstUnmet, if_neg (not_not.2 standby), if_neg (by simp [ht]), if_pos h]

theorem firstUnmet_tank (ht : r.clock.timeSet = true) (hc : r.cavern.calibrated = true) {tank : Tank}
    (h : allTanks.find? (fun t => !(r.tank t).surveyed) = some tank) : firstUnmet r = some (.tankUnsurveyed tank) := by
  rw [firstUnmet, if_neg (not_not.2 standby), if_neg (by simp [ht]), if_neg (by simp [hc]), h]

theorem firstUnmet_ready (ht : r.clock.timeSet = true) (hc : r.cavern.calibrated = true)
    (h : ∀ tank, (r.tank tank).surveyed = true) :
    ((∃ t, (r.train t).state = .ready) → firstUnmet r = none) ∧
    ((¬ ∃ t, (r.train t).state = .ready) → firstUnmet r = some .noReadyTrain) := by
  have none : allTanks.find? (fun t => !(r.tank t).surveyed) = none :=
    List.find?_eq_none.2 fun t _ => by simp [h t]
  have ready : (allTrains.any fun t => decide ((r.train t).state = .ready)) = true ↔
      ∃ t, (r.train t).state = .ready := by
    simp only [List.any_eq_true, decide_eq_true_iff, mem_allTrains, true_and]
  rw [firstUnmet, if_neg (not_not.2 standby), if_neg (by simp [ht]), if_neg (by simp [hc]), none]
  exact ⟨fun some => if_pos (ready.2 some), fun no => if_neg (ready.not.2 no)⟩

end

theorem stopCondition_iff (r : State) :
    stopCondition r = true ↔ ∀ t, (r.train t).setpoint = 0 ∧ (r.train t).state ≠ .starting ∧
      (r.train t).state ≠ .running ∧ (r.train t).state ≠ .unloading := by
  have resting (t : Train) : inUse (r.train t).state = false ↔
      (r.train t).state ≠ .starting ∧ (r.train t).state ≠ .running ∧ (r.train t).state ≠ .unloading := by
    rw [← not_iff_not, Bool.not_eq_false, inUse_iff]
    tauto
  simp only [stopCondition, List.all_eq_true, mem_allTrains, true_implies, Bool.and_eq_true, decide_eq_true_iff,
    Bool.not_eq_true', resting]

/-- Settles O15: START_DISPATCH by its first unmet prerequisite, STOP_DISPATCH by the Stop Condition. -/
theorem dispatchStartsAndStopsUnderItsConditions : Obligations.DispatchStartsAndStopsUnderItsConditions := by
  unfold Obligations.DispatchStartsAndStopsUnderItsConditions
  refine ⟨fun f s r ha hb => ?_, fun f s r ha hb => ?_⟩
  · intro refused standby ready someReady
    have unmet {u : Unmet} (h : r.dispatcher.mode ≠ .dispatching) (hu : firstUnmet r = some u) : refused (unmetBody u) := by
      show exec (.startDispatch f) s = _
      rw [exec_startDispatch_admitted ha hb, startDispatchOwner_unmet h hu, afterOwner_withBody]
    have other {m : Mode} (h : r.dispatcher.mode = m) (hs : m ≠ .standby) (hd : m ≠ .dispatching) :
        refused (unmetBody (.mode m)) :=
      unmet (h ▸ hd) (h ▸ firstUnmet_mode (h ▸ hs))
    have notDispatching (h : standby) : r.dispatcher.mode ≠ .dispatching := by
      rw [show r.dispatcher.mode = .standby from h]
      decide
    refine ⟨fun dispatching => ?_, fun unconfigured => other unconfigured (by decide) (by decide),
      fun stopping => other stopping (by decide) (by decide),
      fun hs ht => unmet (notDispatching hs) (firstUnmet_time hs ht),
      fun hs ht hc => unmet (notDispatching hs) (firstUnmet_cavern hs ht hc), fun hs ht hc => ?_⟩
    · rw [exec_startDispatch_admitted ha hb, startDispatchOwner_dispatching dispatching, afterOwner_bare]
    · have tank {u : Tank} (h : allTanks.find? (fun t => !(r.tank t).surveyed) = some u) :
          refused (unmetBody (.tankUnsurveyed u)) := unmet (notDispatching hs) (firstUnmet_tank hs ht hc h)
      refine ⟨fun h1 => tank (u := .t1) ?_, fun h1 h2 => tank (u := .t2) ?_, fun h1 h2 h3 => tank (u := .t3) ?_,
        fun h1 h2 h3 => ?_⟩
      · simp [allTanks, State.tank, PerTank.get, h1]
      · simp [allTanks, State.tank, PerTank.get, h1, h2]
      · simp [allTanks, State.tank, PerTank.get, h1, h2, h3]
      · obtain ⟨met, unready⟩ := firstUnmet_ready hs ht hc fun tank => by cases tank; exacts [h1, h2, h3]
        refine ⟨fun none => unmet (notDispatching hs) (unready none), fun some => ?_⟩
        have started : exec (.startDispatch f) s = .next (afterOwner f 0x41 (.bare .done, beginIfDue (triggerPass (evaluate ready)))) :=
          (exec_startDispatch_admitted ha hb).trans (by
            rw [startDispatchOwner_met (notDispatching hs) (met some), show setMode .dispatching r = ready from rfl])
        have mode := evaluate_mode ready
        generalize evaluate ready = e at started mode ⊢
        exact ⟨mode.trans (if_neg fun h => nomatch h.1), started⟩
  · intro stopped standby stopping
    have condition : stopCondition r = true ↔ stopped := stopCondition_iff r
    rw [exec_stopDispatch_admitted ha hb]
    refine ⟨fun other => ?_, fun dispatching => ⟨fun stops => ?_, fun goes => ?_⟩⟩
    · rw [stopDispatchOwner, if_neg other, afterOwner_bare]
    · rw [stopDispatchOwner, if_pos dispatching, if_pos (condition.2 stops), afterOwner_bare,
        show setMode .standby r = standby from rfl]
    · rw [stopDispatchOwner, if_pos dispatching, if_neg (condition.not.2 goes), afterOwner_bare,
        show setMode .stopping r = stopping from rfl]

/-! ### RESET_DISPATCH (R12, R196) -/

theorem hideCreditLimits_train (s : State) (t : Train) :
    (hideCreditLimits s).train t = { s.train t with creditLimit := false } := by
  cases t <;> rfl

end Sys2Proof.Machine
end

/-!
The live conditions and the alert lines (R23, R26): O11, and RESET_DISPATCH, which leaves no HEAT_CREDIT_LIMIT live: O16.
-/
section
namespace Sys2Proof.Machine

/-! ### Live positions (R23) -/

theorem liveBit_getLsbD {n : Nat} (small : n < 16) (b : Bool) (i : Nat) :
    (liveBit n b).getLsbD i = (b && decide (i = n)) := by
  cases b
  · simp [liveBit]
  · simp only [liveBit, if_true, BitVec.getLsbD_ofNat, Nat.testBit_two_pow, Bool.true_and]
    by_cases h : n = i
    · subst h; simp [small]
    · simp [h, Ne.symm h]

/-- The bits of the Live Set, position by position. -/
theorem liveSet_getLsbD (s : State) (i : Nat) : (liveSet s).getLsbD i =
    (((s.dispatcher.mode == .unconfigured) && decide (i = 0)) || ((!s.clock.timeSet) && decide (i = 1)) ||
    ((!s.cavern.calibrated) && decide (i = 2)) || ((!s.tanks.t1.surveyed) && decide (i = 3)) ||
    ((!s.tanks.t2.surveyed) && decide (i = 4)) || ((!s.tanks.t3.surveyed) && decide (i = 5)) ||
    (s.trains.k1.creditLimit && decide (i = 6)) || (s.trains.k2.creditLimit && decide (i = 7)) ||
    (s.trains.k3.creditLimit && decide (i = 8)) || (envelopeStale s .k1 && decide (i = 9)) ||
    (envelopeStale s .k2 && decide (i = 10)) || (envelopeStale s .k3 && decide (i = 11)) ||
    (envelopeStale s .x1 && decide (i = 12)) || (envelopeStale s .x2 && decide (i = 13)) ||
    (envelopeStale s .x3 && decide (i = 14)) || ((!s.projector.current) && decide (i = 15))) := by
  simp only [liveSet, BitVec.getLsbD_or, liveBit_getLsbD (by decide : 0 < 16), liveBit_getLsbD (by decide : 1 < 16),
    liveBit_getLsbD (by decide : 2 < 16), liveBit_getLsbD (by decide : 3 < 16), liveBit_getLsbD (by decide : 4 < 16),
    liveBit_getLsbD (by decide : 5 < 16), liveBit_getLsbD (by decide : 6 < 16), liveBit_getLsbD (by decide : 7 < 16),
    liveBit_getLsbD (by decide : 8 < 16), liveBit_getLsbD (by decide : 9 < 16), liveBit_getLsbD (by decide : 10 < 16),
    liveBit_getLsbD (by decide : 11 < 16), liveBit_getLsbD (by decide : 12 < 16), liveBit_getLsbD (by decide : 13 < 16),
    liveBit_getLsbD (by decide : 14 < 16), liveBit_getLsbD (by decide : 15 < 16)]

theorem liveSet_tank (s : State) (tank : Tank) : (liveSet s).getLsbD (3 + tankIndex tank) = !(s.tank tank).surveyed := by
  rw [liveSet_getLsbD]
  cases tank <;> simp [tankIndex, State.tank, PerTank.get]

theorem liveSet_creditLimit (s : State) {t : Train} (kind : trainKind t = .compressor) :
    (liveSet s).getLsbD (6 + trainIndex t) = (s.train t).creditLimit := by
  rw [liveSet_getLsbD]
  cases t with
  | k1 | k2 | k3 => simp [trainIndex, State.train, PerTrain.get]
  | x1 | x2 | x3 => cases kind

theorem liveSet_stale (s : State) (t : Train) : (liveSet s).getLsbD (9 + trainIndex t) = envelopeStale s t := by
  rw [liveSet_getLsbD]
  cases t <;> simp [trainIndex]

theorem envelopeStale_iff (s : State) (t : Train) : envelopeStale s t = true ↔
    ∃ sel row, (s.train t).selection = some sel ∧ s.tables.envelopes[sel.selector]? = some row ∧
      sel.generation ≠ row.generation := by
  unfold envelopeStale
  split
  · next none => simp [none]
  · next sel selected =>
    split
    · next beyond => simp [selected, beyond]
    · next row listed => simp [selected, listed, ne_comm]

/-! ### Alert lines (R26) -/

theorem bitVec_ne_zero_iff {n : Nat} (x : BitVec n) : (x != 0) = true ↔ ∃ i, i < n ∧ x.getLsbD i = true := by
  rw [bne_iff_ne, ← not_iff_not, not_not]
  constructor
  · rintro rfl ⟨i, _, set⟩
    simp at set
  · intro clear
    refine BitVec.eq_of_getLsbD_eq fun i hi => ?_
    have : x.getLsbD i = false := Bool.eq_false_iff.2 fun set => clear ⟨i, hi, set⟩
    simpa using this

theorem alertLine_iff (s : State) (p : Port) : alertLine s p = true ↔
    ∃ i, i < 26 ∧ s.sticky.getLsbD i = true ∧ (s.link p).alertMask.getLsbD i = true := by
  rw [alertLine, bitVec_ne_zero_iff]
  simp only [BitVec.getLsbD_and, Bool.and_eq_true]

/-- Settles O11: each live position and each alert line by what its owner's state says. -/
theorem liveConditionsAndAlertLinesFollowTheState : Obligations.LiveConditionsAndAlertLinesFollowTheState := by
  unfold Obligations.LiveConditionsAndAlertLinesFollowTheState
  intro s p
  refine ⟨?_, ?_, ?_, liveSet_tank s, fun t => liveSet_creditLimit s, fun t => ?_, fun t => (liveSet_stale s t).symm, ?_,
    alertLine_iff s p⟩
  · rw [liveSet_getLsbD]
    simp [beq_eq_decide]
  · rw [liveSet_getLsbD]
    simp
  · rw [liveSet_getLsbD]
    simp
  · rw [liveSet_stale]
    exact envelopeStale_iff s t
  · rw [liveSet_getLsbD]
    simp

/-! ### RESET_DISPATCH (R12, R196) -/

/-- Without an Active Kind in DISPATCHING an evaluation leaves every Share 0 and no Released flag that was clear set. -/
theorem evaluate_idle {s : State} (mode : s.dispatcher.mode ≠ .dispatching) (t : Train) :
    ((evaluate s).train t).share = 0 ∧ ((s.train t).released = false → ((evaluate s).train t).released = false) := by
  have decided : (decidedState s).train t = { s.train t with share := 0 } := by
    rw [decidedState, decideTrains_idle (s := settleDirection (takeTarget s)) fun k h => absurd h mode, writeShares_train, settleDirection_train]
    rfl
  have lowered := lowerIfAbove_share (decidedState s) t
  rw [evaluate_train, lowered.1, decided]
  refine ⟨rfl, fun clear => ?_⟩
  obtain kept | dropped := lowered.2
  · rw [kept, decided, clear]
  · exact dropped

theorem writeShares_dispatcher (shares : List (Train × Nat)) (s : State) :
    (writeShares shares s).dispatcher = s.dispatcher := by
  simp

theorem evaluate_standby {s : State} (mode : s.dispatcher.mode = .standby) : (evaluate s).dispatcher.mode = .standby := by
  rw [evaluate_mode, mode]
  simp

theorem evaluate_idle_rotation {s : State} (mode : s.dispatcher.mode ≠ .dispatching) (k : TrainKind) :
    (evaluate s).dispatcher.rotation k = s.dispatcher.rotation k := by
  rw [evaluate_rotation, decidedState, decideTrains_idle (s := settleDirection (takeTarget s)) fun _ h => absurd h mode,
    writeShares_dispatcher]
  cases k <;> rfl

theorem resetDispatchOwner_refused {r : State} (h : r.dispatcher.mode = .unconfigured) :
    resetDispatchOwner r = (.bare .wrongState, r) := by
  rw [resetDispatchOwner, if_pos h]

theorem resetDispatchOwner_done {r : State} (h : r.dispatcher.mode ≠ .unconfigured) :
    resetDispatchOwner r = (.bare .done, raiseAll [.storeReset, .projectorReset, .heatReset, .trainReset]
      (hideCreditLimits (evaluate (resetDispatcher r)))) := by
  rw [resetDispatchOwner, if_neg h]

/-- Settles O16: the evaluation of the state RESET_DISPATCH gives the Dispatcher, with no credit limit shown after it. -/
theorem resetDispatchSetsStandby : Obligations.ResetDispatchSetsStandby := by
  unfold Obligations.ResetDispatchSetsStandby
  intro f s r ha hb
  refine ⟨fun unconfigured => ?_, fun configured => ?_⟩
  · rw [exec_resetDispatch_admitted ha hb, resetDispatchOwner_refused unconfigured, afterOwner_bare]
  · intro standby k
    have same : k = evaluate (resetDispatcher r) := rfl
    clear_value k
    have executed : exec (.resetDispatch f) s = .next (answered f 0x43 .done []
        (raiseAll [.storeReset, .projectorReset, .heatReset, .trainReset] (hideCreditLimits k))) := by
      rw [exec_resetDispatch_admitted ha hb, resetDispatchOwner_done configured, afterOwner_bare, same]
    have modeThen : (resetDispatcher r).dispatcher.mode ≠ .dispatching := nofun
    have mode : k.dispatcher.mode = .standby := by
      rw [same, evaluate_standby rfl]
    have target : k.dispatcher.target = 0 := by
      rw [same, evaluate_target, targetOf_other modeThen]
    have shares (c : Train) : (k.train c).share = 0 ∧ (k.train c).released = false := by
      rw [same]
      obtain ⟨share, released⟩ := evaluate_idle modeThen c
      exact ⟨share, released (by cases c <;> rfl)⟩
    have rotation (c : TrainKind) : k.dispatcher.rotation c = r.dispatcher.rotation c := by
      rw [same, evaluate_idle_rotation modeThen]
      cases c <;> rfl
    have interval : k.dispatcher.openInterval = r.dispatcher.openInterval := by
      rw [same, evaluate_openInterval]
      rfl
    have delivered : k.dispatcher.delivered = r.dispatcher.delivered := by
      rw [same, evaluate_delivered]
      rfl
    obtain ⟨mp, sp, -, sticky, clock, store, projector, cavern, tanks, tables, loader, raised, arrivals, pending⟩ :=
      evaluate_frame (resetDispatcher r)
    rw [← same] at mp sp sticky clock store projector cavern tanks tables loader raised arrivals pending
    have final : raiseAll [.storeReset, .projectorReset, .heatReset, .trainReset] (hideCreditLimits k) =
        { k with
          trains := k.trains.map fun c => { c with creditLimit := false }
          raised := r.raised ++ [.storeReset, .projectorReset, .heatReset, .trainReset] } := by
      rw [show r.raised = k.raised from raised.symm]
      rfl
    intro t
    have credit (c : Train) : t.train c = { k.train c with creditLimit := false } := hideCreditLimits_train k c
    refine ⟨executed.trans (by rw [final]), mode, target, fun c => ?_, fun c kind => ?_, rfl, interval, delivered,
      rotation .compressor, rotation .expander, clock, store, projector, cavern, tanks, tables, loader, sticky, mp, sp,
      arrivals, pending⟩
    · rw [credit]
      exact ⟨(shares c).1, (shares c).2, rfl⟩
    · rw [liveSet_creditLimit t kind, credit]

end Sys2Proof.Machine
end

/-!
The ports' answers, the arrival checks of a schedule change, and admission to the Amendment Queue with the service that
follows: O27, O25, O26, O28.
-/
section
namespace Sys2Proof.Machine

/-! ### A port's link -/

theorem State.setLink_setLink (s : State) (p : Port) (a b : PortLink) : (s.setLink p a).setLink p b = s.setLink p b := by
  cases p <;> rfl

theorem State.setLink_self (s : State) (p : Port) : s.setLink p (s.link p) = s := by
  cases p <;> rfl

theorem State.link_setStore (s : State) (st : Store) (p : Port) : (s.setStore st).link p = s.link p := by
  cases p <;> rfl

theorem State.setStore_setLink (s : State) (p : Port) (l : PortLink) (st : Store) :
    (s.setLink p l).setStore st = (s.setStore st).setLink p l := by
  cases p <;> rfl

/-! ### Answers (R18, R21) -/

theorem answerEntry_eq (e : Entry) (reply : Reply) (s : State) :
    answerEntry e reply s = s.setLink e.source
      { s.link e.source with
        responses := (s.link e.source).responses ++ [{ tag := e.tag, code := e.code, reply := reply }]
        outstanding := (s.link e.source).outstanding - 1 } := by
  simp only [answerEntry, respond, State.link_setLink, State.setLink_setLink]

theorem answerInService_kept {e : Entry} {reply : Reply} {s : State} (h : (s.link e.source).dropped = false) :
    answerInService e reply s = answerEntry e reply s := by
  rw [answerInService, if_neg (by simp [h])]

theorem answerInService_dropped {e : Entry} {reply : Reply} {s : State} (h : (s.link e.source).dropped = true) :
    answerInService e reply s = s.setLink e.source { s.link e.source with dropped := false } := by
  rw [answerInService, if_pos h]

/-- Settles O27: an entry's answer goes to its own port, that of the Entry in Service under the Dropped Answer mark. -/
theorem entriesAreAnsweredOnTheirOwnPort : Obligations.EntriesAreAnsweredOnTheirOwnPort := by
  unfold Obligations.EntriesAreAnsweredOnTheirOwnPort
  refine ⟨fun e reply s => ?_, fun f code status zero saturated body s => ⟨rfl, rfl⟩, fun l s => ⟨rfl, rfl, rfl, rfl⟩⟩
  exact ⟨answerEntry_eq e reply s, fun kept => (answerInService_kept kept).trans (answerEntry_eq e reply s),
    fun dropped => answerInService_dropped dropped⟩

/-! ### The checks of an ENTER, as they are said (R39) -/

theorem findHandle_none_iff {h : Nat} {records : List Commitment} :
    findHandle h records = none ↔ ∀ c ∈ records, c.handle ≠ h := by
  simp [findHandle, List.find?_eq_none]

theorem findHandle_isSome {h : Nat} {records : List Commitment} (held : ∃ c ∈ records, c.handle = h) :
    ∃ c, findHandle h records = some c := by
  obtain ⟨c, mem, same⟩ := held
  exact Option.ne_none_iff_exists'.1 fun none => findHandle_none_iff.1 none c mem same

theorem findReference_isSome_iff {n : Nat} {records : List Commitment} :
    (findReference n records).isSome = true ↔ n ≠ 0 ∧ ∃ c ∈ records, c.reference = n := by
  unfold findReference
  split
  · next zero => simp [zero]
  · next nonzero => simp [nonzero]

theorem enterInRange_iff (q : EnterRequest) : enterInRange q = true ↔ 1 ≤ q.length ∧ q.length ≤ 192 ∧
    (if q.kind = .energy then -2700 ≤ q.power ∧ q.power ≤ 3600 ∧ q.power ≠ 0 else 1 ≤ q.power ∧ q.power ≤ 1200) := by
  cases h : q.kind <;> simp [enterInRange, h, inRange, and_assoc]

section
variable (q : EnterRequest) (s : State)

/-- A FIRM ENTER of the past (R39, check 2). -/
def EnterLate : Prop := q.standing = .firm ∧ q.start ≤ s.interval

/-- A TENTATIVE ENTER before the Gate (R39, check 3). -/
def EnterGated : Prop := q.standing = .tentative ∧ q.start < s.interval + s.clock.gateLead

/-- An ENTER that ends beyond the horizon (R39, check 4). -/
def EnterBeyond : Prop := s.interval + 191 < q.start + q.length - 1

/-- An ENTER with a Market Reference another record carries (R39, check 5). -/
def EnterDuplicate : Prop := q.reference ≠ 0 ∧ ∃ c ∈ s.store.commitments, c.reference = q.reference

variable {q s}

theorem enterRefusal_late (h : EnterLate q s) : enterRefusal q s = some .pastInterval := by
  rw [enterRefusal, if_pos ⟨h.1, Nat.lt_succ_of_le h.2⟩]

theorem enterRefusal_past_first (h : ¬ EnterLate q s) : enterRefusal q s =
    if q.standing = .tentative ∧ q.start < s.gate then some .gateClosed
    else if s.interval + 191 < q.start + q.length - 1 then some .outOfRange
    else if (findReference q.reference s.store.commitments).isSome then some .duplicateReference
    else if 64 ≤ s.store.commitments.length then some .tableFull
    else none := by
  rw [enterRefusal, if_neg fun late => h ⟨late.1, Nat.le_of_lt_succ late.2⟩]

theorem enterRefusal_gated (h : EnterGated q s) : enterRefusal q s = some .gateClosed := by
  have tentative : ¬ EnterLate q s := fun late => by
    have := h.1.symm.trans late.1
    contradiction
  rw [enterRefusal_past_first tentative, if_pos ⟨h.1, h.2⟩]

variable (onTime : ¬ EnterLate q s) (ahead : ¬ EnterGated q s)
include onTime ahead

theorem enterRefusal_open : enterRefusal q s =
    if s.interval + 191 < q.start + q.length - 1 then some .outOfRange
    else if (findReference q.reference s.store.commitments).isSome then some .duplicateReference
    else if 64 ≤ s.store.commitments.length then some .tableFull
    else none := by
  rw [enterRefusal_past_first onTime, if_neg fun gated => ahead ⟨gated.1, gated.2⟩]

theorem enterRefusal_beyond (h : EnterBeyond q s) : enterRefusal q s = some .outOfRange :=
  (enterRefusal_open onTime ahead).trans (if_pos h)

theorem enterRefusal_within (within : ¬ EnterBeyond q s) : enterRefusal q s =
    if (findReference q.reference s.store.commitments).isSome then some .duplicateReference
    else if 64 ≤ s.store.commitments.length then some .tableFull
    else none :=
  (enterRefusal_open onTime ahead).trans (if_neg within)

theorem enterRefusal_duplicate (within : ¬ EnterBeyond q s) (h : EnterDuplicate q s) :
    enterRefusal q s = some .duplicateReference :=
  (enterRefusal_within onTime ahead within).trans (if_pos (findReference_isSome_iff.2 h))

theorem enterRefusal_room (within : ¬ EnterBeyond q s) (fresh : ¬ EnterDuplicate q s) :
    enterRefusal q s = if 64 ≤ s.store.commitments.length then some .tableFull else none :=
  (enterRefusal_within onTime ahead within).trans (if_neg fun found => fresh (findReference_isSome_iff.1 found))

end

/-! ### The right to change the schedule (R65) -/

/-- The right to an AMEND, a CONFIRM and a RETIRE. -/
def MayAmend (authority : Authority) (p : Port) : Prop :=
  if p = .mp then authority ≠ .supervisory else authority = .supervisory

/-- The right to an ENTER. -/
def MayEnter (authority : Authority) (p : Port) (standing : Standing) : Prop :=
  if standing = .firm then p = .mp ∨ authority = .supervisory else p = .mp ∧ authority ≠ .supervisory

theorem hasRight_enter_iff (authority : Authority) (p : Port) (q : EnterRequest) :
    hasRight authority p (.enter q) = true ↔ MayEnter authority p q.standing := by
  cases h : q.standing <;> cases p <;> simp [hasRight, MayEnter, h]

theorem hasRight_amend_iff (authority : Authority) (p : Port) {a : Amendment}
    (ha : (∃ q, a = .amend q) ∨ (∃ h, a = .confirm h) ∨ ∃ h, a = .retire h) :
    hasRight authority p a = true ↔ MayAmend authority p := by
  obtain ⟨q, rfl⟩ | ⟨h, rfl⟩ | ⟨h, rfl⟩ := ha <;> cases p <;> simp [hasRight, MayAmend]

/-! ### The arrival of a schedule change (R36) -/

section
variable {code : Octet} {p : Port} {tag : Octet} {a : Amendment} {own : State → Option Reply} {s : State}

theorem scheduleChange_unconfigured (h : s.dispatcher.mode = .unconfigured) :
    scheduleChange code p tag a own s = respond p tag code (.bare .wrongState) s := by
  simp [scheduleChange, scheduleRefusal, h]

theorem scheduleChange_noRight (h : s.dispatcher.mode ≠ .unconfigured) (right : ¬ hasRight s.store.authority p a = true) :
    scheduleChange code p tag a own s =
      respond p tag code (.withBody .noAuthority (u8 (authorityCode s.store.authority))) s := by
  simp [scheduleChange, scheduleRefusal, h, right]

variable (configured : s.dispatcher.mode ≠ .unconfigured) (right : hasRight s.store.authority p a = true)
include configured right

theorem scheduleChange_refused {reply : Reply} (h : own s = some reply) :
    scheduleChange code p tag a own s = respond p tag code reply s := by
  simp [scheduleChange, scheduleRefusal, configured, right, h]

theorem scheduleChange_admitted (h : own s = none) :
    scheduleChange code p tag a own s = admitAmendment p tag code a s := by
  simp [scheduleChange, scheduleRefusal, configured, right, h]

end

/-! ### The requests of the schedule, admitted by the Link Unit -/

section
variable {f : Frame} {s r : State}

theorem exec_enter_admitted {q : EnterRequest} (ha : Admitted bothPorts f s r) (hb : f.body = enterOctets q)
    (hq : q.encodable) :
    exec (.enter f) s = .next (scheduleChange 0x01 (viaPort f.via) f.tag (.enter q) (enterArrival q) r) :=
  congrArg Host.Outcome.next (takeRequest_admitted ha (hb ▸ parseBody_enter q hq))

theorem exec_amend_admitted {q : AmendRequest} (ha : Admitted bothPorts f s r) (hb : f.body = amendOctets q)
    (hq : q.encodable) (hp : q.preview = false) :
    exec (.amend f) s = .next (scheduleChange 0x02 (viaPort f.via) f.tag (.amend q) (amendRefused q) r) := by
  have owner : amendOwner (viaPort f.via) f.tag q r =
      scheduleChange 0x02 (viaPort f.via) f.tag (.amend q) (amendRefused q) r := by
    rw [amendOwner, if_neg (by simp [hp])]
  exact congrArg Host.Outcome.next ((takeRequest_admitted ha (hb ▸ parseBody_amend q hq)).trans owner)

theorem exec_amendPreview_admitted {q : AmendRequest} (ha : Admitted bothPorts f s r) (hb : f.body = amendOctets q)
    (hq : q.encodable) (hp : q.preview = true) :
    exec (.amendPreview f) s = .next (previewAmend (viaPort f.via) f.tag q r) := by
  have owner : amendOwner (viaPort f.via) f.tag q r = previewAmend (viaPort f.via) f.tag q r := by
    rw [amendOwner, if_pos hp]
  exact congrArg Host.Outcome.next ((takeRequest_admitted ha (hb ▸ parseBody_amend q hq)).trans owner)

theorem exec_confirm_admitted {h : Nat} (ha : Admitted bothPorts f s r) (hb : f.body = u16 h) (hh : h < 65536) :
    exec (.confirm f) s = .next (scheduleChange 0x03 (viaPort f.via) f.tag (.confirm h) (handleArrival h) r) :=
  congrArg Host.Outcome.next (takeRequest_admitted ha (hb ▸ parseBody_u16 h hh))

theorem exec_retire_admitted {h : Nat} (ha : Admitted bothPorts f s r) (hb : f.body = u16 h) (hh : h < 65536) :
    exec (.retire f) s = .next (scheduleChange 0x04 (viaPort f.via) f.tag (.retire h) (handleArrival h) r) :=
  congrArg Host.Outcome.next (takeRequest_admitted ha (hb ▸ parseBody_u16 h hh))

end

/-! ### Their own arrival checks -/

section
variable {s : State}

theorem enterArrival_outOfRange {q : EnterRequest} (h : ¬ enterInRange q = true) :
    enterArrival q s = some (.bare .outOfRange) := by
  rw [enterArrival, if_neg h]

theorem enterArrival_inRange {q : EnterRequest} (h : enterInRange q = true) :
    enterArrival q s = (enterRefusal q s).map Reply.bare := by
  rw [enterArrival, if_pos h]

theorem handleArrival_absent {h : Nat} (absent : ∀ c ∈ s.store.commitments, c.handle ≠ h) :
    handleArrival h s = some (.bare .notFound) := by
  rw [handleArrival, findHandle_none_iff.2 absent]

theorem handleArrival_held {h : Nat} {c : Commitment} (found : findHandle h s.store.commitments = some c) :
    handleArrival h s = none := by
  rw [handleArrival, found]

theorem amendArrival_absent {q : AmendRequest} (absent : ∀ c ∈ s.store.commitments, c.handle ≠ q.handle) :
    amendArrival q s = .inl .notFound := by
  rw [amendArrival, findHandle_none_iff.2 absent]

theorem amendArrival_reference {q : AmendRequest} {c : Commitment}
    (found : findHandle q.handle s.store.commitments = some c) (h : q.field = .marketReference ∧ q.operation ≠ .set) :
    amendArrival q s = .inl .outOfRange := by
  rw [amendArrival, found]
  exact if_pos h

theorem amendArrival_judged {q : AmendRequest} {c : Commitment}
    (found : findHandle q.handle s.store.commitments = some c) (h : ¬ (q.field = .marketReference ∧ q.operation ≠ .set)) :
    amendArrival q s = match amendArrivalRefusal c q (amendResult s.interval c q) s with
      | some status => .inl status
      | none => .inr (c, amendResult s.interval c q) := by
  rw [amendArrival, found]
  exact if_neg h

theorem amendRefused_of {q : AmendRequest} {status : Status} (h : amendArrival q s = .inl status) :
    amendRefused q s = some (.bare status) := by
  rw [amendRefused, h]

theorem amendRefused_none {q : AmendRequest} {c : Commitment} {result : AmendResult}
    (h : amendArrival q s = .inr (c, result)) : amendRefused q s = none := by
  rw [amendRefused, h]

end

/-! ### Selection and the rounds of service (R69 to R71) -/

theorem selectable_some {s : State} {e : Entry} (h : selectable s = some e) :
    s.store.inService = none ∧ passIdle s = true ∧ behindReset s = false ∧ pickEntry s.store.queue = some e := by
  unfold selectable at h
  split at h
  · next may => exact ⟨may.1, may.2.1, may.2.2, h⟩
  · nomatch h

theorem selectable_free {s : State} (free : s.store.inService = none) (idle : s.projector.passState = .idle)
    (ahead : behindReset s = false) : selectable s = pickEntry s.store.queue :=
  if_pos ⟨free, decide_eq_true idle, ahead⟩

theorem pickEntry_nil : pickEntry [] = none := rfl

theorem pickEntry_isSome {queue : List Entry} (h : queue ≠ []) : ∃ e, pickEntry queue = some e := by
  unfold pickEntry
  split
  · exact ⟨_, rfl⟩
  · split
    · exact ⟨_, rfl⟩
    · split
      · exact ⟨_, rfl⟩
      · exact ⟨queue.head h, List.head?_eq_some_head h⟩

theorem serveRounds_none {s : State} (h : selectable s = none) (n : Nat) : serveRounds n s = s := by
  cases n with
  | zero => rfl
  | succ n => rw [serveRounds, h]

/-- What one selection leaves: its entry served, and a Pass that is due begun. -/
def servedOnce (e : Entry) (s : State) : State :=
  beginIfDue (serveEntry e (setQueue (withoutSelected e.arrival s.store.queue) s))

theorem serveRounds_some {s : State} {e : Entry} (h : selectable s = some e) (n : Nat) :
    serveRounds (n + 1) s = serveRounds n (servedOnce e s) := by
  rw [serveRounds, h]
  rfl

theorem served_queue {e : Entry} {s t : State} (h : Served e s t) : t.store.queue = s.store.queue := by
  induction h with
  | answered reply r same => exact (by simp : (answerEntry e reply r).store.queue = r.store.queue).trans (queueView_eq_iff.1 same).1
  | screened => rfl
  | after h same ih => exact (queueView_eq_iff.1 same).1.trans ih

theorem servedOnce_queue {e : Entry} {s : State} (mem : e ∈ s.store.queue) :
    (servedOnce e s).store.queue.length < s.store.queue.length := by
  have kept : (servedOnce e s).store.queue = withoutSelected e.arrival s.store.queue := by
    rw [servedOnce]
    exact (by simp : ∀ t : State, (beginIfDue t).store.queue = t.store.queue) _ |>.trans (served_queue (served_entry _ _))
  rw [kept, withoutSelected, List.length_map]
  refine lt_of_lt_of_eq (List.length_filter_lt_length_iff_exists.2 ⟨e, mem, by simp⟩) rfl

/-- As many rounds as the queue holds are enough (R69). -/
theorem serveRounds_succ {n : Nat} {s : State} (h : s.store.queue.length ≤ n) :
    serveRounds (n + 1) s = serveRounds n s := by
  induction n generalizing s with
  | zero =>
    have empty : selectable s = none := by
      rw [selectable, List.length_eq_zero_iff.1 (Nat.le_zero.1 h), pickEntry_nil, ite_self]
    rw [serveRounds_none empty, serveRounds_none empty]
  | succ n ih =>
    cases picked : selectable s with
    | none => rw [serveRounds_none picked, serveRounds_none picked]
    | some e =>
      obtain ⟨_, _, _, pick⟩ := selectable_some picked
      have fewer := servedOnce_queue (pickEntry_spec pick).1
      rw [serveRounds_some picked, serveRounds_some picked, ih (by omega)]

theorem serveRounds_enough {n : Nat} {s : State} (h : s.store.queue.length ≤ n) : serveRounds n s = serveQueue s := by
  induction n, h using Nat.le_induction with
  | base => rfl
  | succ n le ih => rw [serveRounds_succ le, ih]

theorem serveQueue_none {s : State} (h : selectable s = none) : serveQueue s = s := serveRounds_none h _

theorem serveQueue_some {s : State} {e : Entry} (h : selectable s = some e) :
    serveQueue s = serveQueue (servedOnce e s) := by
  obtain ⟨_, _, _, pick⟩ := selectable_some h
  have fewer := servedOnce_queue (pickEntry_spec pick).1
  obtain ⟨n, count⟩ : ∃ n, s.store.queue.length = n + 1 := ⟨s.store.queue.length - 1, by omega⟩
  rw [serveQueue, count, serveRounds_some h, serveRounds_enough (by omega)]

/-! ### Admission (R17, R68, R69) -/

/-- The entry an admitted amendment becomes. -/
def arrivedEntry (p : Port) (tag code : Octet) (a : Amendment) (s : State) : Entry :=
  { cls := classOf a s.store.commitments, source := p, tag := tag, code := code, amendment := a,
    arrival := s.store.nextArrival, passing := 0 }

/-- The state once an amendment has joined the queue's young end. -/
def queuedState (p : Port) (tag code : Octet) (a : Amendment) (s : State) : State :=
  (s.setStore
    { s.store with
      queue := s.store.queue ++ [arrivedEntry p tag code a s], nextArrival := s.store.nextArrival + 1 }).setLink p
    { s.link p with outstanding := (s.link p).outstanding + 1 }

section
variable {p : Port} {tag code : Octet} {a : Amendment} {s : State}

theorem admitAmendment_portLimit (h : 12 ≤ (s.link p).outstanding) :
    admitAmendment p tag code a s = respond p tag code (.bare .portLimit) s := by
  rw [admitAmendment, if_pos h]

theorem admitAmendment_queueFull (h : (s.link p).outstanding < 12) (full : 16 ≤ s.store.queue.length) :
    admitAmendment p tag code a s = respond p tag code (.bare .queueFull) s := by
  rw [admitAmendment, if_neg (Nat.not_le.2 h), if_pos full]

theorem admitAmendment_queued (h : (s.link p).outstanding < 12) (room : s.store.queue.length < 16) :
    admitAmendment p tag code a s = serveQueue (queuedState p tag code a s) := by
  rw [admitAmendment, if_neg (Nat.not_le.2 h), if_neg (Nat.not_le.2 room)]
  simp only [State.link_setStore]
  rfl

theorem queuedState_selectable : selectable (queuedState p tag code a s) =
    if s.store.inService = none ∧ passIdle s ∧ behindReset s = false then
      pickEntry (s.store.queue ++ [arrivedEntry p tag code a s]) else none := by
  have behind : behindReset (queuedState p tag code a s) = behindReset s := by
    cases p <;> rfl
  rw [selectable, behind]
  simp [queuedState, passIdle]

end

/-! ### What a selection takes (R70) -/

theorem find?_oldest {queue : List Entry} {e : Entry} {those : Entry → Bool}
    (ordered : queue.Pairwise fun a b => a.arrival < b.arrival) (h : queue.find? those = some e) :
    e ∈ queue ∧ those e = true ∧ ∀ k ∈ queue, those k = true → e.arrival ≤ k.arrival := by
  obtain ⟨may, older, younger, rfl, before⟩ := List.find?_eq_some_iff_append.1 h
  refine ⟨by simp, may, fun k mem found => ?_⟩
  obtain ⟨_, tail, across⟩ := List.pairwise_append.1 ordered
  rcases List.mem_append.1 mem with old | rest
  · have other := before k old
    simp [found] at other
  · rcases List.mem_cons.1 rest with rfl | young
    · exact le_rfl
    · exact ((List.pairwise_cons.1 tail).1 k young).le

theorem withoutSelected_mem {queue : List Entry} {e : Entry}
    (ordered : queue.Pairwise fun a b => a.arrival < b.arrival) (mem : e ∈ queue) (k : Entry) :
    k ∈ withoutSelected e.arrival queue ↔
      ∃ j ∈ queue, j ≠ e ∧ k = { j with passing := if j.arrival < e.arrival then j.passing + 1 else j.passing } := by
  obtain ⟨older, younger, rfl, before, after⟩ := queue_split ordered mem
  have differs {j : Entry} (hj : j ∈ older ++ e :: younger) : j.arrival ≠ e.arrival ↔ j ≠ e := by
    refine ⟨fun other same => other (by rw [same]), fun other same => other ?_⟩
    rcases List.mem_append.1 hj with old | rest
    · have := before j old
      omega
    · rcases List.mem_cons.1 rest with rfl | young
      · rfl
      · have := after j young
        omega
  have counted (j : Entry) : (if j.arrival < e.arrival then { j with passing := j.passing + 1 } else j) =
      { j with passing := if j.arrival < e.arrival then j.passing + 1 else j.passing } := by
    split <;> rfl
  simp only [withoutSelected, List.mem_map, List.mem_filter, counted, decide_eq_true_iff]
  constructor
  · rintro ⟨j, ⟨hj, other⟩, rfl⟩
    exact ⟨j, hj, (differs hj).1 other, rfl⟩
  · rintro ⟨j, hj, other, rfl⟩
    exact ⟨j, ⟨hj, (differs hj).2 other⟩, rfl⟩

theorem behindReset_iff (s : State) : behindReset s = true ↔
    (s.raised.filter fun r => decide (r = .storeReset)).length <
      (s.raised.filter fun r => decide (r = .projectorReset)).length := by
  simp only [behindReset, raisedCount, decide_eq_true_iff, List.count, List.countP_eq_length_filter, beq_eq_decide]

theorem pickEntry_rules {queue : List Entry} {e : Entry}
    (ordered : queue.Pairwise fun a b => a.arrival < b.arrival) (few : ∀ k ∈ queue, k.passing ≤ 4)
    (picked : pickEntry queue = some e) :
    let oldest (those : Entry → Prop) : Prop :=
      e ∈ queue ∧ those e ∧ ∀ k ∈ queue, those k → e.arrival ≤ k.arrival
    let guarded := ∃ k ∈ queue, k.passing = 4
    let available := ∃ k ∈ queue, k.cls = .availability
    let firm := ∃ k ∈ queue, k.cls = .firm
    (guarded → oldest fun k => k.passing = 4) ∧
    (¬ guarded → available → oldest fun k => k.cls = .availability) ∧
    (¬ guarded → ¬ available → firm → oldest fun k => k.cls = .firm) ∧
    (¬ guarded → ¬ available → ¬ firm → oldest fun _ => True) := by
  intro oldest guarded available firm
  have atFour {k : Entry} (mem : k ∈ queue) : 4 ≤ k.passing ↔ k.passing = 4 := by
    have := few k mem
    omega
  unfold pickEntry at picked
  split at picked
  · next k found =>
    cases picked
    obtain ⟨mem, four, least⟩ := find?_oldest ordered found
    have four := (atFour mem).1 (of_decide_eq_true four)
    have guard : guarded := ⟨e, mem, four⟩
    exact ⟨fun _ => ⟨mem, four, fun k hk hf => least k hk (decide_eq_true hf.ge)⟩, fun no => absurd guard no,
      fun no => absurd guard no, fun no => absurd guard no⟩
  · next none =>
    have unguarded : ¬ guarded := fun ⟨k, mem, four⟩ => by
      simpa [four] using List.find?_eq_none.1 none k mem
    suffices rest : (available → oldest fun k => k.cls = .availability) ∧
        (¬ available → firm → oldest fun k => k.cls = .firm) ∧ (¬ available → ¬ firm → oldest fun _ => True) from
      ⟨fun guard => absurd guard unguarded, fun _ => rest.1, fun _ => rest.2.1, fun _ => rest.2.2⟩
    split at picked
    · next k found =>
      cases picked
      obtain ⟨mem, cls, least⟩ := find?_oldest ordered found
      have cls := of_decide_eq_true cls
      have some : available := ⟨e, mem, cls⟩
      exact ⟨fun _ => ⟨mem, cls, fun k hk hf => least k hk (decide_eq_true hf)⟩, fun no => absurd some no,
        fun no => absurd some no⟩
    · next none =>
      have unavailable : ¬ available := fun ⟨k, mem, cls⟩ => by
        simpa [cls] using List.find?_eq_none.1 none k mem
      refine ⟨fun some => absurd some unavailable, fun _ => ?_, fun _ => ?_⟩
      · intro ⟨j, memj, clsj⟩
        split at picked
        · next k found =>
          cases picked
          obtain ⟨mem, cls, least⟩ := find?_oldest ordered found
          exact ⟨mem, of_decide_eq_true cls, fun k hk hf => least k hk (decide_eq_true hf)⟩
        · next none => exact absurd clsj (by simpa using List.find?_eq_none.1 none j memj)
      · intro noFirm
        split at picked
        · next k found =>
          obtain ⟨mem, cls, _⟩ := find?_oldest ordered found
          exact absurd ⟨k, mem, of_decide_eq_true cls⟩ noFirm
        · next none =>
          cases queue with
          | nil => nomatch picked
          | cons first rest =>
            cases picked
            refine ⟨by simp, trivial, fun k mem _ => ?_⟩
            rcases List.mem_cons.1 mem with rfl | young
            · exact le_rfl
            · exact ((List.pairwise_cons.1 ordered).1 k young).le

/-! ### ENTER_OUTAGE and RETIRE_OUTAGE (R179, R180) -/

theorem not_expired (interval : Nat) : (fun o : Outage => !o.expired interval) = fun o => decide (interval ≤ o.last) := by
  funext o
  rw [Outage.expired, ← decide_not]
  exact decide_eq_decide.2 Nat.not_lt

theorem liveOutages_eq (outages : List Outage) (interval : Nat) :
    liveOutages outages interval = (outages.filter fun o => decide (interval ≤ o.last)).length := by
  rw [liveOutages, not_expired]

theorem derateInRange_iff (t : Train) (m : Option Nat) : derateInRange t m = true ↔
    ∀ n, m = some n → 1 ≤ n ∧ n ≤ (if trainKind t = .compressor then 900 else 1200) := by
  cases m with
  | none => simp [derateInRange]
  | some n => simp [derateInRange, inRange, maxPower_eq]

theorem findOutage_none_iff {h : Nat} {outages : List Outage} :
    findOutage h outages = none ↔ ∀ o ∈ outages, o.handle ≠ h := by
  simp [findOutage, List.find?_eq_none]

section
variable {f : Frame} {s r : State}

theorem exec_enterOutage_admitted {q : OutageRequest} (ha : Admitted supervisoryOnly f s r) (hb : f.body = outageOctets q)
    (hq : q.encodable) : exec (.enterOutage f) s = .next (enterOutageOwner (viaPort f.via) f.tag q r) :=
  congrArg Host.Outcome.next (takeRequest_admitted ha (hb ▸ parseBody_outage q hq))

theorem exec_retireOutage_admitted {h : Nat} (ha : Admitted supervisoryOnly f s r) (hb : f.body = u8 h) (hh : h < 256) :
    exec (.retireOutage f) s = .next (retireOutageOwner (viaPort f.via) f.tag h r) :=
  congrArg Host.Outcome.next (takeRequest_admitted ha (hb ▸ parseBody_u8 h hh))

end

section
variable {q : OutageRequest} {s : State}

theorem outageRefusal_past (h : q.last < s.interval) : outageRefusal q s = some .pastInterval := if_pos h

theorem outageRefusal_ahead (h : s.interval ≤ q.last) : outageRefusal q s =
    if 16 ≤ (s.tables.outages.filter fun o => decide (s.interval ≤ o.last)).length then some .tableFull else none := by
  rw [outageRefusal, if_neg (Nat.not_lt.2 h), liveOutages_eq]

theorem outageArrival_unconfigured (h : s.dispatcher.mode = .unconfigured) : outageArrival q s = some .wrongState :=
  if_pos h

variable (configured : s.dispatcher.mode ≠ .unconfigured)
include configured

theorem outageArrival_wrongKind (h : ¬ (q.derateMax.isSome = true ↔ q.kind = .derate)) :
    outageArrival q s = some .wrongKind := by
  rw [outageArrival, if_neg configured, if_pos fun same => h (by rw [same, decide_eq_true_iff])]

variable (kind : q.derateMax.isSome = true ↔ q.kind = .derate)
include kind

theorem outageArrival_ranges : outageArrival q s =
    if q.last < q.first ∨ derateInRange q.train q.derateMax = false then some .outOfRange else outageRefusal q s := by
  rw [outageArrival, if_neg configured, if_neg fun other => other (by
    rw [Bool.eq_iff_iff, decide_eq_true_iff, kind])]

theorem outageArrival_within (first : q.first ≤ q.last) (derate : derateInRange q.train q.derateMax = true) :
    outageArrival q s = outageRefusal q s := by
  rw [outageArrival_ranges configured kind, if_neg (by simp [first, derate])]

end

/-! ### O28 -/

/-- An ENTER that meets every check passes its arrival. -/
theorem exec_enter_admits {f : Frame} {s r : State} {q : EnterRequest} (ha : Admitted bothPorts f s r)
    (hb : f.body = enterOctets q) (hq : q.encodable) (configured : r.dispatcher.mode ≠ .unconfigured)
    (right : hasRight r.store.authority (viaPort f.via) (.enter q) = true) (within : enterInRange q = true)
    (passes : enterRefusal q r = none) :
    exec (.enter f) s = .next (admitAmendment (viaPort f.via) f.tag 0x01 (.enter q) r) := by
  rw [exec_enter_admitted ha hb hq,
    scheduleChange_admitted configured right (by rw [enterArrival_inRange within, passes, Option.map_none])]

theorem exec_amend_admits {f : Frame} {s r : State} {q : AmendRequest} {c : Commitment} (ha : Admitted bothPorts f s r)
    (hb : f.body = amendOctets q) (hq : q.encodable) (hp : q.preview = false)
    (configured : r.dispatcher.mode ≠ .unconfigured)
    (right : hasRight r.store.authority (viaPort f.via) (.amend q) = true)
    (found : findHandle q.handle r.store.commitments = some c) (operation : q.field = .marketReference → q.operation = .set)
    (passes : amendArrivalRefusal c q (amendResult r.interval c q) r = none) :
    exec (.amend f) s = .next (admitAmendment (viaPort f.via) f.tag 0x02 (.amend q) r) := by
  have judged := amendArrival_judged found fun both => both.2 (operation both.1)
  rw [passes] at judged
  rw [exec_amend_admitted ha hb hq hp, scheduleChange_admitted configured right (amendRefused_none judged)]

section
variable {f : Frame} {s r : State} {h : Nat} {c : Commitment} (ha : Admitted bothPorts f s r) (hb : f.body = u16 h)
  (hh : h < 65536) (configured : r.dispatcher.mode ≠ .unconfigured)
  (found : findHandle h r.store.commitments = some c)
include ha hb hh configured found

theorem exec_confirm_admits (right : hasRight r.store.authority (viaPort f.via) (.confirm h) = true) :
    exec (.confirm f) s = .next (admitAmendment (viaPort f.via) f.tag 0x03 (.confirm h) r) := by
  rw [exec_confirm_admitted ha hb hh, scheduleChange_admitted configured right (handleArrival_held found)]

theorem exec_retire_admits (right : hasRight r.store.authority (viaPort f.via) (.retire h) = true) :
    exec (.retire f) s = .next (admitAmendment (viaPort f.via) f.tag 0x04 (.retire h) r) := by
  rw [exec_retire_admitted ha hb hh, scheduleChange_admitted configured right (handleArrival_held found)]

end

/-- While the queue waits a test for a selection changes nothing. -/
theorem serveQueue_waits {s : State} (waits : s.store.queue = [] ∨ s.store.inService ≠ none ∨
    s.projector.passState ≠ .idle ∨ behindReset s = true) : serveQueue s = s := by
  refine serveQueue_none ?_
  rw [selectable]
  obtain empty | rest := waits
  · rw [empty, pickEntry_nil, ite_self]
  · refine if_neg fun may => ?_
    obtain ⟨free, idle, ahead⟩ := may
    obtain held | busy | behind := rest
    · exact held free
    · exact busy (of_decide_eq_true idle)
    · rw [ahead] at behind
      nomatch behind

theorem queuedState_waits {p : Port} {tag code : Octet} {a : Amendment} {s : State}
    (waits : s.store.inService ≠ none ∨ s.projector.passState ≠ .idle ∨ behindReset s = true) :
    serveQueue (queuedState p tag code a s) = queuedState p tag code a s := by
  refine serveQueue_none ((queuedState_selectable).trans (if_neg fun may => ?_))
  obtain ⟨free, idle, ahead⟩ := may
  obtain held | busy | behind := waits
  · exact held free
  · exact busy (of_decide_eq_true idle)
  · rw [ahead] at behind
    nomatch behind

theorem classOf_rules (a : Amendment) (records : List Commitment) :
    let cls := classOf a records
    (∀ q h, a = .enterOutage q ∨ a = .retireOutage h → cls = .availability) ∧
    (∀ h, a = .confirm h ∨ a = .retire h → cls = .firm) ∧
    (∀ q, a = .enter q → cls = if q.standing = .firm then .firm else .tentative) ∧
    (∀ q c, a = .amend q → findHandle q.handle records = some c →
      cls = if c.standing = .firm then .firm else .tentative) := by
  refine ⟨?_, ?_, ?_, ?_⟩
  · rintro q h (rfl | rfl) <;> rfl
  · rintro h (rfl | rfl) <;> rfl
  · rintro q rfl
    cases h : q.standing <;> simp [classOf, h]
  · rintro q c rfl found
    cases h : c.standing <;> simp [classOf, found, h]

/-- Settles O28: admission, the Classes, selection, and the service that goes on while the queue may be served. -/
theorem theQueueAdmitsSelectsAndServes : Obligations.TheQueueAdmitsSelectsAndServes := by
  unfold Obligations.TheQueueAdmitsSelectsAndServes
  refine ⟨fun p tag code a s => ?_, fun f s r configured => ?_, fun queue e ordered few picked => ?_, classOf_rules,
    fun s => ?_, behindReset_iff⟩
  · intro refused entry queued
    exact ⟨admitAmendment_portLimit, admitAmendment_queueFull,
      fun out room waits => (admitAmendment_queued out room).trans (queuedState_waits waits), admitAmendment_queued⟩
  · intro p admitted right
    refine ⟨fun q ha hb hq may low high power firm tentative last fresh room => ?_,
      fun q c ha hb hq hp may found operation passes => ?_, fun h ha hb hh may held => ?_,
      fun q ha hb hq kind first derate ahead room => ?_, fun h ha hb hh held => ?_⟩
    · have onTime : ¬ EnterLate q r := fun late => by
        have := firm late.1
        have := late.2
        omega
      have ahead : ¬ EnterGated q r := fun gated => by
        have := tentative gated.1
        have := gated.2
        omega
      have unique : ¬ EnterDuplicate q r := fun ⟨nonzero, c, mem, same⟩ =>
        fresh.elim nonzero fun other => other c mem same
      refine exec_enter_admits ha hb hq configured ((hasRight_enter_iff ..).2 may)
        ((enterInRange_iff q).2 ⟨low, high, power⟩) ?_
      rw [enterRefusal_room onTime ahead (Nat.not_lt.2 last) unique, if_neg (Nat.not_le.2 room)]
    · exact exec_amend_admits ha hb hq hp configured ((hasRight_amend_iff _ _ (.inl ⟨q, rfl⟩)).2 may) found operation passes
    · obtain ⟨c, found⟩ := findHandle_isSome held
      exact ⟨exec_confirm_admits ha hb hh configured found ((hasRight_amend_iff _ _ (.inr (.inl ⟨h, rfl⟩))).2 may),
        exec_retire_admits ha hb hh configured found ((hasRight_amend_iff _ _ (.inr (.inr ⟨h, rfl⟩))).2 may)⟩
    · have passes : outageArrival q r = none := by
        rw [outageArrival_within configured kind first ((derateInRange_iff ..).2 derate), outageRefusal_ahead ahead,
          if_neg (Nat.not_le.2 room)]
      show exec (.enterOutage f) s = _
      rw [exec_enterOutage_admitted ha hb hq, enterOutageOwner, passes]
    · obtain ⟨o, mem, same⟩ := held
      obtain ⟨o, found⟩ := Option.ne_none_iff_exists'.1 fun none => findOutage_none_iff.1 none o mem same
      show exec (.retireOutage f) s = _
      rw [exec_retireOutage_admitted ha hb hh, retireOutageOwner, if_neg configured, found]
  · obtain ⟨four, available, firm, any⟩ := pickEntry_rules ordered few picked
    exact ⟨four, available, firm, any, withoutSelected_mem ordered (pickEntry_spec picked).1⟩
  · refine ⟨serveQueue_waits, fun ready ordered => ?_⟩
    simp only [not_or, not_not, Bool.not_eq_true] at ready
    obtain ⟨some, free, idle, ahead⟩ := ready
    obtain ⟨e, picked⟩ := pickEntry_isSome some
    exact ⟨e, (pickEntry_spec picked).1, picked,
      serveQueue_some ((selectable_free free idle ahead).trans picked)⟩

end Sys2Proof.Machine
end

/-!
What the service of a queued entry refuses and decides, and the rights of the Authority States: O25, O26, O20.
-/
section
namespace Sys2Proof.Machine

/-! ### FORCE (R64) -/

theorem exec_force_admitted {f : Frame} {s r : State} (ha : Admitted marketOnly f s r) (hb : f.body = []) :
    exec (.force f) s = .next (afterOwner f 0x12 (forceOwner r)) :=
  congrArg Host.Outcome.next (atOnce_admitted ha (hb ▸ parseBody_empty))

theorem forceOwner_market {r : State} (h : r.store.authority = .market) :
    forceOwner r = (.withBody .doneUnchanged [0], r) := by
  rw [forceOwner, h, authorityReply, h]
  rfl

theorem forceOwner_open {r : State} (h : r.store.authority = .openState) :
    forceOwner r = (.withBody .done [0], setAuthority .market r) := by
  rw [forceOwner, h]
  rfl

theorem forceOwner_supervisory {r : State} (h : r.store.authority = .supervisory) :
    forceOwner r = (.withBody .done [0], setSticky .authorityForced (setAuthority .market r)) := by
  rw [forceOwner, h]
  rfl

/-! ### Service (R72) -/

section
variable {e : Entry} {s : State}

theorem serveEntry_lost (h : ¬ hasRight s.store.authority e.source e.amendment = true) :
    serveEntry e s = answerEntry e (.withBody .authorityLost (u8 (authorityCode s.store.authority))) s :=
  if_neg h

theorem serveEntry_right (h : hasRight s.store.authority e.source e.amendment = true) : serveEntry e s =
    match e.amendment with
    | .enter r => serveEnter e r s
    | .amend q => serveRecord e q.handle (serveAmend e q) s
    | .confirm h => serveRecord e h (serveConfirm e) s
    | .retire h => serveRecord e h (fun c k => serveRemoval e (.withBody .done (commitmentBody c)) c k) s
    | .enterOutage q => serveOutage e q s
    | .retireOutage h => serveRetireOutage e h s :=
  if_pos h

theorem serveEnter_refused {q : EnterRequest} {status : Status} (h : enterRefusal q s = some status) :
    serveEnter e q s = answerEntry e (.bare status) s := by
  rw [serveEnter, h]

theorem serveRecord_absent {h : Nat} {serve : Commitment → State → State}
    (absent : ∀ c ∈ s.store.commitments, c.handle ≠ h) : serveRecord e h serve s = answerEntry e (.bare .notFound) s := by
  rw [serveRecord, findHandle_none_iff.2 absent]

theorem serveRecord_held {h : Nat} {serve : Commitment → State → State} {c : Commitment}
    (found : findHandle h s.store.commitments = some c) : serveRecord e h serve s = serve c s := by
  rw [serveRecord, found]

theorem serveAmend_refused {q : AmendRequest} {c : Commitment} {status : Status}
    (h : amendServiceRefusal c q (amendResult s.interval c q) s = some status) :
    serveAmend e q c s = answerEntry e (.bare status) s := by
  unfold serveAmend
  dsimp only
  rw [h]

end

section
variable {c : Commitment} {q : AmendRequest} {result : AmendResult} {s : State}

/-- At service the past rule follows the checks of the arrival (R72, log 27). -/
theorem amendServiceRefusal_eq : amendServiceRefusal c q result s =
    match amendArrivalRefusal c q result s with
    | some status => some status
    | none => if c.standing = .tentative ∧ c.start ≤ s.interval then some .pastInterval else none := by
  unfold amendServiceRefusal amendArrivalRefusal
  split
  · rfl
  · split <;> rfl

theorem amendServiceRefusal_arrival {status : Status} (h : amendArrivalRefusal c q result s = some status) :
    amendServiceRefusal c q result s = some status := by
  rw [amendServiceRefusal_eq, h]

theorem amendServiceRefusal_past (h : amendArrivalRefusal c q result s = none) (tentative : c.standing = .tentative)
    (past : c.start ≤ s.interval) : amendServiceRefusal c q result s = some .pastInterval := by
  rw [amendServiceRefusal_eq, h]
  exact if_pos ⟨tentative, past⟩

theorem amendServiceRefusal_none (h : amendArrivalRefusal c q result s = none)
    (ahead : c.standing = .tentative → s.interval < c.start) : amendServiceRefusal c q result s = none := by
  rw [amendServiceRefusal_eq, h]
  exact if_neg fun both => Nat.not_le.2 (ahead both.1) both.2

end

/-! ### The service of the outage requests (R179, R180) -/

theorem noticeTrains_answerEntry (ts : List Train) (e : Entry) (reply : Reply) (s : State) :
    noticeTrains ts (answerEntry e reply s) = answerEntry e reply (noticeTrains ts s) := by
  rw [answerEntry_eq, answerEntry_eq]
  cases e.source <;> rfl

/-- The Expired records dropped (R179). -/
def unexpired (s : State) : State :=
  s.setTables { s.tables with outages := s.tables.outages.filter fun o => decide (s.interval ≤ o.last) }

/-- Whether a train loses a record to the expiry (R179). -/
def losesOutage (s : State) (t : Train) : Bool := s.tables.outages.any fun o => decide (o.train = t ∧ o.last < s.interval)

theorem removeExpired_eq (s : State) : removeExpired s.interval s = (unexpired s, allTrains.filter (losesOutage s)) := by
  have lost : (fun t => s.tables.outages.any fun o => decide (o.train = t) && o.expired s.interval) = losesOutage s := by
    funext t
    simp only [losesOutage, Outage.expired, Bool.decide_and]
  simp only [removeExpired, not_expired, lost]
  rfl

theorem serveOutage_refused {e : Entry} {q : OutageRequest} {s : State} {status : Status}
    (h : outageRefusal q (unexpired s) = some status) :
    serveOutage e q s = answerEntry e (.bare status) (noticeTrains (allTrains.filter (losesOutage s)) (unexpired s)) := by
  unfold serveOutage
  dsimp only
  rw [removeExpired_eq, h]
  exact noticeTrains_answerEntry ..

theorem outageRefusal_unexpired {q : OutageRequest} {s : State} : outageRefusal q (unexpired s) = outageRefusal q s := by
  have same : (unexpired s).interval = s.interval := rfl
  have live : liveOutages (unexpired s).tables.outages s.interval = liveOutages s.tables.outages s.interval := by
    rw [liveOutages_eq, liveOutages_eq]
    simp [unexpired, List.filter_filter]
  rw [outageRefusal, outageRefusal, same, live]

theorem serveRetireOutage_absent {e : Entry} {h : Nat} {s : State} (absent : ∀ o ∈ s.tables.outages, o.handle ≠ h) :
    serveRetireOutage e h s = answerEntry e (.bare .notFound) s := by
  have none : (s.tables.outages.find? fun o => decide (o.handle = h)) = none := findOutage_none_iff.2 absent
  rw [serveRetireOutage, none]

/-- Settles O26: each check of the service of a queued entry, in its order. -/
theorem queuedEntriesAreRefusedAtService : Obligations.QueuedEntriesAreRefusedAtService := by
  unfold Obligations.QueuedEntriesAreRefusedAtService
  intro e s answer refused right gate unknown
  refine ⟨serveEntry_lost, fun q hq may => ?_, fun q hq may => ?_, fun h hq may absent => ?_, fun q hq => ?_,
    fun h hq absent => ?_⟩
  · intro late gated beyond duplicate
    have served {status : Status} (h : enterRefusal q s = some status) : refused status := by
      show serveEntry e s = _
      rw [serveEntry_right may, hq]
      exact serveEnter_refused h
    refine ⟨fun isLate => served (enterRefusal_late isLate), fun isGated => served (enterRefusal_gated isGated),
      fun onTime ahead => ⟨fun isBeyond => served (enterRefusal_beyond onTime ahead isBeyond),
        fun within taken => served (enterRefusal_duplicate onTime ahead within taken), fun within fresh full => ?_⟩⟩
    exact served ((enterRefusal_room onTime ahead within fresh).trans (if_pos full))
  · have served : serveEntry e s = serveRecord e q.handle (serveAmend e q) s := by
      rw [serveEntry_right may, hq]
    refine ⟨fun absent => served.trans (serveRecord_absent absent), fun c found => ?_⟩
    have amended := served.trans (serveRecord_held found)
    exact ⟨fun status arrival => amended.trans (serveAmend_refused (amendServiceRefusal_arrival arrival)),
      fun arrival tentative past =>
        amended.trans (serveAmend_refused (amendServiceRefusal_past arrival tentative past))⟩
  · show serveEntry e s = _
    rw [serveEntry_right may]
    obtain hq | hq := hq <;> rw [hq] <;> exact serveRecord_absent absent
  · intro kept lost refusedClearing
    have served {status : Status} (h : outageRefusal q s = some status) : refusedClearing status := by
      show serveEntry e s = _
      rw [serveEntry_right (by rw [hq]; rfl), hq]
      exact serveOutage_refused (outageRefusal_unexpired.trans h)
    exact ⟨fun past => served (outageRefusal_past past),
      fun ahead full => served ((outageRefusal_ahead ahead).trans (if_pos full))⟩
  · show serveEntry e s = _
    rw [serveEntry_right (by rw [hq]; rfl), hq]
    exact serveRetireOutage_absent absent

/-- Settles O25: FORCE, the service that AUTHORITY_LOST refuses, and the table of rights. -/
theorem authorityGivesTheRightToChangeTheSchedule : Obligations.AuthorityGivesTheRightToChangeTheSchedule := by
  unfold Obligations.AuthorityGivesTheRightToChangeTheSchedule
  refine ⟨fun f s r ha hb => ?_, fun e s market supervisory noEnter noRetire => ?_, fun authority e q h => ?_⟩
  · intro market
    rw [exec_force_admitted ha hb]
    refine ⟨fun h => ?_, fun h => ?_, fun h => ⟨r.sticky ||| stickyBit .authorityForced, fun i => ?_, ?_⟩⟩
    · rw [forceOwner_market h, afterOwner_withBody]
    · rw [forceOwner_open h, afterOwner_withBody]
      rfl
    · rw [BitVec.getLsbD_or, Bool.or_eq_true, getLsbD_stickyBit]
      rfl
    · rw [forceOwner_supervisory h, afterOwner_withBody]
      rfl
  · have lost : ¬ hasRight s.store.authority e.source e.amendment = true := by
      rw [market, supervisory]
      cases a : e.amendment with
      | enter q => cases standing : q.standing <;> simp [hasRight, standing]
      | amend q => simp [hasRight]
      | confirm h => simp [hasRight]
      | retire h => simp [hasRight]
      | enterOutage q => exact absurd a (noEnter q)
      | retireOutage h => exact absurd a (noRetire h)
    rw [serveEntry_lost lost, market]
    rfl
  · refine ⟨fun a ha => ?_, fun firm => ?_, fun tentative => ?_⟩
    · have kind : (∃ q, a = .amend q) ∨ (∃ h, a = .confirm h) ∨ ∃ h, a = .retire h :=
        ha.imp (⟨q, ·⟩) (Or.imp (⟨h, ·⟩) (⟨h, ·⟩))
      exact ⟨hasRight_amend_iff authority .mp kind, hasRight_amend_iff authority .sp kind⟩
    · simp [hasRight, firm]
    · simp [hasRight, tentative]

end Sys2Proof.Machine
end

/-!
The amendments decided at once on an idle Projector: O20, O17, O19.
-/
section
namespace Sys2Proof.Machine

/-! ### An amendment that arrives on an empty queue (R69, R73) -/

/-- The Store with the next Arrival Order taken. -/
def arrivalTaken (s : State) : State := s.setStore { s.store with nextArrival := s.store.nextArrival + 1 }

/-- A port's Outstanding Count raised by one. -/
def countIn (p : Port) (s : State) : State :=
  s.setLink p { s.link p with outstanding := (s.link p).outstanding + 1 }

theorem countIn_setStore (p : Port) (s : State) (st : Store) : (countIn p s).setStore st = countIn p (s.setStore st) := by
  cases p <;> rfl

theorem countIn_store (p : Port) (s : State) : (countIn p s).store = s.store := by cases p <;> rfl

theorem countIn_clock (p : Port) (s : State) : (countIn p s).clock = s.clock := by cases p <;> rfl

theorem countIn_interval (p : Port) (s : State) : (countIn p s).interval = s.interval := by cases p <;> rfl

/-- The answer of an entry just counted in is an answer at once. -/
theorem answerEntry_countIn (e : Entry) (reply : Reply) (s : State) :
    answerEntry e reply (countIn e.source s) = respond e.source e.tag e.code reply s := by
  rw [answerEntry_eq, countIn]
  simp only [State.link_setLink, State.setLink_setLink, Nat.add_sub_cancel]
  rfl

theorem setCommitments_countIn (records : List Commitment) (p : Port) (s : State) :
    setCommitments records (countIn p s) = countIn p (setCommitments records s) := by
  rw [setCommitments, setCommitments, countIn_store, countIn_setStore]

theorem arrived_withoutSelected (p : Port) (tag code : Octet) (a : Amendment) (s : State) :
    withoutSelected (arrivedEntry p tag code a s).arrival [arrivedEntry p tag code a s] = [] := by
  simp [withoutSelected]

theorem pickEntry_singleton (e : Entry) : pickEntry [e] = some e := by
  obtain ⟨k, picked⟩ := pickEntry_isSome (List.cons_ne_nil e [])
  have mem := (pickEntry_spec picked).1
  rw [picked, List.mem_singleton.1 mem]

/-- With nothing waiting, no Pass in flight and no reset still to reach the Projector the amendment is served at once. -/
theorem admitAmendment_idle {p : Port} {tag code : Octet} {a : Amendment} {s : State} (out : (s.link p).outstanding < 12)
    (empty : s.store.queue = []) (free : s.store.inService = none) (idle : s.projector.passState = .idle)
    (ahead : behindReset s = false) : admitAmendment p tag code a s =
      beginIfDue (serveEntry (arrivedEntry p tag code a s) (countIn p (arrivalTaken s))) := by
  have room : s.store.queue.length < 16 := by rw [empty]; decide
  have queue : (queuedState p tag code a s).store.queue = [arrivedEntry p tag code a s] := by
    simp [queuedState, empty]
  have picked : selectable (queuedState p tag code a s) = some (arrivedEntry p tag code a s) := by
    rw [queuedState_selectable, if_pos ⟨free, decide_eq_true idle, ahead⟩, empty, List.nil_append, pickEntry_singleton]
  have taken : setQueue [] (queuedState p tag code a s) = countIn p (arrivalTaken s) := by
    have kept : s.store = { s.store with queue := [] } := by rw [← empty]
    rw [setQueue, queuedState, arrivalTaken, State.setStore_setLink, countIn, State.link_setStore, State.setLink_store]
    congr 1
    rw [kept]
    rfl
  rw [admitAmendment_queued out room, serveQueue, queue]
  show serveRounds (0 + 1) _ = _
  rw [serveRounds_some picked, servedOnce, queue, arrived_withoutSelected, taken]
  rfl

/-! ### Passes that follow (R84) -/

theorem beginIfDue_beginPass (s : State) : beginIfDue (beginPass s) = beginPass s := if_neg fun due => nomatch due.1

theorem beginIfDue_beginScreen (trial : Trial) (s : State) : beginIfDue (beginScreen trial s) = beginScreen trial s :=
  if_neg fun due => nomatch due.2.1

/-- With an idle Projector a Pass begins once it is triggered. -/
theorem beginIfDue_triggerPass {s : State} (idle : s.projector.passState = .idle)
    (configured : s.dispatcher.mode ≠ .unconfigured) : beginIfDue (triggerPass s) = beginPass s := by
  have due : (triggerPass s).projector.passPending = true ∧ passIdle (triggerPass s) = true ∧
      (triggerPass s).dispatcher.mode ≠ .unconfigured := ⟨rfl, decide_eq_true idle, configured⟩
  rw [beginIfDue, if_pos due]
  rfl

/-! ### The service of an entry just counted in -/

theorem raiseAll_nil (s : State) : raiseAll [] s = s := by
  rw [raiseAll, List.append_nil]
  rfl

/-- The Active Firm Notice of a change of a FIRM ACTIVE record (R53). -/
def firmNotice (c : Commitment) : List Raised := if c.standing = .firm ∧ c.isActive = true then [.activeFirm] else []

theorem noticeIfActive_firm {c : Commitment} (firm : c.standing = .firm) (s : State) :
    noticeIfActive c s = raiseAll (firmNotice c) s := by
  unfold noticeIfActive firmNotice
  by_cases active : c.isActive = true
  · rw [if_pos active, if_pos ⟨firm, active⟩]
    rfl
  · rw [if_neg active, if_neg fun both => active both.2, raiseAll_nil]

theorem firmNotice_tentative {c : Commitment} (tentative : c.standing = .tentative) : firmNotice c = [] :=
  if_neg fun both => nomatch (tentative.symm.trans both.1 : Standing.tentative = .firm)

theorem raiseAll_respond (events : List Raised) (p : Port) (tag code : Octet) (reply : Reply) (s : State) :
    raiseAll events (respond p tag code reply s) = respond p tag code reply (raiseAll events s) := by
  cases p <;> rfl

section
variable {e : Entry} {s : State}

theorem serveConfirm_firm {c : Commitment} (firm : c.standing = .firm) :
    serveConfirm e c (countIn e.source s) =
      respond e.source e.tag e.code (.withBody .doneUnchanged (commitmentBody c)) s := by
  rw [serveConfirm, firm]
  exact answerEntry_countIn ..

theorem serveConfirm_tentative {c : Commitment} (tentative : c.standing = .tentative) :
    serveConfirm e c (countIn e.source s) =
      respond e.source e.tag e.code (.withBody .done (commitmentBody { c with standing := .firm }))
        (setCommitments (changeRecord c.handle (fun k => { k with standing := .firm }) s.store.commitments) s) := by
  rw [serveConfirm, tentative]
  dsimp only
  rw [setCommitments_countIn, countIn_store, answerEntry_countIn]

/-- A removal is answered at once, and a Pass begins. -/
theorem serveRemoval_idle (reply : Reply) (c : Commitment) (idle : s.projector.passState = .idle)
    (configured : s.dispatcher.mode ≠ .unconfigured) :
    beginIfDue (serveRemoval e reply c (countIn e.source s)) =
      beginPass (respond e.source e.tag e.code reply
        (raiseAll (firmNotice c) (setCommitments (removeRecord c.handle s.store.commitments) s))) := by
  rw [serveRemoval, setCommitments_countIn, countIn_store, answerEntry_countIn]
  cases standing : c.standing with
  | firm =>
    dsimp only
    rw [noticeIfActive_firm standing, raiseAll_respond, beginIfDue_beginPass]
  | tentative =>
    rw [firmNotice_tentative standing, raiseAll_nil]
    exact beginIfDue_triggerPass (by simpa using idle) (by simpa using configured)

end

/-- The service of an entry that names a held record. -/
theorem serveEntry_record {e : Entry} {s : State} {h : Nat} {c : Commitment} {serve : Commitment → State → State}
    (right : hasRight s.store.authority e.source e.amendment = true)
    (found : findHandle h s.store.commitments = some c)
    (names : (e.amendment = .confirm h ∧ serve = serveConfirm e) ∨
      (e.amendment = .retire h ∧ serve = fun c k => serveRemoval e (.withBody .done (commitmentBody c)) c k) ∨
      ∃ q, e.amendment = .amend q ∧ q.handle = h ∧ serve = serveAmend e q) : serveEntry e s = serve c s := by
  rw [serveEntry_right right]
  obtain ⟨amendment, rfl⟩ | ⟨amendment, rfl⟩ | ⟨q, amendment, rfl, rfl⟩ := names <;>
    · rw [amendment]
      exact serveRecord_held found

/-- Settles O20: CONFIRM makes a record FIRM, RETIRE removes it. -/
theorem confirmAndRetireAreRefusedOrDecided : Obligations.ConfirmAndRetireAreRefusedOrDecided := by
  unfold Obligations.ConfirmAndRetireAreRefusedOrDecided
  intro f h s r ha hb hh right refused
  have mayConfirm := hasRight_amend_iff r.store.authority (viaPort f.via) (a := .confirm h) (.inr (.inl ⟨h, rfl⟩))
  have mayRetire := hasRight_amend_iff r.store.authority (viaPort f.via) (a := .retire h) (.inr (.inr ⟨h, rfl⟩))
  have confirm := exec_confirm_admitted ha hb hh
  have retire := exec_retire_admitted ha hb hh
  refine ⟨fun unconfigured => ⟨?_, ?_⟩, fun configured no => ⟨?_, ?_⟩, fun configured may => ⟨fun absent => ⟨?_, ?_⟩, ?_⟩⟩
  · exact confirm.trans (congrArg _ (scheduleChange_unconfigured unconfigured))
  · exact retire.trans (congrArg _ (scheduleChange_unconfigured unconfigured))
  · exact confirm.trans (congrArg _ (scheduleChange_noRight configured (mayConfirm.not.2 no)))
  · exact retire.trans (congrArg _ (scheduleChange_noRight configured (mayRetire.not.2 no)))
  · exact confirm.trans (congrArg _
      (scheduleChange_refused configured (mayConfirm.2 may) (handleArrival_absent absent)))
  · exact retire.trans (congrArg _
      (scheduleChange_refused configured (mayRetire.2 may) (handleArrival_absent absent)))
  · intro out empty free idle ahead c found counted firm confirmed removed notice
    have atOnce (code : Octet) (a : Amendment) :=
      admitAmendment_idle (tag := f.tag) (code := code) (a := a) out empty free idle ahead
    have confirmed := exec_confirm_admits ha hb hh configured found (mayConfirm.2 may)
    have retired := exec_retire_admits ha hb hh configured found (mayRetire.2 may)
    have kept : (countIn (viaPort f.via) (arrivalTaken r)).store = (arrivalTaken r).store := countIn_store ..
    have served : serveEntry (arrivedEntry (viaPort f.via) f.tag 0x03 (.confirm h) r)
        (countIn (viaPort f.via) (arrivalTaken r)) =
          serveConfirm (arrivedEntry (viaPort f.via) f.tag 0x03 (.confirm h) r) c
            (countIn (viaPort f.via) (arrivalTaken r)) :=
      serveEntry_record (by rw [kept]; exact mayConfirm.2 may) (by rw [kept]; exact found) (.inl ⟨rfl, rfl⟩)
    have removal : serveEntry (arrivedEntry (viaPort f.via) f.tag 0x04 (.retire h) r)
        (countIn (viaPort f.via) (arrivalTaken r)) =
          serveRemoval (arrivedEntry (viaPort f.via) f.tag 0x04 (.retire h) r) (.withBody .done (commitmentBody c)) c
            (countIn (viaPort f.via) (arrivalTaken r)) :=
      serveEntry_record
        (serve := fun c => serveRemoval (arrivedEntry (viaPort f.via) f.tag 0x04 (.retire h) r)
          (.withBody .done (commitmentBody c)) c)
        (by rw [kept]; exact mayRetire.2 may) (by rw [kept]; exact found) (.inr (.inl ⟨rfl, rfl⟩))
    rw [atOnce] at confirmed retired
    rw [served] at confirmed
    rw [removal] at retired
    refine ⟨fun tentative => ?_, fun isFirm => ?_, ?_⟩
    · exact confirmed.trans (congrArg (fun k => Host.Outcome.next (beginIfDue k)) (serveConfirm_tentative tentative))
    · exact confirmed.trans (congrArg (fun k => Host.Outcome.next (beginIfDue k)) (serveConfirm_firm isFirm))
    · exact retired.trans (congrArg _ (serveRemoval_idle _ c idle configured))

end Sys2Proof.Machine
end

/-!
AMEND and ENTER, refused on arrival or decided on an idle Projector: O19, O17; the first free number of a numbering.
-/
section
namespace Sys2Proof.Machine

/-! ### The service of an AMEND just counted in (R41 to R48) -/

theorem presentValue_eq (c : Commitment) (field : AmendField) : presentValue c field =
    if field = .power then c.power else if field = .length then (c.length : Int) else c.reference := by
  cases field <;> rfl

theorem amendUnchanged_iff (c : Commitment) (q : AmendRequest) (result : AmendResult) :
    amendUnchanged c q result = true ↔ result.zero = false ∧ result.value =
      if q.field = .power then c.power else if q.field = .length then (c.length : Int) else c.reference := by
  rw [← presentValue_eq, amendUnchanged, Bool.and_eq_true, Bool.not_eq_true', decide_eq_true_iff]

/-- The result of a Market Reference is never zero. -/
theorem amendResult_reference {now : Nat} {c : Commitment} {q : AmendRequest} (h : q.field = .marketReference) :
    amendResult now c q =
      { value := amendRaw q.operation (presentValue c q.field) q.operand, zero := false, saturated := false } := by
  unfold amendResult
  dsimp only
  rw [h]

theorem amendServiceRefusal_countIn (c : Commitment) (q : AmendRequest) (result : AmendResult) (p : Port) (s : State) :
    amendServiceRefusal c q result (countIn p s) = amendServiceRefusal c q result s := by
  cases p <;> rfl

section
variable {e : Entry} {q : AmendRequest} {c : Commitment} {s : State}
  (passes : amendServiceRefusal c q (amendResult s.interval c q) s = none)
include passes

theorem serveAmend_passes : serveAmend e q c (countIn e.source s) =
    if amendUnchanged c q (amendResult s.interval c q) then
      respond e.source e.tag e.code (amendReply .doneUnchanged (amendResult s.interval c q) c) s
    else if q.field = .marketReference then
      respond e.source e.tag e.code
        (amendReply .done (amendResult s.interval c q) (amendedRecord s.interval q (amendResult s.interval c q) c))
        (setCommitments (changeRecord c.handle (amendedRecord s.interval q (amendResult s.interval c q))
          s.store.commitments) s)
    else if (amendResult s.interval c q).zero then
      serveRemoval e (amendReply .done (amendResult s.interval c q) c) c (countIn e.source s)
    else if c.standing = .firm then
      beginPass (noticeIfActive c (respond e.source e.tag e.code
        (amendReply .done (amendResult s.interval c q) (amendedRecord s.interval q (amendResult s.interval c q) c))
        (setCommitments (changeRecord c.handle (amendedRecord s.interval q (amendResult s.interval c q))
          s.store.commitments) s)))
    else beginScreen (amendTrial c q (amendResult s.interval c q)) (setInService (some e) (countIn e.source s)) := by
  unfold serveAmend
  dsimp only
  rw [countIn_interval, amendServiceRefusal_countIn, passes]
  dsimp only
  rw [setCommitments_countIn, countIn_store, answerEntry_countIn, answerEntry_countIn]
  cases c.standing <;> rfl

theorem serveAmend_unchanged (h : amendUnchanged c q (amendResult s.interval c q) = true) :
    serveAmend e q c (countIn e.source s) =
      respond e.source e.tag e.code (amendReply .doneUnchanged (amendResult s.interval c q) c) s := by
  rw [serveAmend_passes passes, if_pos h]

variable (changes : ¬ amendUnchanged c q (amendResult s.interval c q) = true)
include changes

theorem serveAmend_reference (h : q.field = .marketReference) :
    serveAmend e q c (countIn e.source s) =
      respond e.source e.tag e.code
        (amendReply .done (amendResult s.interval c q) (amendedRecord s.interval q (amendResult s.interval c q) c))
        (setCommitments (changeRecord c.handle (amendedRecord s.interval q (amendResult s.interval c q))
          s.store.commitments) s) := by
  rw [serveAmend_passes passes, if_neg changes, if_pos h]

variable (field : q.field ≠ .marketReference)
include field

theorem serveAmend_zero (h : (amendResult s.interval c q).zero = true) :
    serveAmend e q c (countIn e.source s) =
      serveRemoval e (amendReply .done (amendResult s.interval c q) c) c (countIn e.source s) := by
  rw [serveAmend_passes passes, if_neg changes, if_neg field, if_pos h]

variable (nonzero : (amendResult s.interval c q).zero = false)
include nonzero

theorem serveAmend_firm (firm : c.standing = .firm) :
    serveAmend e q c (countIn e.source s) =
      beginPass (respond e.source e.tag e.code
        (amendReply .done (amendResult s.interval c q) (amendedRecord s.interval q (amendResult s.interval c q) c))
        (raiseAll (firmNotice c) (setCommitments (changeRecord c.handle
          (amendedRecord s.interval q (amendResult s.interval c q)) s.store.commitments) s))) := by
  rw [serveAmend_passes passes, if_neg changes, if_neg field, if_neg (by simp [nonzero]), if_pos firm, ← raiseAll_respond,
    ← noticeIfActive_firm firm]

theorem serveAmend_tentative (tentative : c.standing = .tentative) :
    serveAmend e q c (countIn e.source s) =
      beginScreen (amendTrial c q (amendResult s.interval c q)) (setInService (some e) (countIn e.source s)) := by
  rw [serveAmend_passes passes, if_neg changes, if_neg field, if_neg (by simp [nonzero]),
    if_neg (by simp [tentative])]

end

theorem beginScreen_countIn (trial : Trial) (served : Option Entry) (p : Port) (s : State) :
    beginScreen trial (setInService served (countIn p s)) = (beginScreen trial (setInService served s)).setLink p
      { s.link p with outstanding := (s.link p).outstanding + 1 } := by
  cases p <;> rfl

/-! ### The record an AMEND changes (R42 to R45) -/

theorem amendedRecord_cases (now : Nat) (q : AmendRequest) (result : AmendResult) (c : Commitment) :
    let changed := amendedRecord now q result c
    let length := result.value.toNat
    (q.field = .power → changed = { c with
      power := result.value, deployed := if c.kind = .energy then c.deployed else min c.deployed result.value.toNat }) ∧
    (q.field = .length → c.phase = .pending → changed = { c with length := length }) ∧
    (∀ remaining, q.field = .length → c.phase = .active remaining →
      changed = { c with length := length, phase := .active (c.start + length - now) }) ∧
    (q.field = .marketReference → changed = { c with reference := result.value.toNat }) ∧
    (q.field = .power → amendTrial c q result = .power c.handle c.start c.length result.value result.saturated) ∧
    (q.field = .length → amendTrial c q result = .length c.handle c.start c.length length result.saturated) := by
  refine ⟨fun h => ?_, fun h pending => ?_, fun remaining h active => ?_, fun h => ?_, fun h => ?_, fun h => ?_⟩
  · rw [amendedRecord, h]
    rfl
  · rw [amendedRecord, h]
    simp only [withLength, pending]
  · rw [amendedRecord, h]
    simp only [withLength, active]
  · rw [amendedRecord, h]
  · rw [amendTrial, h]
  · rw [amendTrial, h]

/-- Settles O19: the arrival checks of an AMEND, and the decision by its result and the record's Standing. -/
theorem amendIsRefusedOrDecided : Obligations.AmendIsRefusedOrDecided := by
  unfold Obligations.AmendIsRefusedOrDecided
  refine ⟨fun f q s r ha hb hq hp => ?_, fun f q c s r ha hb hq hp configured right found operation standing arrival => ?_,
    amendedRecord_cases, fun h f records => ⟨rfl, rfl⟩⟩
  · intro refused right
    have executed := exec_amend_admitted ha hb hq hp
    have mayAmend := hasRight_amend_iff r.store.authority (viaPort f.via) (a := .amend q) (.inl ⟨q, rfl⟩)
    refine ⟨fun unconfigured => executed.trans (congrArg _ (scheduleChange_unconfigured unconfigured)),
      fun configured => ⟨fun no => executed.trans (congrArg _ (scheduleChange_noRight configured (mayAmend.not.2 no))),
        fun may => ?_⟩⟩
    have turned {status : Status} (h : amendArrival q r = .inl status) : refused status [] :=
      executed.trans (congrArg _ (scheduleChange_refused configured (mayAmend.2 may) (amendRefused_of h)))
    refine ⟨fun absent => turned (amendArrival_absent absent), fun c found => ?_⟩
    intro reference
    refine ⟨fun isReference => turned (amendArrival_reference found isReference), fun other status judged => turned ?_⟩
    rw [amendArrival_judged found other, judged]
  · intro out empty free idle ahead result present changed counted written removed reply notice unchanged
    have executed := exec_amend_admits ha hb hq hp configured right found operation arrival
    rw [admitAmendment_idle out empty free idle ahead] at executed
    have kept : (countIn (viaPort f.via) (arrivalTaken r)).store = (arrivalTaken r).store := countIn_store ..
    have served : serveEntry (arrivedEntry (viaPort f.via) f.tag 0x02 (.amend q) r)
        (countIn (viaPort f.via) (arrivalTaken r)) =
          serveAmend (arrivedEntry (viaPort f.via) f.tag 0x02 (.amend q) r) q c
            (countIn (viaPort f.via) (arrivalTaken r)) :=
      serveEntry_record (by rw [kept]; exact right) (by rw [kept]; exact found) (.inr (.inr ⟨q, rfl, rfl, rfl⟩))
    rw [served] at executed
    have passes : amendServiceRefusal c q (amendResult (arrivalTaken r).interval c q) (arrivalTaken r) = none :=
      amendServiceRefusal_none (s := r) arrival standing
    have decided {k : State} (h : serveAmend (arrivedEntry (viaPort f.via) f.tag 0x02 (.amend q) r) q c
        (countIn (viaPort f.via) (arrivalTaken r)) = k) : exec (.amend f) s = .next (beginIfDue k) := by
      rw [executed, h]
    refine ⟨fun same => decided (serveAmend_unchanged passes ((amendUnchanged_iff ..).2 same)), fun differs => ?_⟩
    have changes : ¬ amendUnchanged c q (amendResult (arrivalTaken r).interval c q) = true :=
      (amendUnchanged_iff ..).not.2 differs
    refine ⟨fun reference => decided (serveAmend_reference passes changes reference), fun zero => ?_,
      fun field nonzero firm => ?_, fun field nonzero tentative => ?_⟩
    · have field : q.field ≠ .marketReference := fun reference => by
        have := congrArg AmendResult.zero (amendResult_reference (now := r.interval) (c := c) reference)
        exact nomatch (zero.symm.trans this : true = false)
      exact (decided (serveAmend_zero passes changes field zero)).trans
        (congrArg _ (serveRemoval_idle _ c idle configured))
    · exact (decided (serveAmend_firm passes changes field nonzero firm)).trans (congrArg _ (beginIfDue_beginPass _))
    · intro entry
      have class_ : arrivedEntry (viaPort f.via) f.tag 0x02 (.amend q) r = entry := by
        have := (classOf_rules (.amend q) r.store.commitments).2.2.2 q c rfl found
        rw [if_neg (by rw [tentative]; decide)] at this
        rw [arrivedEntry, this]
      have screened := decided (serveAmend_tentative passes changes field nonzero tentative)
      rw [class_] at screened
      rw [screened, beginIfDue_beginScreen]
      exact congrArg _ (beginScreen_countIn _ (some entry) (viaPort f.via) (arrivalTaken r))

end Sys2Proof.Machine
end

/-!
The numbering of the records, and the entering of a record: O17, O36.
-/
section
namespace Sys2Proof.Machine

/-! ### The first free number of a numbering (R35, R179) -/

/-- The number `n` places after `start` in the numbering 1..last that wraps to 1. -/
def cyclic (last start n : Nat) : Nat := (start - 1 + n) % last + 1

section
variable {last start : Nat}

theorem cyclic_zero (low : 1 ≤ start) (high : start ≤ last) : cyclic last start 0 = start := by
  rw [cyclic, Nat.add_zero, Nat.mod_eq_of_lt (by omega)]
  omega

theorem wrapNext_cyclic (positive : 0 < last) (n : Nat) : wrapNext last (cyclic last start n) = cyclic last start (n + 1) := by
  have below : (start - 1 + n) % last < last := Nat.mod_lt _ positive
  have next : cyclic last start (n + 1) = ((start - 1 + n) % last + 1) % last + 1 := by
    rw [cyclic, ← Nat.add_assoc, Nat.mod_add_mod]
  rw [next, wrapNext, cyclic]
  by_cases wraps : last ≤ (start - 1 + n) % last + 1
  · have full : (start - 1 + n) % last + 1 = last := Nat.le_antisymm below wraps
    rw [if_pos wraps, full, Nat.mod_self]
  · rw [if_neg wraps, Nat.mod_eq_of_lt (a := (start - 1 + n) % last + 1) (Nat.not_le.1 wraps)]

theorem cyclic_injective {a b : Nat} (ha : a < last) (hb : b < last) (h : cyclic last start a = cyclic last start b) :
    a = b := by
  have same : start - 1 + a ≡ start - 1 + b [MOD last] := Nat.succ.inj h
  exact Nat.ModEq.eq_of_lt_of_lt (Nat.ModEq.add_left_cancel' _ same) ha hb

/-- Numbers held one after another are no more than the list holds. -/
theorem cyclic_held_le {held : List Nat} {n : Nat} (h : ∀ m < n, cyclic last start m ∈ held) (small : n ≤ last) :
    n ≤ held.length := by
  have distinct : ((List.range n).map (cyclic last start)).Nodup :=
    List.Nodup.map_on (fun a ha b hb => cyclic_injective (by have := List.mem_range.1 ha; omega)
      (by have := List.mem_range.1 hb; omega)) List.nodup_range
  have within : (List.range n).map (cyclic last start) ⊆ held := fun x mem => by
    obtain ⟨m, below, rfl⟩ := List.mem_map.1 mem
    exact h m (List.mem_range.1 below)
  simpa using (distinct.subperm within).length_le

theorem firstFree_walks (positive : 0 < last) (held : List Nat) (fuel k : Nat) :
    ∃ n, n ≤ fuel ∧ firstFree last held fuel (cyclic last start k) = cyclic last start (k + n) ∧
      (∀ m < n, cyclic last start (k + m) ∈ held) ∧ (n < fuel → cyclic last start (k + n) ∉ held) := by
  induction fuel generalizing k with
  | zero => exact ⟨0, le_rfl, rfl, nofun, nofun⟩
  | succ fuel ih =>
    by_cases taken : held.contains (cyclic last start k) = true
    · obtain ⟨n, le, walk, before, free⟩ := ih (k + 1)
      have shift (m : Nat) : k + 1 + m = k + (m + 1) := by omega
      refine ⟨n + 1, by omega, ?_, fun m below => ?_, fun below => ?_⟩
      · rw [firstFree, if_pos taken, wrapNext_cyclic positive, walk, shift]
      · cases m with
        | zero => exact List.contains_iff_mem.1 taken
        | succ m => exact shift m ▸ before m (by omega)
      · exact shift n ▸ free (by omega)
    · exact ⟨0, by omega, by rw [firstFree, if_neg taken, Nat.add_zero], nofun,
        fun _ mem => taken (List.contains_iff_mem.2 mem)⟩

/-- The number found is the first one, counted from the start, that the list does not hold. -/
theorem firstFree_first (held : List Nat) (low : 1 ≤ start) (high : start ≤ last) (few : held.length < last) :
    ∃ n, n ≤ held.length ∧ firstFree last held last start = cyclic last start n ∧ cyclic last start n ∉ held ∧
      ∀ m < n, cyclic last start m ∈ held := by
  obtain ⟨n, le, walk, before, free⟩ := firstFree_walks (start := start) (by omega : 0 < last) held last 0
  simp only [Nat.zero_add] at walk before free
  have bound := cyclic_held_le before le
  exact ⟨n, bound, by rw [← walk, cyclic_zero low high], free (by omega), before⟩

end

/-! ### A record's place (R34, R178) -/

theorem keyBefore_iff (x y : Commitment) : keyBefore x.key y.key = true ↔
    x.start < y.start ∨ (x.start = y.start ∧ x.handle < y.handle) :=
  keyBefore_key_iff x.key y

theorem insertRecord_place (r : Commitment) (records : List Commitment) :
    ∃ front back : List Commitment, records = front ++ back ∧ insertRecord r records = front ++ r :: back ∧
      (∀ c ∈ front, ¬ (keyBefore r.key c.key = true)) ∧ ∀ c ∈ back.head?, keyBefore r.key c.key = true := by
  induction records with
  | nil => exact ⟨[], [], rfl, rfl, nofun, nofun⟩
  | cons c rest ih =>
    by_cases first : keyBefore r.key c.key = true
    · refine ⟨[], c :: rest, rfl, by rw [insertRecord, if_pos first]; rfl, nofun, fun k head => ?_⟩
      cases head
      exact first
    · obtain ⟨front, back, same, placed, before, after⟩ := ih
      refine ⟨c :: front, back, by rw [same]; rfl, by rw [insertRecord, if_neg first, placed]; rfl, fun k mem => ?_, after⟩
      rcases List.mem_cons.1 mem with rfl | mem
      · exact first
      · exact before k mem

theorem insertOutage_place (o : Outage) (outages : List Outage) :
    ∃ before after : List Outage, before ++ after = outages ∧ insertOutage o outages = before ++ o :: after ∧
      (∀ k ∈ before, k.handle ≤ o.handle) ∧ ∀ k ∈ after.head?, o.handle < k.handle := by
  induction outages with
  | nil => exact ⟨[], [], rfl, rfl, nofun, nofun⟩
  | cons a rest ih =>
    by_cases first : o.handle < a.handle
    · refine ⟨[], a :: rest, rfl, by rw [insertOutage, if_pos first]; rfl, nofun, fun k head => ?_⟩
      cases head
      exact first
    · obtain ⟨before, after, same, placed, lower, upper⟩ := ih
      refine ⟨a :: before, after, by rw [← same]; rfl, by rw [insertOutage, if_neg first, placed]; rfl, fun k mem => ?_,
        upper⟩
      rcases List.mem_cons.1 mem with rfl | mem
      · exact Nat.not_lt.1 first
      · exact lower k mem

/-! ### ENTER on an idle Projector (R40) -/

theorem enterRefusal_countIn (q : EnterRequest) (p : Port) (s : State) :
    enterRefusal q (countIn p s) = enterRefusal q s := by
  cases p <;> rfl

theorem enterRecord_countIn (record : Commitment) (p : Port) (s : State) :
    enterRecord record (countIn p s) = countIn p (enterRecord record s) := by
  rw [enterRecord, enterRecord, countIn_store, countIn_setStore]

section
variable {e : Entry} {q : EnterRequest} {s : State} (passes : enterRefusal q s = none)
include passes

theorem serveEnter_firm (firm : q.standing = .firm) :
    serveEnter e q (countIn e.source s) =
      beginPass (respond e.source e.tag e.code
        (.withBody .done (commitmentBody (newRecord q e.source (freshHandle s.store))))
        (enterRecord (newRecord q e.source (freshHandle s.store)) s)) := by
  unfold serveEnter
  dsimp only
  rw [enterRefusal_countIn, passes]
  dsimp only
  rw [firm, countIn_store, enterRecord_countIn, answerEntry_countIn]

theorem serveEnter_tentative (tentative : q.standing = .tentative) :
    serveEnter e q (countIn e.source s) =
      beginScreen (.enter (newRecord q e.source (freshHandle s.store))) (setInService (some e) (countIn e.source s)) := by
  unfold serveEnter
  dsimp only
  rw [enterRefusal_countIn, passes]
  dsimp only
  rw [tentative, countIn_store]

end

/-- Settles O17: the arrival checks of an ENTER, its decision, its Handle and its place in the table. -/
theorem enterIsRefusedOrDecided : Obligations.EnterIsRefusedOrDecided := by
  unfold Obligations.EnterIsRefusedOrDecided
  refine ⟨fun f q s r ha hb hq => ?_, fun f q s r ha hb hq configured right within passes out empty free idle ahead => ?_,
    fun st low high count => ?_, fun r records => ?_⟩
  · intro refused right inBounds late gated beyond duplicate
    have executed := exec_enter_admitted ha hb hq
    have mayEnter := hasRight_enter_iff r.store.authority (viaPort f.via) q
    refine ⟨fun unconfigured => executed.trans (congrArg _ (scheduleChange_unconfigured unconfigured)), fun configured =>
      ⟨fun no => executed.trans (congrArg _ (scheduleChange_noRight configured (mayEnter.not.2 no))),
        fun may outside => ?_, fun may inside => ?_⟩⟩
    · exact executed.trans (congrArg _ (scheduleChange_refused configured (mayEnter.2 may)
        (enterArrival_outOfRange ((enterInRange_iff q).not.2 outside))))
    · have turned {status : Status} (h : enterRefusal q r = some status) : refused status [] :=
        executed.trans (congrArg _ (scheduleChange_refused configured (mayEnter.2 may)
          (by rw [enterArrival_inRange ((enterInRange_iff q).2 inside), h]; rfl)))
      exact ⟨fun isLate => turned (enterRefusal_late isLate), fun isGated => turned (enterRefusal_gated isGated),
        fun onTime isOpen => ⟨fun isBeyond => turned (enterRefusal_beyond onTime isOpen isBeyond),
          fun ends taken => turned (enterRefusal_duplicate onTime isOpen ends taken), fun ends fresh full =>
            turned ((enterRefusal_room onTime isOpen ends fresh).trans (if_pos full))⟩⟩
  · intro handle record entered entry served link screening
    have executed := exec_enter_admits ha hb hq configured right within passes
    rw [admitAmendment_idle out empty free idle ahead] at executed
    have enters : serveEntry (arrivedEntry (viaPort f.via) f.tag 0x01 (.enter q) r)
        (countIn (viaPort f.via) (arrivalTaken r)) =
          serveEnter (arrivedEntry (viaPort f.via) f.tag 0x01 (.enter q) r) q
            (countIn (viaPort f.via) (arrivalTaken r)) :=
      serveEntry_right (by rw [countIn_store]; exact right)
    rw [enters] at executed
    have taken : enterRefusal q (arrivalTaken r) = none := passes
    have class_ := (classOf_rules (.enter q) r.store.commitments).2.2.1 q rfl
    have decided {k : State} (h : serveEnter (arrivedEntry (viaPort f.via) f.tag 0x01 (.enter q) r) q
        (countIn (viaPort f.via) (arrivalTaken r)) = k) : exec (.enter f) s = .next (beginIfDue k) := by
      rw [executed, h]
    refine ⟨fun firm => ?_, fun tentative => ?_⟩
    · have moved : wrapNext 4095 handle = if handle < 4095 then handle + 1 else 1 := by
        rw [wrapNext]
        split <;> split <;> omega
      have state : enterRecord record (arrivalTaken r) = { r with store := entered } := by
        show _ = ({ r with store := { r.store with
          commitments := insertRecord record r.store.commitments
          nextHandle := if handle < 4095 then handle + 1 else 1
          nextArrival := r.store.nextArrival + 1 } } : State)
        rw [← moved]
        rfl
      rw [decided (serveEnter_firm taken firm), beginIfDue_beginPass, ← state]
      rfl
    · rw [if_neg (by rw [tentative]; decide)] at class_
      have isEntry : arrivedEntry (viaPort f.via) f.tag 0x01 (.enter q) r = entry := by
        rw [arrivedEntry, class_]
      have screened := decided (serveEnter_tentative taken tentative)
      rw [isEntry] at screened
      rw [screened, beginIfDue_beginScreen]
      exact congrArg _ (beginScreen_countIn _ (some entry) (viaPort f.via) (arrivalTaken r))
  · intro value held
    have few : (st.commitments.map Commitment.handle).length < 4095 := by
      rw [List.length_map]
      omega
    obtain ⟨n, le, found, fresh, before⟩ := firstFree_first (st.commitments.map Commitment.handle) low high few
    rw [List.length_map] at le
    simp only [List.mem_map] at fresh before
    exact ⟨n, by omega, found, fresh, before⟩
  · intro before
    obtain ⟨front, back, same, placed, ahead, behind⟩ := insertRecord_place r records
    exact ⟨front, back, same, placed, fun c mem => (keyBefore_iff r c).not.1 (ahead c mem),
      fun c mem => (keyBefore_iff r c).1 (behind c mem)⟩

/-! ### ENTER_OUTAGE and RETIRE_OUTAGE on an idle Projector (R179, R180) -/

theorem unexpired_countIn (p : Port) (s : State) : unexpired (countIn p s) = countIn p (unexpired s) := by
  cases p <;> rfl

theorem countIn_setTables (p : Port) (s : State) (v : TrainTables) :
    (countIn p s).setTables v = countIn p (s.setTables v) := by
  cases p <;> rfl

theorem outageRefusal_countIn (q : OutageRequest) (p : Port) (s : State) :
    outageRefusal q (countIn p s) = outageRefusal q s := by
  cases p <;> rfl

/-- The Handle an outage record receives among the records kept. -/
def outageHandle (s : State) : Nat :=
  firstFree 255 ((unexpired s).tables.outages.map Outage.handle) 255 s.tables.nextOutage

/-- The state with an outage record entered among those not Expired, and its Train Notices sent. -/
def outageEntered (q : OutageRequest) (s : State) : State :=
  noticeTrains (allTrains.filter fun t => decide (t = q.train) || losesOutage s t)
    ((unexpired s).setTables
      { (unexpired s).tables with
        outages := insertOutage (newOutage q (outageHandle s)) (unexpired s).tables.outages
        nextOutage := wrapNext 255 (outageHandle s) })

theorem serveOutage_entered {e : Entry} {q : OutageRequest} {s : State} (passes : outageRefusal q s = none) :
    serveOutage e q (countIn e.source s) =
      beginPass (respond e.source e.tag e.code (.withBody .done (outageBody (newOutage q (outageHandle s))))
        (outageEntered q s)) := by
  have noticed : (fun t => decide (t = q.train) || (allTrains.filter (losesOutage s)).contains t) =
      fun t => decide (t = q.train) || losesOutage s t := by
    funext t
    congr 1
    rw [Bool.eq_iff_iff, List.contains_iff_mem, List.mem_filter]
    exact and_iff_right (mem_allTrains t)
  have loses : losesOutage (countIn e.source s) = losesOutage s := by cases e.source <;> rfl
  unfold serveOutage
  dsimp only
  rw [removeExpired_eq, outageRefusal_unexpired, outageRefusal_countIn, passes, loses]
  dsimp only
  rw [noticed, unexpired_countIn, countIn_setTables, answerEntry_countIn, noticeTrains, raiseAll_respond]
  cases e.source <;> rfl

theorem serveRetireOutage_held {e : Entry} {h : Nat} {o : Outage} {s : State}
    (found : (s.tables.outages.find? fun o => decide (o.handle = h)) = some o) :
    serveRetireOutage e h (countIn e.source s) =
      beginPass (respond e.source e.tag e.code (.withBody .done (outageBody o)) (noticeTrains [o.train]
        (s.setTables { s.tables with outages := s.tables.outages.filter fun k => decide (k.handle ≠ h) }))) := by
  have same : (countIn e.source s).tables = s.tables := by cases e.source <;> rfl
  unfold serveRetireOutage
  rw [same, found]
  dsimp only
  rw [countIn_setTables, answerEntry_countIn, noticeTrains, raiseAll_respond]
  rfl

theorem filter_other {before after : List Outage} {o : Outage} {h : Nat}
    (others : ∀ k ∈ before ++ after, k.handle ≠ h) (named : o.handle = h) :
    (before ++ o :: after).filter (fun k => decide (k.handle ≠ h)) = before ++ after := by
  rw [List.filter_append, List.filter_cons, if_neg (by simp [named]), ← List.filter_append]
  exact List.filter_eq_self.2 fun k mem => decide_eq_true (others k mem)

/-- Settles O36: the checks of ENTER_OUTAGE and RETIRE_OUTAGE, and what each does on an idle Projector. -/
theorem outagesAreEnteredAndRetired : Obligations.OutagesAreEnteredAndRetired := by
  unfold Obligations.OutagesAreEnteredAndRetired
  refine ⟨fun f q s r ha hb hq => ?_, fun f h s r ha hb hh => ?_⟩
  · intro refused largest kindFits fits kept
    have executed := exec_enterOutage_admitted ha hb hq
    have turned {status : Status} (h : outageArrival q r = some status) : refused status := by
      show exec (.enterOutage f) s = _
      rw [executed, enterOutageOwner, h]
      rfl
    refine ⟨fun unconfigured => turned (outageArrival_unconfigured unconfigured), fun configured =>
      ⟨fun other => turned (outageArrival_wrongKind configured other), fun kind outside => ?_,
        fun kind inside past => ?_, fun kind inside ahead full => ?_,
        fun kind inside ahead room low high out empty free idle first => ?_⟩⟩
    · refine turned ((outageArrival_ranges configured kind).trans (if_pos ?_))
      by_contra both
      rw [not_or, Nat.not_lt, Bool.not_eq_false, derateInRange_iff] at both
      exact outside both
    · exact turned ((outageArrival_within configured kind inside.1 ((derateInRange_iff ..).2 inside.2)).trans
        (outageRefusal_past past))
    · exact turned ((outageArrival_within configured kind inside.1 ((derateInRange_iff ..).2 inside.2)).trans
        ((outageRefusal_ahead ahead).trans (if_pos full)))
    · intro value held noticed
      have passes : outageRefusal q r = none := (outageRefusal_ahead ahead).trans (if_neg (Nat.not_le.2 room))
      have admitted : outageArrival q r = none :=
        (outageArrival_within configured kind inside.1 ((derateInRange_iff ..).2 inside.2)).trans passes
      rw [enterOutageOwner, admitted] at executed
      dsimp only at executed
      rw [admitAmendment_idle out empty free idle first, serveEntry_right rfl] at executed
      have served := serveOutage_entered (e := arrivedEntry (viaPort f.via) f.tag 0x20 (.enterOutage q) r)
        (s := arrivalTaken r) passes
      have done := executed.trans (congrArg (fun k => Host.Outcome.next (beginIfDue k)) served)
      rw [beginIfDue_beginPass] at done
      have few : (kept.map Outage.handle).length < 255 := by
        rw [List.length_map]
        omega
      obtain ⟨n, le, found, fresh, walked⟩ := firstFree_first (kept.map Outage.handle) low high few
      rw [List.length_map] at le
      simp only [List.mem_map] at fresh walked
      have handle : outageHandle (arrivalTaken r) = value n := found
      obtain ⟨before, after, same, placed, lower, upper⟩ := insertOutage_place (newOutage q (value n)) kept
      have next : wrapNext 255 (value n) = value n % 255 + 1 := by
        have below : value n ≤ 255 := Nat.mod_lt _ (by decide)
        rw [wrapNext]
        split <;> omega
      refine ⟨n, before, after, by omega, fresh, walked, same, lower, upper, done.trans ?_⟩
      have entered : outageEntered q (arrivalTaken r) =
          { r with
            store := { r.store with nextArrival := r.store.nextArrival + 1 }
            tables := { r.tables with
              outages := before ++ newOutage q (value n) :: after, nextOutage := value n % 255 + 1 }
            raised := r.raised ++ (allTrains.filter noticed).map .train } := by
        rw [outageEntered, handle, next, ← placed]
        rfl
      rw [entered, handle]
      rfl
  · intro refused
    have executed := exec_retireOutage_admitted ha hb hh
    refine ⟨fun unconfigured => ?_, fun configured => ⟨fun absent => ?_,
      fun before o after same others named out empty free idle first => ?_⟩⟩
    · show exec (.retireOutage f) s = _
      rw [executed, retireOutageOwner, if_pos unconfigured]
      rfl
    · show exec (.retireOutage f) s = _
      rw [executed, retireOutageOwner, if_neg configured, findOutage_none_iff.2 absent]
      rfl
    · have found : findOutage h r.tables.outages = some o :=
        find?_first same (decide_eq_true named) fun k mem => by simpa using others k (List.mem_append_left _ mem)
      rw [retireOutageOwner, if_neg configured, found] at executed
      dsimp only at executed
      rw [admitAmendment_idle out empty free idle first, serveEntry_right rfl] at executed
      have served := serveRetireOutage_held (e := arrivedEntry (viaPort f.via) f.tag 0x21 (.retireOutage h) r)
        (s := arrivalTaken r) found
      have done := executed.trans (congrArg (fun k => Host.Outcome.next (beginIfDue k)) served)
      rw [beginIfDue_beginPass] at done
      have kept : (arrivalTaken r).tables.outages.filter (fun k => decide (k.handle ≠ h)) = before ++ after :=
        (congrArg _ same).trans (filter_other others named)
      rw [kept] at done
      exact done

end Sys2Proof.Machine
end

/-!
DEPLOY, the results of an AMEND, and the Boundary at the Commitment Store: O21, O18, O23.
-/
section
namespace Sys2Proof.Machine

/-! ### DEPLOY (R52) -/

theorem exec_deploy_admitted {f : Frame} {h amount : Nat} {s r : State} (ha : Admitted marketOnly f s r)
    (hb : f.body = u16 h ++ u16 amount) (hh : h < 65536) (hm : amount < 65536) :
    exec (.deploy f) s = .next (afterOwner f 0x05 (deployOwner (h, amount) r)) :=
  congrArg Host.Outcome.next (atOnce_admitted ha (hb ▸ parseBody_deploy h amount hh hm))

theorem deployable_iff (c : Commitment) :
    deployable c = true ↔ c.kind ≠ .energy ∧ c.standing = .firm ∧ c.phase ≠ .pending := by
  have active : c.isActive = true ↔ c.phase ≠ .pending := by
    cases phase : c.phase <;> simp [Commitment.isActive, phase]
  rw [deployable, Bool.and_eq_true, Bool.and_eq_true, decide_eq_true_iff, decide_eq_true_iff, active, and_assoc]

section
variable {h amount : Nat} {c : Commitment} {r : State}

theorem deployOwner_unconfigured (unconfigured : r.dispatcher.mode = .unconfigured) :
    deployOwner (h, amount) r = (.bare .wrongState, r) := if_pos unconfigured

variable (configured : r.dispatcher.mode ≠ .unconfigured)
include configured

theorem deployOwner_absent (absent : ∀ c ∈ r.store.commitments, c.handle ≠ h) :
    deployOwner (h, amount) r = (.bare .notFound, r) := by
  rw [deployOwner, if_neg configured, findHandle_none_iff.2 absent]

variable (found : findHandle h r.store.commitments = some c)
include found

theorem deployOwner_refused (no : ¬ deployable c = true) : deployOwner (h, amount) r = (.bare .wrongState, r) := by
  rw [deployOwner, if_neg configured, found]
  exact if_neg no

theorem deployOwner_taken (may : deployable c = true) : deployOwner (h, amount) r =
    ({ status := if c.deployed = amount then .doneUnchanged else .done
       zero := false
       saturated := decide (min amount c.power.toNat < amount)
       body := commitmentBody { c with deployed := min amount c.power.toNat } },
     deployRecord c (min amount c.power.toNat) r) := by
  rw [deployOwner, if_neg configured, found]
  exact if_pos may

end

/-- Settles O21: DEPLOY writes the Deployed of an ACTIVE FIRM reserve record, held at its Power. -/
theorem deployCallsOnAReserve : Obligations.DeployCallsOnAReserve := by
  unfold Obligations.DeployCallsOnAReserve
  intro f h amount s r ha hb hh hm refused
  have executed := exec_deploy_admitted ha hb hh hm
  have turned {status : Status} (h : deployOwner (h, amount) r = (.bare status, r)) : refused status := by
    show exec (.deploy f) s = _
    rw [executed, h, afterOwner_bare]
  refine ⟨fun unconfigured => turned (deployOwner_unconfigured unconfigured), fun configured =>
    ⟨fun absent => turned (deployOwner_absent configured absent), fun c found => ⟨fun other => ?_, fun reserve firm active => ?_⟩⟩⟩
  · refine turned (deployOwner_refused configured found fun may => ?_)
    obtain ⟨reserve, firm, active⟩ := (deployable_iff c).1 may
    obtain energy | tentative | pending := other
    · exact reserve energy
    · exact nomatch (tentative.symm.trans firm : Standing.tentative = .firm)
    · exact active pending
  · intro deployed status written reply
    have taken := deployOwner_taken (amount := amount) configured found ((deployable_iff c).2 ⟨reserve, firm, active⟩)
    have answer : ({ status := if c.deployed = amount then .doneUnchanged else .done, zero := false
                     saturated := decide (min amount c.power.toNat < amount)
                     body := commitmentBody { c with deployed := deployed } } : Reply) =
        { status := status, zero := false, saturated := decide (c.power.toNat < amount)
          body := commitmentBody { c with deployed := deployed } } := by
      have held : decide (min amount c.power.toNat < amount) = decide (c.power.toNat < amount) :=
        decide_eq_decide.2 (by omega)
      rw [held, show status = if c.deployed = amount then .doneUnchanged else .done by simp only [status, eq_comm]]
    refine ⟨fun same => ?_, fun differs => ?_⟩
    · rw [executed, taken, answer, deployRecord, if_pos same]
      rfl
    · rw [executed, taken, answer, deployRecord, if_neg differs]
      rfl

/-! ### The results of an AMEND (R41 to R47) -/

/-- The exact result of an operation, as the statement spells it. -/
theorem amendRaw_eq (op : AmendOperation) (present operand : Int) : amendRaw op present operand =
    if op = .set then operand else if op = .add then present + operand else present - operand := by
  cases op <;> rfl

theorem amendResult_power {now : Nat} {c : Commitment} {q : AmendRequest} (h : q.field = .power) :
    amendResult now c q = powerResult c.kind (amendRaw q.operation (presentValue c q.field) q.operand) := by
  unfold amendResult
  dsimp only
  rw [h]

theorem amendResult_length {now : Nat} {c : Commitment} {q : AmendRequest} (h : q.field = .length) :
    amendResult now c q = lengthResult now c (amendRaw q.operation (presentValue c q.field) q.operand) := by
  unfold amendResult
  dsimp only
  rw [h]

/-- A value brought into bounds is changed exactly when it lies outside. -/
theorem holdInt_ne_iff {lo hi : Int} (h : lo ≤ hi) (x : Int) : holdInt lo hi x ≠ x ↔ x < lo ∨ hi < x := by
  rw [holdInt_eq h]
  omega

theorem powerResult_energy (raw : Int) :
    (raw = 0 → powerResult .energy raw = { value := 0, zero := true, saturated := false }) ∧
    (raw ≠ 0 → (powerResult .energy raw).value = max (-2700) (min 3600 raw) ∧ (powerResult .energy raw).zero = false ∧
      ((powerResult .energy raw).saturated = true ↔ raw < -2700 ∨ 3600 < raw)) := by
  refine ⟨fun zero => if_pos zero, fun nonzero => ?_⟩
  have result : powerResult .energy raw =
      { value := holdInt (-2700) 3600 raw, zero := false, saturated := decide (holdInt (-2700) 3600 raw ≠ raw) } :=
    if_neg nonzero
  rw [result]
  exact ⟨holdInt_eq (by decide) raw, rfl, decide_eq_true_iff.trans (holdInt_ne_iff (by decide) raw)⟩

theorem powerResult_reserve {k : CommitmentKind} (h : k ≠ .energy) (raw : Int) :
    (powerResult k raw).value = max 1 (min 1200 raw) ∧ (powerResult k raw).zero = false ∧
    ((powerResult k raw).saturated = true ↔ raw < 1 ∨ 1200 < raw) := by
  have result : powerResult k raw =
      { value := holdInt 1 1200 raw, zero := false, saturated := decide (holdInt 1 1200 raw ≠ raw) } := by
    cases k with
    | energy => exact absurd rfl h
    | _ => rfl
  rw [result]
  exact ⟨holdInt_eq (by decide) raw, rfl, decide_eq_true_iff.trans (holdInt_ne_iff (by decide) raw)⟩

section
variable (now : Nat) (c : Commitment) (raw : Int)

/-- A Length brought into 1..192. -/
def boundedLength : Int := max 1 (min 192 raw)

/-- A Length held at the end of the horizon, at least 1. -/
def lengthAtHorizon : Int := min (boundedLength raw) (longestLength now c.start : Int)

/-- A Length held for an ACTIVE record at the Current Interval Number. -/
def heldLength : Int :=
  if c.isActive = true then max (lengthAtHorizon now c raw) ((now + 1 - c.start : Nat) : Int) else lengthAtHorizon now c raw

theorem lengthResult_eq : lengthResult now c raw =
    { value := heldLength now c raw, zero := false
      saturated := decide (boundedLength raw ≠ raw) || decide (lengthAtHorizon now c raw ≠ boundedLength raw) ||
        decide (heldLength now c raw ≠ lengthAtHorizon now c raw) } := by
  unfold lengthResult heldLength lengthAtHorizon boundedLength
  dsimp only
  rw [holdInt_eq (by decide : (1 : Int) ≤ 192)]

theorem lengthResult_saturated : (lengthResult now c raw).saturated = true ↔ boundedLength raw ≠ raw ∨
    lengthAtHorizon now c raw ≠ boundedLength raw ∨ heldLength now c raw ≠ lengthAtHorizon now c raw := by
  rw [lengthResult_eq]
  simp only [Bool.or_eq_true, decide_eq_true_iff, or_assoc]

theorem lengthAtHorizon_ge : 1 ≤ lengthAtHorizon now c raw := by
  unfold lengthAtHorizon boundedLength longestLength
  omega

theorem lengthAtHorizon_le : lengthAtHorizon now c raw ≤ 192 := by
  unfold lengthAtHorizon boundedLength
  omega

theorem heldLength_ge : 1 ≤ heldLength now c raw := by
  have := lengthAtHorizon_ge now c raw
  unfold heldLength
  split <;> omega

variable {now c}

theorem lengthAtHorizon_within (h : c.start ≤ now + 191) :
    lengthAtHorizon now c raw = min (boundedLength raw) (now + 192 - c.start) := by
  unfold lengthAtHorizon longestLength
  omega

theorem heldLength_within (h : c.isActive = true → c.start ≤ now) : heldLength now c raw =
    if c.isActive = true then max (lengthAtHorizon now c raw) (now + 1 - c.start) else lengthAtHorizon now c raw := by
  unfold heldLength
  split
  · next active =>
    have := h active
    omega
  · rfl

end

theorem lengthResult_within {now : Nat} {c : Commitment} (raw : Int) (horizon : c.start ≤ now + 191)
    (current : c.isActive = true → c.start ≤ now ∧ now < c.start + 192) :
    let bounded : Int := max 1 (min 192 raw)
    let atHorizon : Int := min bounded (now + 192 - c.start)
    let held : Int := if c.isActive = true then max atHorizon (now + 1 - c.start) else atHorizon
    (lengthResult now c raw).value = held ∧ (lengthResult now c raw).zero = false ∧ 1 ≤ held ∧ held ≤ 192 ∧
    ((lengthResult now c raw).saturated = true ↔ bounded ≠ raw ∨ atHorizon ≠ bounded ∨ held ≠ atHorizon) ∧
    c.start + held - 1 ≤ now + 191 ∧ (c.isActive = true → (now : Int) ≤ c.start + held - 1) := by
  intro bounded atHorizon held
  have atEnd : lengthAtHorizon now c raw = atHorizon := lengthAtHorizon_within raw horizon
  have isHeld : heldLength now c raw = held :=
    (heldLength_within raw fun active => (current active).1).trans (by rw [atEnd])
  have low := heldLength_ge now c raw
  have high := lengthAtHorizon_le now c raw
  rw [isHeld] at low
  rw [atEnd] at high
  have ends : atHorizon ≤ now + 192 - c.start := min_le_right ..
  refine ⟨by rw [lengthResult_eq, isHeld], by rw [lengthResult_eq], low, ?_, ?_, ?_, fun active => ?_⟩
  · by_cases active : c.isActive = true
    · have := current active
      simp only [held, if_pos active]
      omega
    · simpa only [held, if_neg active] using high
  · rw [lengthResult_saturated, atEnd, isHeld]
    rfl
  · by_cases active : c.isActive = true
    · have := current active
      simp only [held, if_pos active]
      omega
    · simp only [held, if_neg active]
      omega
  · simp only [held, if_pos active]
    omega

theorem lengthResult_past {now : Nat} {c : Commitment} (raw : Int) (active : c.isActive = true)
    (past : c.start + 192 ≤ now) :
    lengthResult now c raw = { value := (now + 1 - c.start : Nat), zero := false, saturated := true } := by
  have high := lengthAtHorizon_le now c raw
  have held : heldLength now c raw = (now + 1 - c.start : Nat) := by
    rw [heldLength, if_pos active]
    omega
  have saturated : (lengthResult now c raw).saturated = true :=
    (lengthResult_saturated now c raw).2 (.inr (.inr (by omega)))
  have value : (lengthResult now c raw).value = (now + 1 - c.start : Nat) := by rw [lengthResult_eq, held]
  have zero : (lengthResult now c raw).zero = false := by rw [lengthResult_eq]
  generalize lengthResult now c raw = result at value zero saturated ⊢
  cases result
  simp_all only

/-! ### Their refusals on arrival (R41, R44) -/

section
variable {c : Commitment} {q : AmendRequest} {s : State}

theorem amendDuplicate_iff (result : AmendResult) (records : List Commitment) :
    amendDuplicate c q result records = true ↔ q.field = .marketReference ∧ result.value ≠ 0 ∧
      ∃ k ∈ records, k.handle ≠ c.handle ∧ (k.reference : Int) = result.value := by
  simp only [amendDuplicate, Bool.and_eq_true, decide_eq_true_iff, List.any_eq_true, and_assoc]

/-- The intervals that an amendment of POWER or LENGTH changes (R44). -/
def AmendChanges (c : Commitment) (field : AmendField) (value : Int) (i : Nat) : Prop :=
  let last := c.start + c.length - 1
  let newLast := c.start + value.toNat - 1
  (field = .power ∧ c.start ≤ i ∧ i ≤ last) ∨ (field = .length ∧ min last newLast < i ∧ i ≤ max last newLast)

/-- The Gate rule fails exactly when a changed interval lies before the Gate. -/
theorem amendGateOpen_iff (positive : 1 ≤ c.length) (result : AmendResult) (long : q.field = .length → 1 ≤ result.value)
    (gate : Nat) :
    amendGateOpen c q result gate = false ↔ ∃ i, AmendChanges c q.field result.value i ∧ i < gate := by
  cases field : q.field with
  | power =>
    simp only [amendGateOpen, field, AmendChanges, decide_eq_false_iff_not]
    constructor
    · exact fun closed => ⟨c.start, .inl ⟨trivial, by omega, by omega⟩, by omega⟩
    · rintro ⟨i, ⟨_, from_, _⟩ | ⟨other, _⟩, before⟩
      · omega
      · nomatch other
  | length =>
    have new := long field
    simp only [amendGateOpen, field, AmendChanges, lengthGateOpen, Bool.or_eq_false_iff, decide_eq_false_iff_not]
    constructor
    · exact fun ⟨differs, closed⟩ =>
        ⟨min (c.start + c.length - 1) (c.start + result.value.toNat - 1) + 1,
          .inr ⟨trivial, by omega, by omega⟩, by omega⟩
    · rintro ⟨i, ⟨other, _⟩ | ⟨_, above, below⟩, before⟩
      · nomatch other
      · omega
  | marketReference =>
    simp only [amendGateOpen, field, AmendChanges]
    constructor
    · nofun
    · rintro ⟨i, ⟨other, _⟩ | ⟨other, _⟩, before⟩ <;> nomatch other

end

/-! ### AMEND_PREVIEW (R49) -/

section
variable {p : Port} {tag : Octet} {q : AmendRequest} {s : State}

theorem previewAmend_unconfigured (h : s.dispatcher.mode = .unconfigured) :
    previewAmend p tag q s = respond p tag 0x02 (.bare .wrongState) s := by
  simp [previewAmend, scheduleRefusal, h]

theorem previewAmend_noRight (h : s.dispatcher.mode ≠ .unconfigured)
    (right : hasRight s.store.authority p (.amend q) = false) :
    previewAmend p tag q s = respond p tag 0x02 (.withBody .noAuthority (u8 (authorityCode s.store.authority))) s := by
  simp [previewAmend, scheduleRefusal, h, right]

variable (configured : s.dispatcher.mode ≠ .unconfigured) (right : hasRight s.store.authority p (.amend q) = true)
include configured right

theorem previewAmend_refused {status : Status} (h : amendArrival q s = .inl status) :
    previewAmend p tag q s = respond p tag 0x02 (.bare status) s := by
  simp [previewAmend, scheduleRefusal, configured, right, h]

theorem previewAmend_foretells {c : Commitment} {result : AmendResult} (h : amendArrival q s = .inr (c, result)) :
    previewAmend p tag q s = respond p tag 0x02 (previewReply q c result) s := by
  simp [previewAmend, scheduleRefusal, configured, right, h]

end

theorem fieldValue_eq (field : AmendField) (value : Int) : fieldValue field value = operandOctets field value := by
  cases field <;> rfl

/-- Settles O18: the results of an AMEND, their refusals on arrival, and the preview. -/
theorem amendResultsAreFormedJudgedAndForetold : Obligations.AmendResultsAreFormedJudgedAndForetold := by
  unfold Obligations.AmendResultsAreFormedJudgedAndForetold
  refine ⟨fun now c q => ?_, fun c q s positive => ?_, fun f q s r ha hb hq hp => ?_⟩
  · intro present raw result
    have isRaw : amendRaw q.operation (presentValue c q.field) q.operand = raw := by
      rw [presentValue_eq, amendRaw_eq]
    refine ⟨fun power energy => ?_, fun power reserve => ?_, fun length horizon current => ?_, fun length active past => ?_,
      fun reference => ?_⟩
    · have isResult : result = powerResult .energy raw := by
        rw [← isRaw, ← energy]
        exact amendResult_power power
      rw [isResult]
      exact powerResult_energy raw
    · have isResult : result = powerResult c.kind raw := by
        rw [← isRaw]
        exact amendResult_power power
      rw [isResult]
      exact powerResult_reserve reserve raw
    · have isResult : result = lengthResult now c raw := by
        rw [← isRaw]
        exact amendResult_length length
      rw [isResult]
      exact lengthResult_within raw horizon current
    · have isResult : result = lengthResult now c raw := by
        rw [← isRaw]
        exact amendResult_length length
      rw [isResult]
      exact lengthResult_past raw active past
    · rw [← isRaw]
      exact amendResult_reference reference
  · intro result gate duplicate last newLast changes closed refusal
    have isDuplicate : amendDuplicate c q result s.store.commitments = true ↔ duplicate := amendDuplicate_iff result _
    have long (length : q.field = .length) : 1 ≤ result.value := by
      simp only [result, amendResult_length length, lengthResult_eq]
      exact heldLength_ge ..
    have isClosed : amendGateOpen c q result s.gate = false ↔ closed := amendGateOpen_iff positive result long gate
    refine ⟨fun dup => if_pos (isDuplicate.2 dup), fun fresh tentative shut => ?_, fun fresh may => ?_⟩
    · exact (if_neg (isDuplicate.not.2 fresh)).trans (if_pos ⟨tentative, isClosed.2 shut⟩)
    · refine (if_neg (isDuplicate.not.2 fresh)).trans (if_neg fun both => ?_)
      obtain firm | ahead := may
      · exact nomatch (both.1.symm.trans firm : Standing.tentative = .firm)
      · exact ahead (isClosed.1 both.2)
  · intro status right
    have executed := exec_amendPreview_admitted ha hb hq hp
    refine ⟨fun unconfigured => executed.trans (congrArg _ (previewAmend_unconfigured unconfigured)), fun configured =>
      ⟨fun no => executed.trans (congrArg _ (previewAmend_noRight configured no)), fun may => ?_⟩⟩
    have turned {k : Status} (h : amendArrival q r = .inl k) : status k [] :=
      executed.trans (congrArg _ (previewAmend_refused configured may h))
    refine ⟨fun absent => turned (amendArrival_absent absent), fun c found => ?_⟩
    intro result present reference
    refine ⟨fun isReference => turned (amendArrival_reference found isReference), fun other => ⟨fun k judged => turned ?_,
      fun passes => ?_⟩⟩
    · rw [amendArrival_judged found other, judged]
    · have arrives : amendArrival q r = .inr (c, result) := by
        rw [amendArrival_judged found other, passes]
      have unchanged : amendUnchanged c q result = true ↔ result.zero = false ∧ result.value = present :=
        amendUnchanged_iff ..
      rw [executed, previewAmend_foretells configured may arrives, previewReply, fieldValue_eq]
      simp only [unchanged]
      rfl

end Sys2Proof.Machine
end

/-!
The Boundary at the Commitment Store and the delivery of an imbalance: O23.
-/
section
namespace Sys2Proof.Machine

/-! ### A record's fate (R7, R55) -/

/-- A record made ACTIVE, or kept so, at a Boundary: its Remaining counts from the New Interval on. -/
def Commitment.activeFrom (c : Commitment) (now : Nat) : Commitment :=
  { c with phase := .active (c.last + 1 - now), deployed := 0 }

section
variable {c : Commitment} {now remaining : Nat}

theorem settleCounted_active (h : c.phase = .active remaining) : settleCounted now c =
    if c.last < now then none else some (c.activeFrom now) := by
  rw [settleCounted, h]
  rfl

theorem settleCounted_ahead (h : c.phase = .pending) (ahead : now < c.start) : settleCounted now c = some c := by
  rw [settleCounted, h]
  exact if_pos ahead

theorem settleCounted_tentative (h : c.phase = .pending) (reached : c.start ≤ now) (tentative : c.standing = .tentative) :
    settleCounted now c = none := by
  rw [settleCounted, h, tentative]
  exact if_neg (Nat.not_lt.2 reached)

theorem settleCounted_firm (h : c.phase = .pending) (reached : c.start ≤ now) (firm : c.standing = .firm) :
    settleCounted now c = if c.last < now then none else some (c.activeFrom now) := by
  rw [settleCounted, h]
  refine (if_neg (Nat.not_lt.2 reached)).trans ?_
  split
  · next tentative => exact nomatch (firm.symm.trans tentative : Standing.firm = .tentative)
  · rfl

theorem settleJump_tentative (tentative : c.standing = .tentative) :
    settleJump now c = if c.start ≤ now then none else some c := by
  rw [settleJump, tentative]

theorem settleJump_firm (firm : c.standing = .firm) : settleJump now c =
    if c.last < now then none else if c.start ≤ now then some (c.activeFrom now) else some c := by
  unfold settleJump
  split
  · rfl
  · next tentative => exact nomatch (firm.symm.trans tentative : Standing.firm = .tentative)

/-- The fate of a FIRM record, whatever the Step: it leaves when its span has ended, is ACTIVE while its span covers the New
Interval, and waits before. -/
theorem settleRecord_firm {step : Nat} {day : Bool} (firm : c.standing = .firm) (positive : 1 ≤ c.length)
    (started : c.isActive = true → c.start ≤ now) :
    settleRecord { newInterval := now, step := .forward step, dayStart := day } c =
      if c.last < now then none else if c.start ≤ now then some (c.activeFrom now) else some c := by
  have ends : c.start ≤ c.last := by
    rw [Commitment.last]
    omega
  show (if step ≤ 1 then settleCounted now c else settleJump now c) = _
  by_cases one : step ≤ 1
  · rw [if_pos one]
    cases phase : c.phase with
    | active remaining =>
      have reached := started (by rw [Commitment.isActive, phase])
      rw [settleCounted_active phase, if_pos reached]
    | pending =>
      by_cases reached : c.start ≤ now
      · rw [settleCounted_firm phase reached firm, if_pos reached]
      · rw [settleCounted_ahead phase (Nat.not_le.1 reached), if_neg reached, if_neg (by omega)]
  · rw [if_neg one, settleJump_firm firm]

end

/-! ### The commands -/

theorem exec_commitmentBoundary_oldest {b : Boundary} {left : List Raised} {s : State}
    (h : Oldest (pickBoundary .commitmentStore) s.raised b left) :
    exec .commitmentBoundary s = .next (settleBoundary b (s.setRaised left)) :=
  congrArg Host.Outcome.next (handleRaised_oldest h)

theorem exec_imbalanceDelivery_oldest {closed : Nat} {kwh : Int} {left : List Raised} {s : State}
    (h : Oldest pickImbalance s.raised (closed, kwh) left) :
    exec .imbalanceDelivery s = .next (deliverImbalance closed kwh (s.setRaised left)) :=
  congrArg Host.Outcome.next (handleRaised_oldest h)

/-- The Store once its records are settled. -/
def settledStore (b : Boundary) (st : Store) : Store :=
  { st with
    commitments := st.commitments.filterMap (settleRecord b)
    dayImbalance := if b.dayStart then 0 else st.dayImbalance }

theorem settleBoundary_eq (b : Boundary) (s : State) : settleBoundary b s =
    { s with
      store := settledStore b s.store
      sticky := s.sticky ||| if s.store.commitments.any (lapsesAt b) then stickyBit .commitmentLapsed else 0
      raised := if firmRecords (s.store.commitments.filterMap (settleRecord b)) = firmRecords s.store.commitments then s.raised
        else s.raised ++ [.activeFirm] } := by
  unfold settleBoundary
  dsimp only
  rw [setStickyIf_eq]
  split <;> rfl

theorem lapses_iff (b : Boundary) (records : List Commitment) : records.any (lapsesAt b) = true ↔
    ∃ c ∈ records, c.standing = .tentative ∧ settleRecord b c = none := by
  simp only [List.any_eq_true, lapsesAt, Bool.and_eq_true, decide_eq_true_iff, Option.isNone_iff_eq_none]

theorem holdKwh_eq (x : Int) : holdKwh x = max (-2000000000) (min 2000000000 x) := holdInt_eq (by decide) x

/-- Settles O23: the settling of the records at a Boundary, and the delivery of an imbalance. -/
theorem boundariesSettleRecordsAndThePosition : Obligations.BoundariesSettleRecordsAndThePosition := by
  unfold Obligations.BoundariesSettleRecordsAndThePosition
  refine ⟨fun b left s oldest => ?_, fun c now remaining day => ?_, fun c now step day jumps => ?_,
    fun c now step day firm positive started => ?_, fun closed kwh left s oldest => ?_⟩
  · intro before after lapsed firm
    refine ⟨settleBoundary b (s.setRaised left), exec_commitmentBoundary_oldest oldest, ?_, fun changed => ?_,
      fun same => ?_, fun i => ?_⟩
    · rw [settleBoundary_eq]
      rfl
    · rw [settleBoundary_eq]
      exact if_neg changed
    · rw [settleBoundary_eq]
      exact if_pos same
    · rw [settleBoundary_eq]
      show (s.sticky ||| if before.any (lapsesAt b) then stickyBit .commitmentLapsed else 0).getLsbD i = true ↔ _
      rw [getLsbD_or_stickyBit_if, lapses_iff]
      rfl
  · intro one last
    have ends : c.last = last := rfl
    have fate : settleRecord one c = settleCounted now c := rfl
    rw [fate]
    refine ⟨fun active counts => ⟨fun more => ?_, fun done => ?_⟩, fun active formed some_ => ?_, fun active covers => ?_,
      fun active ended => ?_, fun pending ahead => settleCounted_ahead pending ahead,
      fun pending reached tentative => settleCounted_tentative pending reached.le tentative,
      fun pending reached firm positive => ?_⟩
    · have left : c.last + 1 - now = remaining - 1 := show last + 1 - now = _ by omega
      rw [settleCounted_active active, if_neg (show ¬ c.last < now by omega), Commitment.activeFrom, left]
    · rw [settleCounted_active active, if_pos (show c.last < now by omega)]
    · have left : c.last + 1 - now = remaining := show last + 1 - now = _ by omega
      rw [settleCounted_active active, if_neg (show ¬ c.last < now by omega), Commitment.activeFrom, left, ← active]
    · rw [settleCounted_active active, if_neg (show ¬ c.last < now by omega)]
      rfl
    · rw [settleCounted_active active, if_pos (show c.last < now from ended)]
    · have left : c.last + 1 - now = c.length := by
        rw [Commitment.last]
        omega
      rw [settleCounted_firm pending reached.le firm, if_neg (by rw [Commitment.last]; omega), Commitment.activeFrom, left]
  · intro jump last
    have ends : c.last = last := rfl
    have fate : settleRecord jump c = settleJump now c := if_neg (by omega)
    rw [fate]
    refine ⟨fun tentative ahead => ?_, fun tentative reached => ?_, fun firm ended => ?_, fun firm reached covers => ?_,
      fun firm ahead positive => ?_⟩
    · rw [settleJump_tentative tentative, if_neg (Nat.not_le.2 ahead)]
    · rw [settleJump_tentative tentative, if_pos reached]
    · rw [settleJump_firm firm, if_pos (show c.last < now from ended)]
    · rw [settleJump_firm firm, if_neg (show ¬ c.last < now by omega), if_pos reached]
      rfl
    · rw [settleJump_firm firm, if_neg (show ¬ c.last < now by omega), if_neg (Nat.not_le.2 ahead)]
  · intro forward last
    rw [settleRecord_firm firm positive started]
    have ends : last = c.last := rfl
    refine ⟨?_, fun k stays => ?_⟩
    · by_cases ended : c.last < now
      · simp [ended, ends]
      · by_cases reached : c.start ≤ now <;> simp [ended, reached, ends]
    · by_cases ended : c.last < now
      · simp [ended] at stays
      · rw [if_neg ended] at stays
        by_cases reached : c.start ≤ now
        · rw [if_pos reached] at stays
          cases stays
          refine ⟨rfl, rfl, iff_of_true rfl ⟨reached, by omega⟩, fun remaining same => ?_⟩
          have counted : c.last + 1 - now = remaining := Phase.active.inj same
          omega
        · rw [if_neg reached] at stays
          cases stays
          refine ⟨rfl, rfl, iff_of_false (fun active => reached (started active)) fun both => reached both.1,
            fun remaining same => absurd (started (by rw [Commitment.isActive, same])) reached⟩
  · intro bound held day
    rw [exec_imbalanceDelivery_oldest oldest, deliverImbalance]
    simp only [holdKwh_eq]
    rfl

end Sys2Proof.Machine
end

/-!
The Horizon Projector: how Passes begin, restart at a Boundary and complete: O29, O30, O31.
-/
section
namespace Sys2Proof.Machine

/-! ### The Start State (R84, R85) -/

theorem outOfService_iff (state : TrainState) : outOfService state = true ↔ state = .tripped ∨ state = .lost := by
  cases state <;> simp [outOfService]

theorem storedEnergy_eq_sum (layers : List Layer) : storedEnergy layers = (layers.map Layer.energy).sum :=
  sumOver_eq_sum ..

theorem usableHeat_eq_sum (tUse : Nat) (layers : List Layer) :
    usableHeat tUse layers = ((layers.filter fun l => decide (tUse ≤ l.temperature)).map Layer.energy).sum :=
  sumOver_eq_sum ..

/-- A sum over the chosen elements is a sum over all with 0 for the others. -/
theorem sumOver_filter {α : Type} (f : α → Nat) (p : α → Bool) (l : List α) :
    sumOver f (l.filter p) = sumOver (fun a => if p a = true then f a else 0) l := by
  induction l with
  | nil => rfl
  | cons a l ih =>
    by_cases h : p a = true
    · rw [List.filter_cons_of_pos h, sumOver, ih, sumOver, if_pos h]
    · rw [List.filter_cons_of_neg h, ih, sumOver, if_neg h, Nat.zero_add]

/-- Reserved Energy as a sum over the compressors bound to the Tank. -/
theorem reservedEnergy_eq_sum (trains : PerTrain TrainContext) (tank : Tank) : reservedEnergy trains tank =
    (([trains.k1, trains.k2, trains.k3].filter fun c => decide (c.boundTank = tank)).map TrainContext.reservation).sum := by
  rw [← sumOver_eq_sum, sumOver_filter]
  simp only [sumOver, decide_eq_true_iff, reservedEnergy, reservedBy]
  omega

theorem sampleStart_usable (s : State) : (sampleStart s).usable =
    ((([s.tanks.t1, s.tanks.t2, s.tanks.t3].filter TankState.surveyed).map fun v =>
      ((v.layers.filter fun l => decide (s.loader.heat.tUse ≤ l.temperature)).map Layer.energy).sum)).sum := by
  simp only [← sumOver_eq_sum]
  show sumOver (fun t => usableHeat s.loader.heat.tUse (s.tank t).layers) (allTanks.filter fun t => (s.tank t).surveyed) = _
  rw [sumOver_filter, sumOver_filter]
  rfl

theorem sampleStart_free (s : State) : (sampleStart s).free =
    sumOver (fun t => if (s.tank t).surveyed = true then freeEnergy s t else 0) allTanks := by
  show sumOver (freeEnergy s) (allTanks.filter fun t => (s.tank t).surveyed) = _
  rw [sumOver_filter]

theorem beginIfDue_due {s : State} (h : s.projector.passPending = true ∧ s.projector.passState = .idle ∧
    s.dispatcher.mode ≠ .unconfigured) : beginIfDue s = beginPass s :=
  if_pos ⟨h.1, decide_eq_true h.2.1, h.2.2⟩

theorem beginIfDue_undue {s : State} (h : ¬ (s.projector.passPending = true ∧ s.projector.passState = .idle ∧
    s.dispatcher.mode ≠ .unconfigured)) : beginIfDue s = s :=
  if_neg fun ⟨pending, idle, mode⟩ => h ⟨pending, of_decide_eq_true idle, mode⟩

/-- Settles O30: the triggers and beginnings of a Pass, each sampled item, and the overlay of a Trial. -/
theorem passesBeginFromTheSampledState : Obligations.PassesBeginFromTheSampledState := by
  unfold Obligations.PassesBeginFromTheSampledState
  refine ⟨fun trial s => ⟨rfl, rfl, rfl, beginIfDue_due, beginIfDue_undue⟩, fun s => ?_,
    fun r h start old n p held records => ⟨rfl, rfl, rfl, rfl⟩⟩
  intro energy surveyed warm held room st
  have free (tank : Tank) : freeEnergy s tank = (s.tank tank).capacity - energy (s.tank tank).layers - held tank := by
    rw [freeEnergy, storedEnergy_eq_sum, reservedEnergy_eq_sum]
  refine ⟨rfl, rfl, sampleStart_usable s, ?_, rfl, rfl, fun t => ⟨?_, ?_⟩, rfl, rfl, rfl, rfl, rfl, rfl, rfl⟩
  · rw [sampleStart_free]
    simp only [sumOver, allTanks, free, room, Nat.add_zero, Nat.add_assoc]
  · have sampled : (st.trains.get t).available = !outOfService (s.train t).state := by cases t <;> rfl
    rw [sampled, Bool.not_eq_true', ← Bool.not_eq_true, outOfService_iff, not_or]
  · cases t <;> rfl

/-! ### The shift of the Horizon Table (R77, R80) -/

theorem filter_from_interval {rows : List Row} {base : Nat} (now : Nat)
    (numbered : rows.map Row.interval = List.range' base rows.length) :
    rows.filter (fun r => decide (now ≤ r.interval)) = rows.drop (now - base) := by
  induction rows generalizing base with
  | nil => simp
  | cons r rows ih =>
    obtain ⟨first, rest⟩ := List.cons.inj (numbered.trans List.range'_succ)
    have tail := ih rest
    by_cases kept : now ≤ base
    · rw [List.filter_cons_of_pos (by simp [first, kept]), tail, show now - base = 0 by omega,
        show now - (base + 1) = 0 by omega]
      rfl
    · rw [List.filter_cons_of_neg (by simpa [first] using kept), tail, show now - base = now - (base + 1) + 1 by omega]
      rfl

theorem shiftRows_numbered {rows : List Row} {base : Nat} (step : Nat)
    (numbered : rows.map Row.interval = (List.range 192).map (base + ·)) :
    shiftRows (base + step) rows = rows.drop step ++
      (List.range (min step 192)).map fun i => Row.unprojected (base + step + (192 - min step 192) + i) := by
  have count : rows.length = 192 := by simpa using congrArg List.length numbered
  have kept : rows.filter (fun r => decide (base + step ≤ r.interval)) = rows.drop step := by
    rw [filter_from_interval (base := base) _ (by rw [numbered, count, List.range'_eq_map_range]), Nat.add_sub_cancel_left]
  have new : 192 - (rows.drop step).length = min step 192 := by
    rw [List.length_drop, count]
    omega
  have held : (rows.drop step).length = 192 - min step 192 := by
    rw [List.length_drop, count]
    omega
  unfold shiftRows
  dsimp only
  rw [kept, new, held]

/-! ### The judgement of a Trial at a restart (R103) -/

section
variable {s : State} {h start old new : Nat} {held : Bool}

theorem trialRefusal_enter (r : Commitment) : trialRefusal (.enter r) s =
    if r.start < s.gate then some .gateClosed
    else if s.interval + 191 < r.start + r.length - 1 then some .outOfRange else none := rfl

theorem trialRefusal_power (p : Int) : trialRefusal (.power h start old p held) s =
    if start ≤ s.interval then some .pastInterval else if start < s.gate then some .gateClosed else none := rfl

theorem trialRefusal_length : trialRefusal (.length h start old new held) s =
    if start ≤ s.interval then some .pastInterval
    else if lengthGateOpen start old new s.gate then none else some .gateClosed := rfl

theorem lengthGateOpen_iff (gate : Nat) (ho : 1 ≤ old) (hn : 1 ≤ new) : ¬ lengthGateOpen start old new gate = true ↔
    ∃ i, min (start + old - 1) (start + new - 1) < i ∧ i ≤ max (start + old - 1) (start + new - 1) ∧ i < gate := by
  simp only [lengthGateOpen, Bool.or_eq_true, decide_eq_true_iff]
  constructor
  · exact fun closed => ⟨min (start + old - 1) (start + new - 1) + 1, by omega, by omega, by omega⟩
  · rintro ⟨i, above, below, before⟩
    omega

end

/-! ### A Boundary at the Projector (R80, R102) -/

theorem exec_horizonShift_oldest {b : Boundary} {left : List Raised} {s : State}
    (h : Oldest (pickBoundary .horizonProjector) s.raised b left) :
    exec .horizonShift s = .next (shiftForBoundary b (s.setRaised left)) :=
  congrArg Host.Outcome.next (handleRaised_oldest h)

/-- The state once the table is shifted, STALE and pass-pending. -/
def shiftedState (b : Boundary) (s : State) : State :=
  s.setProjector
    { s.projector with horizon := shiftHorizon b s.projector.horizon, current := false, passPending := true }

section
variable {b : Boundary} {s : State}

theorem shiftForBoundary_idle (h : s.projector.passState = .idle) :
    shiftForBoundary b s = beginIfDue (shiftedState b s) := if_pos h

theorem shiftForBoundary_busy (h : s.projector.passState ≠ .idle) :
    shiftForBoundary b s = restartPass (setSticky .passRestarted (shiftedState b s)) := if_neg h

theorem restartPass_plain (h : s.projector.trial = none) : restartPass s = beginPass s := by
  rw [restartPass, h]

theorem restartPass_kept {trial : Trial} (h : s.projector.trial = some trial) (passes : trialRefusal trial s = none) :
    restartPass s = beginScreen trial s := by
  rw [restartPass, h]
  dsimp only
  rw [passes]

theorem restartPass_refused {trial : Trial} {status : Status} (h : s.projector.trial = some trial)
    (refused : trialRefusal trial s = some status) : restartPass s = beginPass (answerServed (.bare status) s) := by
  rw [restartPass, h]
  dsimp only
  rw [refused]

theorem answerServed_none {reply : Reply} (h : s.store.inService = none) : answerServed reply s = s := by
  rw [answerServed, h]

theorem answerServed_some {reply : Reply} {e : Entry} (h : s.store.inService = some e) :
    answerServed reply s = answerInService e reply (setInService none s) := by
  rw [answerServed, h]

end

/-- The judgement of a Trial reads the Clock alone. -/
theorem trialRefusal_congr {s s' : State} (trial : Trial) (h : s'.clock = s.clock) :
    trialRefusal trial s' = trialRefusal trial s := by
  have now : s'.interval = s.interval := by rw [State.interval, h, State.interval]
  have gate : s'.gate = s.gate := by rw [State.gate, now, h, State.gate]
  cases trial <;> simp only [trialRefusal, now, gate]

/-- Settles O29: the handling of a Boundary by the Pass in flight, the shift of the rows, and the Trials refused. -/
theorem aBoundaryShiftsTheHorizonAndRestartsThePass : Obligations.ABoundaryShiftsTheHorizonAndRestartsThePass := by
  unfold Obligations.ABoundaryShiftsTheHorizonAndRestartsThePass
  refine ⟨fun b left s oldest => ?_, fun now step base day rows numbered same => ?_,
    fun r h start old new power held s => ?_⟩
  · intro shifted quiet restarted
    have executed := exec_horizonShift_oldest oldest
    refine ⟨fun idle => executed.trans (congrArg _ (shiftForBoundary_idle (s := s.setRaised left) idle)), fun busy => ?_⟩
    have restarts : exec .horizonShift s = .next (restartPass restarted) :=
      executed.trans (congrArg _ (shiftForBoundary_busy (s := s.setRaised left) busy))
    refine ⟨fun plain => restarts.trans (congrArg _ (restartPass_plain plain)), fun trial screens => ⟨fun passes => ?_,
      fun status refused free => ?_, fun status e refused served => ?_⟩⟩
    · exact restarts.trans (congrArg _ (restartPass_kept screens ((trialRefusal_congr trial rfl).trans passes)))
    · have turned := restartPass_refused (s := restarted) screens ((trialRefusal_congr trial rfl).trans refused)
      rw [answerServed_none (s := restarted) free] at turned
      exact restarts.trans (congrArg _ turned)
    · have turned := restartPass_refused (s := restarted) screens ((trialRefusal_congr trial rfl).trans refused)
      rw [answerServed_some (s := restarted) served] at turned
      exact restarts.trans (congrArg _ turned)
  · subst same
    refine ⟨shiftRows_numbered step numbered, ?_⟩
    show shiftRows (base + step) [] = _
    simp [shiftRows]
  · intro gate
    rw [trialRefusal_enter, trialRefusal_power, trialRefusal_length]
    have isGate : s.gate = gate := rfl
    rw [isGate]
    refine ⟨?_, ?_, ?_, ?_, ?_, fun ho hn => ?_⟩
    · split_ifs <;> simp_all
    · split_ifs <;> simp_all
    · split_ifs <;> simp_all
    · split_ifs <;> simp_all
    · split_ifs <;> simp_all
    · rw [← lengthGateOpen_iff gate ho hn]
      split_ifs <;> simp_all

/-! ### The At Risk marks (R89) -/

theorem atRiskMark_lapsing {rows : List Row} {base : Nat} {c : Commitment} (h : c.lapsing base = true) :
    atRiskMark rows base c = none := if_pos h

theorem atRiskMark_eq {rows : List Row} {base : Nat} {c : Commitment} (h : ¬ c.lapsing base = true) :
    atRiskMark rows base c = (rows.find? fun r => c.covers r.interval && r.failing).map Row.interval := if_neg h

/-- In rows of ascending intervals the first one found is the lowest. -/
theorem find?_lowest {rows : List Row} {p : Row → Bool} (ordered : rows.Pairwise fun a b => a.interval < b.interval)
    (i : Nat) : (rows.find? p).map Row.interval = some i ↔
      (∃ r ∈ rows, r.interval = i ∧ p r = true) ∧ ∀ r ∈ rows, p r = true → i ≤ r.interval := by
  constructor
  · intro h
    obtain ⟨r, found, rfl⟩ := Option.map_eq_some_iff.1 h
    obtain ⟨may, front, back, rfl, before⟩ := List.find?_eq_some_iff_append.1 found
    refine ⟨⟨r, by simp, rfl, may⟩, fun k mem hk => ?_⟩
    rcases List.mem_append.1 mem with early | late
    · have other := before k early
      simp [hk] at other
    · rcases List.mem_cons.1 late with rfl | later
      · exact le_rfl
      · exact ((List.pairwise_cons.1 (List.pairwise_append.1 ordered).2.1).1 k later).le
  · rintro ⟨⟨r, mem, rfl, may⟩, least⟩
    cases found : rows.find? p with
    | none => exact absurd may (List.find?_eq_none.1 found r mem)
    | some k =>
      obtain ⟨hk, front, back, rfl, before⟩ := List.find?_eq_some_iff_append.1 found
      have low := least k (by simp) hk
      rcases List.mem_append.1 mem with early | late
      · have other := before r early
        simp [may] at other
      · rcases List.mem_cons.1 late with rfl | later
        · rfl
        · have := (List.pairwise_cons.1 (List.pairwise_append.1 ordered).2.1).1 r later
          omega

theorem atRiskMark_some_iff {rows : List Row} (base i : Nat) (c : Commitment)
    (ordered : rows.Pairwise fun a b => a.interval < b.interval) : atRiskMark rows base c = some i ↔
      ¬ (c.standing = .tentative ∧ c.start ≤ base) ∧
      (∃ r ∈ rows, r.interval = i ∧ r.failing = true ∧ c.start ≤ i ∧ i ≤ c.start + c.length - 1) ∧
      ∀ r ∈ rows, r.failing = true → c.start ≤ r.interval → r.interval ≤ c.start + c.length - 1 → i ≤ r.interval := by
  have covered (r : Row) : (c.covers r.interval && r.failing) = true ↔
      (c.start ≤ r.interval ∧ r.interval ≤ c.start + c.length - 1) ∧ r.failing = true := by
    rw [Bool.and_eq_true, Commitment.covers_iff]
  by_cases lapsing : c.lapsing base = true
  · rw [atRiskMark_lapsing lapsing]
    simp [(Commitment.lapsing_iff c base).1 lapsing]
  · rw [atRiskMark_eq lapsing, find?_lowest ordered, ← Commitment.lapsing_iff, and_iff_right lapsing]
    simp only [covered]
    constructor
    · rintro ⟨⟨r, mem, rfl, span, failing⟩, least⟩
      exact ⟨⟨r, mem, rfl, failing, span⟩, fun k hk fails from_ to_ => least k hk ⟨⟨from_, to_⟩, fails⟩⟩
    · rintro ⟨⟨r, mem, rfl, failing, span⟩, least⟩
      exact ⟨⟨r, mem, rfl, span, failing⟩, fun k hk both => least k hk both.2 both.1.1 both.1.2⟩

/-! ### The completion of a Pass (R88, R99, R100) -/

/-- The records with their marks rewritten from the rows of a Pass. -/
def markedRecords (rows : List Row) (base : Nat) (records : List Commitment) : List Commitment :=
  records.map fun c => { c with atRisk := atRiskMark rows base c }

/-- Whether a clear mark becomes set. -/
def newlyAtRisk (rows : List Row) (base : Nat) (records : List Commitment) : Bool :=
  records.any fun c => decide (c.atRisk = none ∧ atRiskMark rows base c ≠ none)

/-- The interval of the first row, or the Current Interval Number. -/
def rowBase (rows : List Row) (s : State) : Nat := (rows.head?.map Row.interval).getD s.interval

theorem adopt_eq (rows : List Row) (s : State) : adopt rows s =
    { s with
      projector := { s.projector with horizon := rows, current := true }
      store := { s.store with commitments := markedRecords rows (rowBase rows s) s.store.commitments }
      sticky := if newlyAtRisk rows (rowBase rows s) s.store.commitments then s.sticky ||| 1#26 else s.sticky } := by
  have newly : (s.store.commitments.any fun c => c.atRisk.isNone && (atRiskMark rows (rowBase rows s) c).isSome) =
      newlyAtRisk rows (rowBase rows s) s.store.commitments := by
    unfold newlyAtRisk
    congr 1
    funext c
    rw [Bool.eq_iff_iff, Bool.and_eq_true, decide_eq_true_iff, Option.isNone_iff_eq_none, Option.isSome_iff_ne_none]
  show setStickyIf (s.store.commitments.any fun c => c.atRisk.isNone && (atRiskMark rows (rowBase rows s) c).isSome)
    .scheduleAtRisk _ = _
  rw [newly, setStickyIf]
  split <;> rfl

theorem endPass_answerInService (e : Entry) (reply : Reply) (s : State) :
    endPass (answerInService e reply s) = answerInService e reply (endPass s) := by
  have link : ∀ p, (endPass s).link p = s.link p := fun p => by cases p <;> rfl
  by_cases dropped : (s.link e.source).dropped = true
  · rw [answerInService_dropped dropped, answerInService_dropped (by rw [link]; exact dropped), link]
    cases e.source <;> rfl
  · rw [Bool.not_eq_true] at dropped
    rw [answerInService_kept dropped, answerInService_kept (by rw [link]; exact dropped), answerEntry_eq, answerEntry_eq,
      link]
    cases e.source <;> rfl

theorem writeTrial_setStore (trial : Trial) (s : State) : writeTrial trial s = s.setStore (writeTrial trial s).store := by
  cases trial <;> rfl

section
variable {s : State}

theorem completePass_idle (h : s.projector.passState = .idle) : completePass s = s := if_pos h

theorem completePass_busy (h : s.projector.passState ≠ .idle) :
    completePass s = serveQueue (beginIfDue (endPass (decidePass s))) := if_neg h

theorem decidePass_plain (h : s.projector.trial = none) : decidePass s = adopt (finishedRows s.projector) s := by
  rw [decidePass, h]

theorem decidePass_unserved (h : s.projector.trial ≠ none) (free : s.store.inService = none) :
    decidePass s = triggerPass s := by
  obtain ⟨trial, screens⟩ := Option.ne_none_iff_exists'.1 h
  rw [decidePass, screens]
  dsimp only
  rw [free]

theorem decidePass_served {trial : Trial} {e : Entry} (h : s.projector.trial = some trial)
    (served : s.store.inService = some e) : decidePass s = judgeTrial trial e (finishedRows s.projector) s := by
  rw [decidePass, h]
  dsimp only
  rw [served]

variable {trial : Trial} {e : Entry} {rows : List Row}

theorem judgeTrial_refused {first : Row} {more : List Row} (h : breakingRows s.projector.horizon rows = first :: more) :
    judgeTrial trial e rows s = answerInService e (.withBody .infeasible
      (u32 first.interval ++ failureSet first.failures ++ u8 (breakingRows s.projector.horizon rows).length))
      (setInService none s) := by
  unfold judgeTrial
  rw [h]
  rfl

theorem judgeTrial_accepted (h : breakingRows s.projector.horizon rows = []) :
    judgeTrial trial e rows s = answerInService e (acceptedReply trial (adopt rows (writeTrial trial s)))
      (setInService none (adopt rows (writeTrial trial s))) := by
  unfold judgeTrial
  rw [h]

theorem acceptedReply_found {c : Commitment} (h : findHandle trial.handle s.store.commitments = some c) :
    acceptedReply trial s =
      { status := .done, zero := false, saturated := trial.saturated, body := commitmentBody c } := by
  rw [acceptedReply, h]

end

theorem mem_breakingRows (horizon rows : List Row) (r : Row) : r ∈ breakingRows horizon rows ↔
    r ∈ rows ∧ r.failing = true ∧ ∃ h ∈ horizon, h.interval = r.interval ∧ h.verdict = .feasible := by
  simp only [breakingRows, List.mem_filter, Bool.and_eq_true, List.any_eq_true, decide_eq_true_iff]

theorem breakingRows_eq (horizon rows : List Row) : breakingRows horizon rows = rows.filter fun r =>
    decide (r.failing = true ∧ ∃ h ∈ horizon, h.interval = r.interval ∧ h.verdict = .feasible) := by
  unfold breakingRows
  congr 1
  funext r
  rw [Bool.eq_iff_iff]
  simp only [Bool.and_eq_true, List.any_eq_true, decide_eq_true_iff]

/-- Settles O31: the adoption of a Pass, the judgement of its Trial, what an accepted Trial writes, and the At Risk marks. -/
theorem aCompletedPassIsAdoptedOrJudged : Obligations.ACompletedPassIsAdoptedOrJudged := by
  unfold Obligations.ACompletedPassIsAdoptedOrJudged
  refine ⟨fun s => ?_, fun r h start old n p held s => ?_, mem_breakingRows,
    fun horizon rows => ⟨List.filter_sublist, breakingRows_eq horizon rows⟩,
    fun rows base i c ordered => atRiskMark_some_iff base i c ordered⟩
  · intro rows ended current pending base marked newly breaking goOn
    have executed : exec .passCompletion s = .next (completePass s) := rfl
    have decides {t : State} (busy : s.projector.passState ≠ .idle) (h : endPass (decidePass s) = t) :
        exec .passCompletion s = .next (goOn t) := by
      rw [executed, completePass_busy busy, h]
    refine ⟨fun idle => executed.trans (congrArg _ (completePass_idle idle)), fun busy plain => decides busy ?_,
      fun busy screens free => decides busy ?_, fun trial e busy screens served => ⟨fun first more breaks => decides busy ?_,
        fun whole => ?_⟩⟩
    · rw [decidePass_plain plain, adopt_eq]
      rfl
    · rw [decidePass_unserved screens free]
      rfl
    · rw [decidePass_served screens served, judgeTrial_refused breaks, endPass_answerInService]
      rfl
    · intro written c found accepted
      refine decides busy ?_
      have adopted : adopt rows (writeTrial trial s) =
          { s with
            projector := current
            store := { written with commitments := marked written.commitments }
            sticky := if newly written.commitments then s.sticky ||| 1#26 else s.sticky } := by
        rw [writeTrial_setStore, adopt_eq]
        rfl
      rw [decidePass_served screens served, judgeTrial_accepted whole, endPass_answerInService, adopted,
        acceptedReply_found found]
      rfl
  · intro written powered lengthened
    refine ⟨?_, rfl, ?_⟩
    · have next : wrapNext 4095 r.handle = if r.handle < 4095 then r.handle + 1 else 1 := by
        rw [wrapNext]
        split <;> split <;> omega
      rw [← next]
      rfl
    · show setCommitments (s.store.commitments.map fun c => if c.handle = h then withLength s.interval n c else c) s = _
      have same : withLength s.interval n = lengthened := by
        funext c
        rcases c with ⟨_, _, _, _, phase, _⟩
        cases phase <;> rfl
      rw [same]
      rfl

end Sys2Proof.Machine
end

/-!
RESET_DISPATCH at the blocks: O34.
-/
section
namespace Sys2Proof.Machine

/-! ### Operations taken train by train -/

/-- A fold over all trains of an operation that acts on one train alone leaves each train as the operation on it does. -/
theorem foldTrains_sameTrain {f : State → Train → State} (other : ∀ s {t u : Train}, u ≠ t → SameTrain u s (f s t))
    (same : ∀ {s s' : State} {t : Train}, SameTrain t s s' → SameTrain t (f s t) (f s' t)) (l : List Train)
    (nodup : l.Nodup) (u : Train) (s : State) :
    (u ∉ l → SameTrain u s (l.foldl f s)) ∧ (u ∈ l → SameTrain u (f s u) (l.foldl f s)) := by
  induction l generalizing s with
  | nil => exact ⟨fun _ => .refl u s, nofun⟩
  | cons t l ih =>
    obtain ⟨fresh, distinct⟩ := List.nodup_cons.1 nodup
    clear nodup
    refine ⟨fun absent => ?_, fun mem => ?_⟩
    · have apart : u ≠ t := fun h => absent (h ▸ List.mem_cons_self)
      exact (other s apart).trans ((ih distinct _).1 fun h => absent (List.mem_cons_of_mem _ h))
    · rcases List.mem_cons.1 mem with rfl | mem
      · exact (ih distinct _).1 fresh
      · have apart : u ≠ t := fun h => fresh (h ▸ mem)
        exact (same (other s apart)).trans ((ih distinct _).2 mem)

theorem allTrains_sameTrain {f : State → Train → State} (other : ∀ s {t u : Train}, u ≠ t → SameTrain u s (f s t))
    (same : ∀ {s s' : State} {t : Train}, SameTrain t s s' → SameTrain t (f s t) (f s' t)) (u : Train) (s : State) :
    SameTrain u (f s u) (allTrains.foldl f s) :=
  (foldTrains_sameTrain other same allTrains (by decide) u s).2 (mem_allTrains u)

/-! ### The Train Unit (R169) -/

theorem resetTrain_other (s : State) {t u : Train} (h : u ≠ t) : SameTrain u s (resetTrain s t) := by
  unfold resetTrain
  dsimp only
  split
  · exact (SameTrain.setTrain_other h s _).trans (SameTrain.issueOrder_other h _ _)
  · exact SameTrain.setTrain_other h s _

theorem resetTrain_same {s s' : State} {t : Train} (h : SameTrain t s s') :
    SameTrain t (resetTrain s t) (resetTrain s' t) := by
  unfold resetTrain onTrain
  dsimp only
  rw [h.train]
  split
  · exact (h.setTrain _).order _
  · exact h.setTrain _

theorem resetTrain_rest {s : State} {t : Train} (h : inUse (s.train t).state = false) :
    (resetTrain s t).trainLinks.get t = s.trainLinks.get t := by
  unfold resetTrain
  dsimp only
  rw [if_neg (by simp [h])]
  rfl

theorem resetTrain_stop {s : State} {t : Train} (h : inUse (s.train t).state = true) :
    (resetTrain s t).trainLinks.get t =
      (s.trainLinks.get t).issue { command := .stop, setpoint := 0, topTemperature := orderTemperature s t } := by
  have bound : (s.train t).reset.boundTank = (s.train t).boundTank := by
    unfold TrainContext.reset
    split <;> rfl
  have temperature : orderTemperature (onTrain t TrainContext.reset s) t = orderTemperature s t := by
    unfold orderTemperature onTrain
    rw [State.train_setTrain, bound]
    rfl
  unfold resetTrain
  dsimp only
  rw [if_pos h, order, issueOrder, formOrder, temperature]
  simp [onTrain]

theorem resetTrains_eq (s : State) :
    resetTrains s = { s with
      trains := (resetTrains s).trains, trainLinks := (resetTrains s).trainLinks
      raised := s.raised ++ [.train .k1, .train .k2, .train .k3, .train .x1, .train .x2, .train .x3] } := by
  have frame : ∀ (l : List Train) (s : State), l.foldl resetTrain s =
      { s with trains := (l.foldl resetTrain s).trains, trainLinks := (l.foldl resetTrain s).trainLinks } := by
    intro l
    induction l with
    | nil => exact fun s => rfl
    | cons t l ih =>
      intro s
      have one : resetTrain s t = { s with trains := (resetTrain s t).trains, trainLinks := (resetTrain s t).trainLinks } := by
        unfold resetTrain
        dsimp only
        split <;> rfl
      rw [List.foldl_cons, ih, one]
  rw [resetTrains, frame]
  rfl

theorem resetTrains_train (s : State) (t : Train) : (resetTrains s).train t = (s.train t).reset := by
  have same := (allTrains_sameTrain resetTrain_other resetTrain_same t s).train
  rw [resetTrain_train] at same
  exact same

theorem resetTrains_link (s : State) (t : Train) :
    (resetTrains s).trainLinks.get t = (resetTrain s t).trainLinks.get t :=
  (allTrains_sameTrain resetTrain_other resetTrain_same t s).link

/-! ### The Commitment Store (R75) -/

/-- The response of an entry answered ABORTED. -/
def abortResponse (e : Entry) : Response :=
  { tag := e.tag, code := e.code, reply := { status := .aborted, zero := false, saturated := false, body := [] } }

/-- A port's link once entries are answered ABORTED. -/
def PortLink.abort (l : PortLink) (own : List Entry) : PortLink :=
  { l with responses := l.responses ++ own.map abortResponse, outstanding := l.outstanding - own.length }

/-- The entries of a port. -/
def ownEntries (p : Port) (entries : List Entry) : List Entry := entries.filter fun e => decide (e.source = p)

theorem PortLink.abort_append (l : PortLink) (a b : List Entry) : (l.abort a).abort b = l.abort (a ++ b) := by
  simp [PortLink.abort, List.append_assoc, Nat.sub_sub]

theorem PortLink.abort_dropped (l : PortLink) (mark : Bool) (own : List Entry) :
    ({ l with dropped := mark } : PortLink).abort own = { l.abort own with dropped := mark } := rfl

theorem ownEntries_append (p : Port) (a b : List Entry) : ownEntries p a ++ ownEntries p b = ownEntries p (a ++ b) :=
  (List.filter_append ..).symm

theorem PortLink.abort_nil (l : PortLink) : l.abort [] = l := by
  simp [PortLink.abort]

/-- An operation changes the ports' links alone, as given. -/
structure LinksOnly (s s' : State) (links : Port → PortLink) : Prop where
  links : ∀ p, s'.link p = links p
  rest : s' = { s with mp := s'.mp, sp := s'.sp }

theorem LinksOnly.trans {s s' s'' : State} {links links' : Port → PortLink} (h : LinksOnly s s' links)
    (k : LinksOnly s' s'' links') : LinksOnly s s'' links' :=
  ⟨k.links, by rw [k.rest, h.rest]⟩

theorem setLink_linksOnly (s : State) (p : Port) (l : PortLink) :
    LinksOnly s (s.setLink p l) fun q => if q = p then l else s.link q := by
  refine ⟨fun q => ?_, by cases p <;> rfl⟩
  by_cases same : q = p
  · rw [if_pos same, same, State.link_setLink]
  · rw [if_neg same, State.link_setLink_other _ _ _ _ same]

theorem answerEntry_linksOnly (e : Entry) (s : State) :
    LinksOnly s (answerEntry e (.bare .aborted) s) fun p => (s.link p).abort (ownEntries p [e]) := by
  rw [answerEntry_eq]
  have linked := setLink_linksOnly s e.source
    { s.link e.source with
      responses := (s.link e.source).responses ++ [{ tag := e.tag, code := e.code, reply := .bare .aborted }]
      outstanding := (s.link e.source).outstanding - 1 }
  refine ⟨fun p => ?_, linked.rest⟩
  rw [linked.links]
  by_cases same : p = e.source
  · subst same
    simp [ownEntries, PortLink.abort, abortResponse, Reply.bare]
  · have apart : e.source ≠ p := fun h => same h.symm
    simp [ownEntries, same, apart, PortLink.abort]

theorem abortQueued_linksOnly {served : Option Entry} {entries : List Entry} (apart : ∀ k ∈ entries, served ≠ some k)
    (s : State) : LinksOnly s (entries.foldl (abortEntry served) s) fun p => (s.link p).abort (ownEntries p entries) := by
  induction entries generalizing s with
  | nil => exact ⟨fun p => (PortLink.abort_nil _).symm, rfl⟩
  | cons e rest ih =>
    have first : abortEntry served s e = answerEntry e (.bare .aborted) s := if_neg (apart e List.mem_cons_self)
    rw [List.foldl_cons, first]
    have one := answerEntry_linksOnly e s
    have others := ih (fun k mem => apart k (List.mem_cons_of_mem _ mem)) (answerEntry e (.bare .aborted) s)
    refine ⟨fun p => ?_, (one.trans others).rest⟩
    rw [others.links, one.links, PortLink.abort_append]
    congr 1
    rw [ownEntries, ownEntries, ← List.filter_append]
    rfl

/-- The answer of the Entry in Service clears the Dropped Answer mark, or is an answer as any other. -/
theorem abortServed_linksOnly (e : Entry) (s : State) :
    LinksOnly s (abortEntry (some e) s e) fun p =>
      { (s.link p).abort (ownEntries p (if (s.link e.source).dropped = true then [] else [e])) with
        dropped := (s.link p).dropped && !decide (e.source = p) } := by
  have served : abortEntry (some e) s e = answerInService e (.bare .aborted) s := if_pos rfl
  rw [served]
  by_cases dropped : (s.link e.source).dropped = true
  · rw [answerInService_dropped dropped]
    have linked := setLink_linksOnly s e.source { s.link e.source with dropped := false }
    refine ⟨fun p => ?_, linked.rest⟩
    rw [linked.links, if_pos dropped, show ownEntries p [] = [] from rfl, PortLink.abort_nil]
    by_cases same : p = e.source
    · subst same
      simp
    · have apart : e.source ≠ p := fun h => same h.symm
      simp [same, apart]
  · rw [Bool.not_eq_true] at dropped
    rw [answerInService_kept dropped]
    have one := answerEntry_linksOnly e s
    refine ⟨fun p => ?_, one.rest⟩
    rw [one.links, if_neg (by simp [dropped])]
    have kept : ((s.link p).dropped && !decide (e.source = p)) = (s.link p).dropped := by
      by_cases same : e.source = p
      · rw [← same, dropped]
        rfl
      · simp [same]
    rw [kept]
    rfl

theorem insertByArrival_ordered {e : Entry} {queue : List Entry}
    (ordered : queue.Pairwise fun a b => a.arrival < b.arrival) (apart : ∀ k ∈ queue, k.arrival ≠ e.arrival) :
    (insertByArrival e queue).Pairwise fun a b => a.arrival < b.arrival := by
  induction queue with
  | nil => exact List.pairwise_singleton _ _
  | cons a rest ih =>
    obtain ⟨first, rest_⟩ := List.pairwise_cons.1 ordered
    unfold insertByArrival
    split
    · next before =>
      refine List.pairwise_cons.2 ⟨fun k mem => ?_, ordered⟩
      rcases List.mem_cons.1 mem with rfl | later
      · exact before
      · exact before.trans (first k later)
    · next after =>
      have other := apart a List.mem_cons_self
      refine List.pairwise_cons.2 ⟨fun k mem => ?_, ih rest_ fun k mem => apart k (List.mem_cons_of_mem _ mem)⟩
      obtain ⟨front, back, rfl, inserted⟩ := insertByArrival_split e rest
      rw [inserted] at mem
      rcases List.mem_append.1 mem with early | late
      · exact first k (List.mem_append_left _ early)
      · rcases List.mem_cons.1 late with rfl | later
        · omega
        · exact first k (List.mem_append_right _ later)

/-- The entries whose answers are not discarded, in Arrival Order. -/
def abortedEntries (s : State) : List Entry :=
  match s.store.inService with
  | none => s.store.queue
  | some e => if (s.link e.source).dropped = true then s.store.queue else insertByArrival e s.store.queue

theorem abortedEntries_none {s : State} (h : s.store.inService = none) : abortedEntries s = s.store.queue := by
  rw [abortedEntries, h]

theorem abortedEntries_some {s : State} {e : Entry} (h : s.store.inService = some e) : abortedEntries s =
    if (s.link e.source).dropped = true then s.store.queue else insertByArrival e s.store.queue := by
  rw [abortedEntries, h]

section
variable {s : State}

theorem abortedEntries_ordered (ordered : s.store.queue.Pairwise fun a b => a.arrival < b.arrival)
    (apart : ∀ e, s.store.inService = some e → ∀ k ∈ s.store.queue, k.arrival ≠ e.arrival) :
    (abortedEntries s).Pairwise fun a b => a.arrival < b.arrival := by
  cases served : s.store.inService with
  | none => rwa [abortedEntries_none served]
  | some e =>
    rw [abortedEntries_some served]
    split
    · exact ordered
    · exact insertByArrival_ordered ordered (apart e served)

theorem mem_abortedEntries (e : Entry) : e ∈ abortedEntries s ↔
    e ∈ s.store.queue ∨ (s.store.inService = some e ∧ (s.link e.source).dropped = false) := by
  cases served : s.store.inService with
  | none => simp [abortedEntries_none served]
  | some k =>
    obtain ⟨front, back, same, inserted⟩ := insertByArrival_split k s.store.queue
    rw [abortedEntries_some served, inserted, same]
    by_cases dropped : (s.link k.source).dropped = true
    · rw [if_pos dropped]
      refine ⟨.inl, fun either => either.elim id fun both => ?_⟩
      obtain ⟨rfl⟩ := Option.some.inj both.1
      simp [dropped] at both
    · rw [if_neg dropped]
      rw [Bool.not_eq_true] at dropped
      simp only [List.mem_append, List.mem_cons, Option.some.injEq]
      constructor
      · rintro (early | rfl | late)
        · exact .inl (.inl early)
        · exact .inr ⟨rfl, dropped⟩
        · exact .inl (.inr late)
      · rintro ((early | late) | ⟨rfl, _⟩)
        · exact .inl early
        · exact .inr (.inr late)
        · exact .inr (.inl rfl)

/-- What the reset leaves of the links. -/
theorem abortAll_linksOnly (apart : ∀ e, s.store.inService = some e → ∀ k ∈ s.store.queue, k.arrival ≠ e.arrival) :
    LinksOnly (s.setStore { s.store with queue := [], inService := none }) (abortAll s) fun p =>
      { (s.link p).abort (ownEntries p (abortedEntries s)) with
        dropped := (s.link p).dropped && !(s.store.inService.any fun e => decide (e.source = p)) } := by
  have link (p : Port) (st : Store) : (s.setStore st).link p = s.link p := State.link_setStore ..
  cases served : s.store.inService with
  | none =>
    have waiting : waitingEntries s.store = s.store.queue := by rw [waitingEntries, served]
    have others := abortQueued_linksOnly (served := none) (entries := s.store.queue) (fun k _ => nofun)
      (s.setStore { s.store with queue := [], inService := none })
    rw [abortAll, waiting, served, abortedEntries_none served]
    refine ⟨fun p => ?_, others.rest⟩
    rw [others.links, link]
    simp [PortLink.abort]
  | some e =>
    obtain ⟨front, back, same, inserted⟩ := insertByArrival_split e s.store.queue
    have waiting : waitingEntries s.store = front ++ e :: back := by rw [waitingEntries, served, ← inserted]
    have differs {k : Entry} (mem : k ∈ s.store.queue) : some e ≠ some k := fun h => by
      obtain ⟨rfl⟩ := Option.some.inj h
      exact apart e served e mem rfl
    rw [abortAll, waiting, served, List.foldl_append, List.foldl_cons, abortedEntries_some served, inserted, same]
    have early := abortQueued_linksOnly (served := some e) (entries := front)
      (fun k mem => differs (by rw [same]; exact List.mem_append_left _ mem))
      (s.setStore { s.store with queue := [], inService := none })
    generalize front.foldl (abortEntry (some e)) _ = s1 at early ⊢
    have own := abortServed_linksOnly e s1
    generalize abortEntry (some e) s1 e = s2 at own ⊢
    have late := abortQueued_linksOnly (served := some e) (entries := back)
      (fun k mem => differs (by rw [same]; exact List.mem_append_right _ mem)) s2
    refine ⟨fun p => ?_, ((early.trans own).trans late).rest⟩
    rw [late.links, own.links]
    simp only [early.links, link]
    have mark : ((s.link e.source).abort (ownEntries e.source front)).dropped = (s.link e.source).dropped := rfl
    rw [mark]
    rw [PortLink.abort_dropped, PortLink.abort_append, PortLink.abort_append, ownEntries_append, ownEntries_append]
    by_cases dropped : (s.link e.source).dropped = true
    · rw [if_pos dropped, if_pos dropped]
      rfl
    · rw [if_neg dropped, if_neg dropped]
      rfl

end

/-- Settles O34: RESET_DISPATCH at the Commitment Store, the Projector, the Heat Store Unit and the Train Unit. -/
theorem theBlocksHandleTheReset : Obligations.TheBlocksHandleTheReset := by
  unfold Obligations.TheBlocksHandleTheReset
  refine ⟨fun left s oldest ordered apart => ?_, fun left s => ⟨fun oldest => ?_, fun oldest => ?_, fun oldest => ?_⟩⟩
  · have executed : exec .commitmentStoreReset s = .next (abortAll (s.setRaised left)) :=
      congrArg Host.Outcome.next (handleRaised_oldest oldest)
    have aborts := abortAll_linksOnly (s := s.setRaised left) apart
    have frame : abortAll (s.setRaised left) =
        { s with
          mp := (abortAll (s.setRaised left)).mp, sp := (abortAll (s.setRaised left)).sp
          store := { s.store with queue := [], inService := none }, raised := left } := by
      rw [aborts.rest]
      rfl
    have link (p : Port) : (s.setRaised left).link p = s.link p := by cases p <;> rfl
    have entries : abortedEntries (s.setRaised left) = abortedEntries s := by
      unfold abortedEntries
      simp only [link]
      rfl
    refine ⟨_, abortedEntries s, executed, abortedEntries_ordered ordered apart, mem_abortedEntries, fun p => ?_, ?_, ?_⟩
    · rw [aborts.links, link, entries]
      rfl
    · rw [frame]
    · rw [frame]
  · have executed : exec .projectorReset s = .next (beginIfDue (triggerPass (endPass (s.setRaised left)))) :=
      congrArg Host.Outcome.next (handleRaised_oldest oldest)
    exact executed
  · have executed : exec .heatStoreReset s = .next (returnAll (s.setRaised left)) :=
      congrArg Host.Outcome.next (handleRaised_oldest oldest)
    exact executed
  · intro rest unloading
    have executed : exec .trainUnitReset s = .next (resetTrains (s.setRaised left)) :=
      congrArg Host.Outcome.next (handleRaised_oldest oldest)
    have train (k : Train) : (s.setRaised left).train k = s.train k := rfl
    refine ⟨_, executed, fun k working => ⟨?_, ?_⟩, fun k resting => ⟨?_, ?_⟩, resetTrains_eq _⟩
    · rw [resetTrains_train, train, TrainContext.reset, if_pos working]
    · exact (resetTrains_link _ k).trans (resetTrain_stop (s := s.setRaised left) working)
    · rw [resetTrains_train, train, TrainContext.reset, if_neg (by simp [resting])]
    · exact (resetTrains_link _ k).trans (resetTrain_rest (s := s.setRaised left) resting)

end Sys2Proof.Machine
end

/-!
The train timers, AMEND_ENVELOPE, BIND_TANK and RESTORE_TRAIN: O40, O38.
-/
section
namespace Sys2Proof.Machine

/-! ### Moves to rest with their conditions (R164) -/

theorem stickyBit_tripped (t : Train) : stickyBit (.trainTripped t) = BitVec.ofNat 26 (2 ^ (12 + trainIndex t)) := by
  cases t <;> rfl

theorem stickyBit_lost (t : Train) : stickyBit (.trainLost t) = BitVec.ofNat 26 (2 ^ (18 + trainIndex t)) := by
  cases t <;> rfl

/-- A train that trips or is lost, or leaves one of these States, sets pass-pending; the first two set their conditions. -/
theorem moveToRest_tripped (t : Train) (s : State) : moveToRest t .tripped s =
    { s with
      trains := s.trains.set t ((s.train t).rest .tripped)
      sticky := s.sticky ||| BitVec.ofNat 26 (2 ^ (12 + trainIndex t))
      projector := { s.projector with passPending := true } } := by
  rw [← stickyBit_tripped]
  rfl

theorem moveToRest_lost (t : Train) (s : State) : moveToRest t .lost s =
    { s with
      trains := s.trains.set t ((s.train t).rest .lost)
      sticky := s.sticky ||| BitVec.ofNat 26 (2 ^ (18 + trainIndex t))
      projector := { s.projector with passPending := true } } := by
  rw [← stickyBit_lost]
  rfl

theorem moveToRest_restored {t : Train} {s : State} (h : (s.train t).state = .tripped) : moveToRest t .offline s =
    { s with
      trains := s.trains.set t ((s.train t).rest .offline)
      projector := { s.projector with passPending := true } } := by
  unfold moveToRest
  dsimp only
  rw [h]
  rfl

/-- The expiry of a start limit. -/
theorem expireStart_eq (t : Train) (s : State) : expireStart t s =
    { s with
      trains := s.trains.set t ((s.train t).rest .tripped)
      sticky := s.sticky ||| BitVec.ofNat 26 (2 ^ (12 + trainIndex t))
      projector := { s.projector with passPending := true }
      trainLinks := s.trainLinks.set t ((s.trainLinks.get t).issue
        { command := .stop, setpoint := 0, topTemperature := orderTemperature s t }) } := by
  have temperature : orderTemperature (moveToRest t .tripped s) t = orderTemperature s t := by
    have bound : ((moveToRest t .tripped s).train t).boundTank = (s.train t).boundTank := by
      rw [moveToRest_tripped]
      cases t <;> rfl
    unfold orderTemperature
    rw [bound]
    rfl
  rw [expireStart, order, issueOrder, formOrder, temperature, moveToRest_tripped]
  rfl

/-! ### The timers (R166, R167) -/

theorem elapse_train (ms : Nat) (s : State) (t : Train) : (elapse ms s).train t =
    { s.train t with silence := runTimer ms (s.train t).silence, startTimer := runTimer ms (s.train t).startTimer } := by
  cases t <;> rfl

theorem elapse_orderTemperature (ms : Nat) (s : State) (t : Train) :
    orderTemperature (elapse ms s) t = orderTemperature s t := by
  unfold orderTemperature
  rw [elapse_train]
  rfl

section
variable {s : State} {t : Train}

theorem exec_startLimitExpiry_none (h : startDue s t = none) : exec (.startLimitExpiry t) s = .next s := by
  show execStartLimitExpiry t s = _
  rw [execStartLimitExpiry, h]

theorem exec_startLimitExpiry_some {ms : Nat} (h : startDue s t = some ms) :
    exec (.startLimitExpiry t) s = .next (beginIfDue (raise (.train t) (expireStart t (elapse ms s)))) := by
  show execStartLimitExpiry t s = _
  rw [execStartLimitExpiry, h]

theorem exec_silenceTimeout_none (h : silenceDue s t = none) : exec (.silenceTimeout t) s = .next s := by
  show execSilenceTimeout t s = _
  rw [execSilenceTimeout, h]

theorem exec_silenceTimeout_some {ms : Nat} (h : silenceDue s t = some ms) :
    exec (.silenceTimeout t) s = .next (beginIfDue (expireSilence t (elapse ms s))) := by
  show execSilenceTimeout t s = _
  rw [execSilenceTimeout, h]

theorem startDue_running {sel : Selection} {ms : Nat} (state : (s.train t).state = .starting)
    (selected : (s.train t).selection = some sel) (timer : (s.train t).startTimer = some ms) :
    startDue s t = some (sel.descriptor.startLimit * 1000 + 1 - ms) := by
  unfold startDue
  dsimp only
  rw [state, selected, timer]

theorem startDue_none (h : (s.train t).state ≠ .starting ∨ (s.train t).selection = none ∨ (s.train t).startTimer = none) :
    startDue s t = none := by
  unfold startDue
  dsimp only
  split
  · next sel ms state selected timer =>
    obtain other | none | none := h
    · exact absurd state other
    · exact nomatch (none.symm.trans selected : Option.none = some sel)
    · exact nomatch (none.symm.trans timer : Option.none = some ms)
  · rfl

theorem silenceDue_running {ms : Nat} (state : inUse (s.train t).state = true ∨ (s.train t).state = .ready)
    (silence : (s.train t).silence = some ms) : silenceDue s t = some (s.loader.silenceTimeout - ms) := by
  unfold silenceDue
  dsimp only
  rw [if_pos state, silence]
  rfl

theorem silenceDue_none (h : ¬ (inUse (s.train t).state = true ∨ (s.train t).state = .ready) ∨ (s.train t).silence = none) :
    silenceDue s t = none := by
  unfold silenceDue
  dsimp only
  obtain other | none := h
  · rw [if_neg other]
  · rw [none]
    exact ite_self _

end

/-- Settles O40: the expiries of the start limit and of the silence, once their time has passed. -/
theorem trainTimersExpire : Obligations.TrainTimersExpire := by
  unfold Obligations.TrainTimersExpire
  intro t s c fallen expired
  refine ⟨fun ms => rfl, fun sel ms state selected timer => ?_, fun rests => exec_startLimitExpiry_none (startDue_none rests),
    fun ms state silence => ?_, fun rests => exec_silenceTimeout_none (silenceDue_none ?_)⟩
  · intro k stop
    rw [exec_startLimitExpiry_some (startDue_running state selected timer), expireStart_eq, elapse_orderTemperature]
    rfl
  · have working : inUse (s.train t).state = true ∨ (s.train t).state = .ready := by
      rw [inUse_iff]
      tauto
    rw [exec_silenceTimeout_some (silenceDue_running working silence), expireSilence, moveToRest_lost]
    rfl
  · rw [inUse_iff]
    obtain offline | tripped | lost | none := rests
    · exact .inl (by rw [show (s.train t).state = .offline from offline]; decide)
    · exact .inl (by rw [show (s.train t).state = .tripped from tripped]; decide)
    · exact .inl (by rw [show (s.train t).state = .lost from lost]; decide)
    · exact .inr none

/-! ### Descriptors judged (R171, R173) -/

theorem descriptorKindFits_iff (d : Descriptor) : descriptorKindFits d = true ↔
    (d.coldMax.isSome = true ↔ d.kind = .expander) ∧ (d.heatRate.isSome = true ↔ d.kind = .compressor) := by
  cases kind : d.kind <;> simp [descriptorKindFits, kind]

theorem descriptorInRange_iff (d : Descriptor) : descriptorInRange d = true ↔
    1 ≤ d.maxLoad ∧ d.maxLoad ≤ (if d.kind = .compressor then 900 else 1200) ∧ d.minLoad < d.maxLoad ∧
    (∀ m, d.coldMax = some m → m ≤ d.maxLoad) ∧ 1 ≤ d.rampUp ∧ d.rampUp ≤ 200 ∧ 1 ≤ d.rampDown ∧ d.rampDown ≤ 200 ∧
    30 ≤ d.startLimit ∧ d.startLimit ≤ 1800 ∧ ∀ q, d.heatRate = some q → 1 ≤ q ∧ q ≤ 5000 := by
  cases kind : d.kind <;> cases cold : d.coldMax <;> cases heat : d.heatRate <;>
    simp [descriptorInRange, kind, cold, heat, inRange, and_assoc]

/-- One row written from a descriptor replaces the row at its Selector. -/
theorem writeRows_one {rows : List EnvelopeRow} {n : Nat} {row : EnvelopeRow} (d : Descriptor) (h : rows[n]? = some row) :
    writeRows n [d] rows = rows.set n (row.write d) := by
  induction n generalizing rows with
  | zero =>
    cases rows with
    | nil => nomatch h
    | cons first rest =>
      cases h
      cases rest <;> rfl
  | succ n ih =>
    cases rows with
    | nil => nomatch h
    | cons first rest => exact congrArg (first :: ·) (ih h)

theorem rowOctets_eq (row : EnvelopeRow) : rowOctets row = descriptorOctets row.descriptor ++ u16 row.generation := rfl

/-! ### Their commands -/

section
variable {f : Frame} {s r : State} (ha : Admitted supervisoryOnly f s r)
include ha

theorem exec_amendEnvelope_admitted {n : Nat} {d : Descriptor} (hb : f.body = u8 n ++ descriptorOctets d) (hn : n < 256)
    (hd : d.encodable) : exec (.amendEnvelope f) s = .next (afterOwner f 0x2C (amendEnvelopeOwner (n, d) r)) :=
  congrArg Host.Outcome.next (atOnce_admitted ha (hb ▸ parseBody_amendEnvelope n d hn hd))

theorem exec_bindTank_admitted {t : Train} {tank : Tank} (hb : f.body = u8 (trainIndex t) ++ u8 (tankIndex tank)) :
    exec (.bindTank f) s = .next (afterOwner f 0x2D (bindOwner (t, tank) r)) :=
  congrArg Host.Outcome.next (atOnce_admitted ha (hb ▸ parseBody_bind t tank))

theorem exec_restoreTrain_admitted {t : Train} (hb : f.body = u8 (trainIndex t)) :
    exec (.restoreTrain f) s = .next (afterOwner f 0x2E (restoreOwner t r)) :=
  congrArg Host.Outcome.next (atOnce_admitted ha (hb ▸ parseBody_train t))

end

section
variable {n : Nat} {d : Descriptor} {r : State}

theorem amendEnvelopeOwner_beyond (h : r.tables.envelopes.length ≤ n) :
    amendEnvelopeOwner (n, d) r = (.bare .outOfRange, r) := by
  rw [amendEnvelopeOwner, List.getElem?_eq_none h]

variable {row : EnvelopeRow} (listed : r.tables.envelopes[n]? = some row)
include listed

theorem amendEnvelopeOwner_wrongKind (h : ¬ descriptorKindFits d = true) :
    amendEnvelopeOwner (n, d) r = (.bare .wrongKind, r) := by
  rw [amendEnvelopeOwner, listed]
  exact if_pos (Bool.eq_false_iff.2 h)

variable (kind : descriptorKindFits d = true)
include kind

theorem amendEnvelopeOwner_outside (h : ¬ descriptorInRange d = true) :
    amendEnvelopeOwner (n, d) r = (.bare .outOfRange, r) := by
  rw [amendEnvelopeOwner, listed]
  exact (if_neg (by simp [kind])).trans (if_pos (Bool.eq_false_iff.2 h))

variable (within : descriptorInRange d = true)
include within

theorem amendEnvelopeOwner_within : amendEnvelopeOwner (n, d) r =
    if row.descriptor = d then (.withBody .doneUnchanged (rowOctets row), r)
    else
      (.withBody .done (rowOctets (row.write d)),
       beginIfDue (triggerPass (r.setTables
         { r.tables with envelopes := r.tables.envelopes.set n (row.write d) }))) := by
  rw [amendEnvelopeOwner, listed, ← writeRows_one d listed]
  exact (if_neg (by simp [kind])).trans (if_neg (by simp [within]))

end

/-- Settles O38: AMEND_ENVELOPE, BIND_TANK and RESTORE_TRAIN, refused or taken. -/
theorem envelopesAreAmendedTrainsBoundAndRestored : Obligations.EnvelopesAreAmendedTrainsBoundAndRestored := by
  unfold Obligations.EnvelopesAreAmendedTrainsBoundAndRestored
  refine ⟨fun f n d s r ha hb hn hd => ?_, fun f t tank s r ha hb => ?_, fun f t s r ha hb => ?_⟩
  · intro refused kindFits fits
    have executed := exec_amendEnvelope_admitted ha hb hn hd
    have turned {status : Status} (h : amendEnvelopeOwner (n, d) r = (.bare status, r)) : refused status := by
      show exec (.amendEnvelope f) s = _
      rw [executed, h, afterOwner_bare]
    have isKind : descriptorKindFits d = true ↔ kindFits := descriptorKindFits_iff d
    have isRange : descriptorInRange d = true ↔ fits := descriptorInRange_iff d
    refine ⟨fun beyond => turned (amendEnvelopeOwner_beyond beyond), fun row listed => ?_⟩
    intro generation
    refine ⟨fun other => turned (amendEnvelopeOwner_wrongKind listed (isKind.not.2 other)),
      fun kind outside => turned (amendEnvelopeOwner_outside listed (isKind.2 kind) (isRange.not.2 outside)),
      fun kind within same => ?_, fun kind within differs => ?_⟩
    · rw [executed, amendEnvelopeOwner_within listed (isKind.2 kind) (isRange.2 within), if_pos same, afterOwner_withBody,
        rowOctets_eq, same]
    · have written : row.write d = { descriptor := d, generation := generation } := if_neg differs
      rw [executed, amendEnvelopeOwner_within listed (isKind.2 kind) (isRange.2 within), if_neg differs,
        afterOwner_withBody, written]
      rfl
  · intro c bound working
    have executed := exec_bindTank_admitted ha hb
    have works : inUse (r.train t).state = true ↔ working := inUse_iff _
    refine ⟨fun busy => ?_, fun rests same => ?_, fun rests differs => ?_⟩
    · rw [executed, bindOwner, if_pos (works.2 busy), afterOwner_bare]
    · rw [executed, bindOwner, if_neg (works.not.2 rests), if_pos same, afterOwner_withBody]
    · rw [executed, bindOwner, if_neg (works.not.2 rests), if_neg differs]
      rfl
  · intro c pending restored
    have executed := exec_restoreTrain_admitted ha hb
    refine ⟨fun other => ?_, fun tripped => ?_⟩
    · rw [executed, restoreOwner, if_neg other, afterOwner_bare]
    · have moved : moveToRest t .offline r = restored := moveToRest_restored tripped
      rw [executed, restoreOwner, if_pos tripped, moved]
      rfl

end Sys2Proof.Machine
end

/-!
SELECT_ENVELOPE and RELOAD_ENVELOPES, the copy of a row and the loss of a selection: O37.
-/
section
namespace Sys2Proof.Machine

/-! ### The copy of a row (R166, R172, R193) -/

/-- A STARTING train past the start limit of a row. -/
def StartLate (c : TrainContext) (row : EnvelopeRow) : Prop :=
  c.state = .starting ∧ ∃ ms, c.startTimer = some ms ∧ row.descriptor.startLimit * 1000 < ms

theorem startExpired_iff {s : State} {t : Train} {n : Nat} {row : EnvelopeRow}
    (h : (s.train t).selection = some (selectionOf n row)) :
    startExpired s t = true ↔ StartLate (s.train t) row := by
  unfold startExpired StartLate
  dsimp only
  rw [h]
  split
  next _ _ _ sel ms state picked timer =>
    cases picked
    rw [decide_eq_true_iff]
    refine ⟨fun late => ⟨state, ms, timer, late⟩, fun ⟨_, ms', timer', late⟩ => ?_⟩
    cases timer.symm.trans timer'
    exact late
  next other =>
    exact iff_of_false Bool.false_ne_true fun ⟨state, ms, timer, _⟩ => other (selectionOf n row) ms state rfl timer

/-- What a lowering leaves of the State and the Start Timer of a train that starts. -/
theorem lowerSetpoint_start (t : Train) (v : Nat) (s : State) :
    ((lowerSetpoint t v s).train t).selection = (s.train t).selection ∧
    (((lowerSetpoint t v s).train t).state = (s.train t).state ∧
        ((lowerSetpoint t v s).train t).startTimer = (s.train t).startTimer ∨
      (s.train t).state = .running ∧ ((lowerSetpoint t v s).train t).state = .unloading) := by
  obtain ⟨unloads, stays⟩ := lowerSetpoint_train t v s
  by_cases below : UnloadsBelowMin (s.train t) ((lowerSetpoint t v s).train t).setpoint
  · rw [unloads below]
    exact ⟨rfl, .inr ⟨below.1, rfl⟩⟩
  · rw [stays below]
    exact ⟨rfl, .inl ⟨rfl, rfl⟩⟩

theorem heldAtLimit_start (t : Train) (s : State) :
    ((heldAtLimit t s).train t).selection = (s.train t).selection ∧
    (((heldAtLimit t s).train t).state = (s.train t).state ∧
        ((heldAtLimit t s).train t).startTimer = (s.train t).startTimer ∨
      (s.train t).state = .running ∧ ((heldAtLimit t s).train t).state = .unloading) := by
  unfold heldAtLimit
  split
  · exact lowerSetpoint_start ..
  · exact ⟨rfl, .inl ⟨rfl, rfl⟩⟩

theorem copyRow_late (t : Train) (n : Nat) (row : EnvelopeRow) (s : State) :
    startExpired (heldAtLimit t (copyRow t n row s)) t = true ↔ StartLate (s.train t) row := by
  obtain ⟨selection, kept | unloads⟩ := heldAtLimit_start t (copyRow t n row s)
  · rw [startExpired_iff (n := n) (row := row) (by rw [selection, copyRow_train]), StartLate, kept.1, kept.2, copyRow_train]
    rfl
  · rw [startExpired_iff (n := n) (row := row) (by rw [selection, copyRow_train])]
    have running : (s.train t).state = .running := by
      rw [copyRow_train] at unloads
      exact unloads.1
    exact iff_of_false (fun late => by simp [late.1] at unloads) fun late => by simp [late.1] at running

theorem takeRow_late {t : Train} {n : Nat} {row : EnvelopeRow} {s : State} (h : StartLate (s.train t) row) :
    takeRow t n row s = expireStart t (heldAtLimit t (copyRow t n row s)) := by
  rw [takeRow_eq, judgeStart, if_pos ((copyRow_late ..).2 h)]

theorem takeRow_inTime {t : Train} {n : Nat} {row : EnvelopeRow} {s : State} (h : ¬ StartLate (s.train t) row) :
    takeRow t n row s = heldAtLimit t (copyRow t n row s) := by
  rw [takeRow_eq, judgeStart, if_neg ((copyRow_late ..).not.2 h)]

/-! ### What a copy and a loss leave unchanged -/

/-- An operation of the Train Unit on trains: their contexts and links, the sticky conditions and pass-pending. -/
def TrainsMoved (s s' : State) : Prop :=
  s' = { s with
    trains := s'.trains, trainLinks := s'.trainLinks, sticky := s'.sticky
    projector := { s.projector with passPending := s'.projector.passPending } }

theorem TrainsMoved.refl (s : State) : TrainsMoved s s := rfl

theorem TrainsMoved.trans {s s' s'' : State} (h : TrainsMoved s s') (k : TrainsMoved s' s'') : TrainsMoved s s'' := by
  unfold TrainsMoved at h k ⊢
  refine k.trans ?_
  rw [h]

theorem TrainsMoved.raised {s s' : State} (h : TrainsMoved s s') : s'.raised = s.raised := by
  unfold TrainsMoved at h
  exact (congrArg State.raised h :)

theorem TrainsMoved.projector {s s' : State} (h : TrainsMoved s s') :
    { s'.projector with passPending := true } = { s.projector with passPending := true } := by
  unfold TrainsMoved at h
  exact (congrArg (fun k : State => { k.projector with passPending := true }) h :)

theorem trainsMoved_lowerSetpoint (t : Train) (v : Nat) (s : State) : TrainsMoved s (lowerSetpoint t v s) := by
  have frame := lowerSetpoint_frame t v s
  unfold TrainsMoved
  generalize lowerSetpoint t v s = k at frame ⊢
  cases k
  cases s
  simp_all

theorem trainsMoved_heldAtLimit (t : Train) (s : State) : TrainsMoved s (heldAtLimit t s) := by
  unfold heldAtLimit
  split
  · exact trainsMoved_lowerSetpoint ..
  · exact .refl s

theorem heldAtLimit_sticky (t : Train) (s : State) : (heldAtLimit t s).sticky = s.sticky := by
  unfold heldAtLimit
  split <;> simp

theorem trainsMoved_expireStart (t : Train) (s : State) : TrainsMoved s (expireStart t s) := by
  rw [expireStart_eq]
  rfl

theorem trainsMoved_takeRow (t : Train) (n : Nat) (row : EnvelopeRow) (s : State) : TrainsMoved s (takeRow t n row s) := by
  have held : TrainsMoved s (heldAtLimit t (copyRow t n row s)) :=
    TrainsMoved.trans (s' := copyRow t n row s) rfl (trainsMoved_heldAtLimit ..)
  by_cases late : StartLate (s.train t) row
  · rw [takeRow_late late]
    exact held.trans (trainsMoved_expireStart ..)
  · rw [takeRow_inTime late]
    exact held

/-- A copy trips exactly the STARTING train whose new start limit has passed. -/
theorem takeRow_sticky (t : Train) (n : Nat) (row : EnvelopeRow) (s : State) (i : Nat) :
    (takeRow t n row s).sticky.getLsbD i = true ↔ s.sticky.getLsbD i = true ∨
      (i = 12 + trainIndex t ∧ (s.train t).state = .starting ∧ ((takeRow t n row s).train t).state = .tripped) := by
  by_cases late : StartLate (s.train t) row
  · rw [takeRow_late late, expireStart_eq, ← stickyBit_tripped]
    have tripped : ((({ heldAtLimit t (copyRow t n row s) with
        trains := (heldAtLimit t (copyRow t n row s)).trains.set t
          (((heldAtLimit t (copyRow t n row s)).train t).rest .tripped) } : State)).train t).state = .tripped := by
      cases t <;> rfl
    have held : (heldAtLimit t (copyRow t n row s)).sticky = s.sticky := heldAtLimit_sticky ..
    show ((heldAtLimit t (copyRow t n row s)).sticky ||| stickyBit (.trainTripped t)).getLsbD i = true ↔ _
    rw [held, BitVec.getLsbD_or, Bool.or_eq_true, getLsbD_stickyBit]
    refine or_congr_right ⟨fun at_ => ⟨at_, late.1, tripped⟩, fun both => both.1⟩
  · rw [takeRow_inTime late, heldAtLimit_sticky]
    refine ⟨.inl, fun either => either.elim id fun both => ?_⟩
    obtain ⟨_, starting, tripped⟩ := both
    obtain ⟨_, kept | unloads⟩ := heldAtLimit_start t (copyRow t n row s)
    · rw [kept.1, copyRow_train, starting] at tripped
      nomatch tripped
    · rw [unloads.2] at tripped
      nomatch tripped

/-! ### The loss of a selection (R175) -/

/-- A train that loses its selection at work: UNLOADING at 0, its whole credits returned. -/
def TrainContext.dropped (c : TrainContext) (kind : TrainKind) : TrainContext :=
  { c with
    state := .unloading, selection := none, setpoint := 0, startTimer := none, released := false, creditLimit := false
    reservation := if kind = .compressor then c.reservation % 100 else c.reservation }

theorem deselect_rest {t : Train} {s : State} (h : inUse (s.train t).state = false) :
    deselect t s = s.setTrain t { s.train t with selection := none, released := false } := by
  unfold deselect
  dsimp only
  rw [if_neg (by simp [h])]

theorem partialReturn_all (t : Train) (s : State) : partialReturn t 0 s =
    s.setTrain t { s.train t with reservation := (s.train t).reservation % 100 } := by
  have left : (s.train t).reservation - creditFloor ((s.train t).reservation - 0) = (s.train t).reservation % 100 := by
    unfold creditFloor
    omega
  rw [partialReturn, left]

theorem deselect_work {t : Train} {s : State} (h : inUse (s.train t).state = true) : deselect t s =
    ({ s with trainLinks := s.trainLinks.set t ((s.trainLinks.get t).issue
        { command := .stop, setpoint := 0, topTemperature := orderTemperature s t }) } : State).setTrain t
      ((s.train t).dropped (trainKind t)) := by
  have stops (c : TrainContext) (bound : c.boundTank = (s.train t).boundTank) : order t .stop (s.setTrain t c) =
      ({ s with trainLinks := s.trainLinks.set t ((s.trainLinks.get t).issue
        { command := .stop, setpoint := 0, topTemperature := orderTemperature s t }) } : State).setTrain t c := by
    have temperature : orderTemperature (s.setTrain t c) t = orderTemperature s t := by
      unfold orderTemperature
      rw [State.train_setTrain, bound]
      rfl
    rw [order, issueOrder, formOrder, temperature]
    rfl
  unfold deselect
  dsimp only
  rw [if_pos h]
  cases kind : trainKind t with
  | expander => exact stops _ rfl
  | compressor =>
    dsimp only
    rw [partialReturn_all, State.train_setTrain]
    have twice (a b : TrainContext) : (s.setTrain t a).setTrain t b = s.setTrain t b := by
      rw [State.setTrain, State.setTrain, State.setTrain]
      exact congrArg s.setTrains (PerTrain.set_set ..)
    rw [twice]
    exact stops _ rfl

theorem trainsMoved_deselect (t : Train) (s : State) : TrainsMoved s (deselect t s) := by
  cases h : inUse (s.train t).state with
  | false =>
    rw [deselect_rest h]
    rfl
  | true =>
    rw [deselect_work h]
    rfl

/-! ### Each on its own train -/

theorem SameTrain.moveToRest {t : Train} {s s' : State} (h : SameTrain t s s') (into : TrainState) :
    SameTrain t (Machine.moveToRest t into s) (Machine.moveToRest t into s') := by
  have k := h.setTrain ((s.train t).rest into)
  unfold Machine.moveToRest triggerPassIf setEntryCondition
  dsimp only
  rw [h.train]
  split <;> split <;> exact ⟨k.train, k.link, k.tanks, k.tables, k.loader, k.cavern, k.clock, k.mode⟩

theorem SameTrain.judgeStart {t : Train} {s s' : State} (h : SameTrain t s s') :
    SameTrain t (Machine.judgeStart t s) (Machine.judgeStart t s') := by
  have expired : startExpired s' t = startExpired s t := by
    unfold startExpired
    rw [h.train]
  unfold Machine.judgeStart
  rw [expired]
  split
  · exact (h.moveToRest .tripped).order .stop
  · exact h

theorem SameTrain.takeRow {t : Train} {s s' : State} (h : SameTrain t s s') (n : Nat) (row : EnvelopeRow) :
    SameTrain t (Machine.takeRow t n row s) (Machine.takeRow t n row s') := by
  have copied : SameTrain t (copyRow t n row s) (copyRow t n row s') := by
    unfold copyRow onTrain
    rw [h.train]
    exact h.setTrain _
  rw [takeRow_eq, takeRow_eq]
  refine SameTrain.judgeStart ?_
  unfold heldAtLimit
  rw [copied.trainLimit, copied.train]
  split
  · exact copied.lowerSetpoint _
  · exact copied

theorem SameTrain.deselect {t : Train} {s s' : State} (h : SameTrain t s s') :
    SameTrain t (Machine.deselect t s) (Machine.deselect t s') := by
  cases work : inUse (s.train t).state with
  | false =>
    rw [deselect_rest work, deselect_rest (by rw [h.train]; exact work), h.train]
    exact h.setTrain _
  | true =>
    rw [deselect_work work, deselect_work (by rw [h.train]; exact work), h.train, h.orderTemperature]
    exact SameTrain.setTrain (h.issueOrder _) _

/-! ### RELOAD_ENVELOPES on one train (R174) -/

theorem reloadTrain_kept {s : State} {t : Train} (h : outcomeCode (reloadOutcome s t) ≤ 1) : reloadTrain s t = s := by
  unfold reloadTrain
  split
  next outcome _ => exact absurd h (by rw [outcome]; decide)
  next outcome => exact absurd h (by rw [outcome]; decide)
  next => rfl

theorem reloadTrain_taken {s : State} {t : Train} {sel : Selection} {row : EnvelopeRow}
    (h : outcomeCode (reloadOutcome s t) = 2) (selected : (s.train t).selection = some sel)
    (listed : s.tables.envelopes[sel.selector]? = some row) : reloadTrain s t = takeRow t sel.selector row s := by
  have outcome : reloadOutcome s t = .reloaded := by
    cases k : reloadOutcome s t <;> rw [k] at h <;> nomatch h
  unfold reloadTrain
  rw [outcome, selected]
  dsimp only
  rw [listed]

theorem reloadTrain_lost {s : State} {t : Train} (h : outcomeCode (reloadOutcome s t) = 3) :
    reloadTrain s t = deselect t s := by
  have outcome : reloadOutcome s t = .deselected := by
    cases k : reloadOutcome s t <;> rw [k] at h <;> nomatch h
  unfold reloadTrain
  rw [outcome]

theorem reloadTrain_cases (s : State) (t : Train) :
    reloadTrain s t = s ∨ (∃ n row, reloadTrain s t = takeRow t n row s) ∨ reloadTrain s t = deselect t s := by
  unfold reloadTrain
  split
  · split
    · exact .inl rfl
    · exact .inr (.inl ⟨_, _, rfl⟩)
  · exact .inr (.inr rfl)
  · exact .inl rfl

theorem reloadTrain_other (s : State) {t u : Train} (h : u ≠ t) : SameTrain u s (reloadTrain s t) := by
  obtain same | ⟨n, row, taken⟩ | lost := reloadTrain_cases s t
  · rw [same]
    exact .refl u s
  · rw [taken]
    exact .takeRow_other h s n row
  · rw [lost]
    exact .deselect_other h s

theorem reloadTrain_same {s s' : State} {t : Train} (h : SameTrain t s s') :
    SameTrain t (reloadTrain s t) (reloadTrain s' t) := by
  have outcome : reloadOutcome s' t = reloadOutcome s t := by
    unfold reloadOutcome
    rw [h.train, h.tables]
  unfold reloadTrain
  rw [outcome, h.train, h.tables]
  split
  · split
    · exact h
    · exact h.takeRow _ _
  · exact h.deselect
  · exact h

theorem trainsMoved_reloadTrain (s : State) (t : Train) : TrainsMoved s (reloadTrain s t) := by
  obtain same | ⟨n, row, taken⟩ | lost := reloadTrain_cases s t
  · rw [same]
    exact .refl s
  · rw [taken]
    exact trainsMoved_takeRow ..
  · rw [lost]
    exact trainsMoved_deselect ..

theorem trainsMoved_reloadTrains (l : List Train) (s : State) : TrainsMoved s (l.foldl reloadTrain s) := by
  induction l generalizing s with
  | nil => exact .refl s
  | cons t l ih => exact (trainsMoved_reloadTrain s t).trans (ih _)

theorem deselect_untripped (t : Train) (s : State) (starting : (s.train t).state = .starting) :
    ((deselect t s).train t).state ≠ .tripped := by
  rw [deselect_work (by rw [starting]; rfl), State.train_setTrain]
  exact nofun

theorem reloadTrain_sticky (t : Train) (s : State) (i : Nat) :
    (reloadTrain s t).sticky.getLsbD i = true ↔ s.sticky.getLsbD i = true ∨
      (i = 12 + trainIndex t ∧ (s.train t).state = .starting ∧ ((reloadTrain s t).train t).state = .tripped) := by
  obtain same | ⟨n, row, taken⟩ | lost := reloadTrain_cases s t
  · rw [same]
    exact ⟨.inl, fun either => either.elim id fun ⟨_, starting, tripped⟩ => nomatch (starting.symm.trans tripped : TrainState.starting = .tripped)⟩
  · rw [taken]
    exact takeRow_sticky ..
  · rw [lost, (deselect_frame t s).2.2.2.1]
    exact ⟨.inl, fun either => either.elim id fun ⟨_, starting, tripped⟩ => absurd tripped (deselect_untripped t s starting)⟩

theorem reloadTrains_sticky (i : Nat) (r : State) (l : List Train) (nodup : l.Nodup) (s : State)
    (h : ∀ t ∈ l, SameTrain t r s) :
    (l.foldl reloadTrain s).sticky.getLsbD i = true ↔ s.sticky.getLsbD i = true ∨
      ∃ t ∈ l, i = 12 + trainIndex t ∧ (r.train t).state = .starting ∧ ((reloadTrain r t).train t).state = .tripped := by
  induction l generalizing s with
  | nil => simp
  | cons t l ih =>
    obtain ⟨fresh, distinct⟩ := List.nodup_cons.1 nodup
    have here := h t List.mem_cons_self
    have later : ∀ u ∈ l, SameTrain u r (reloadTrain s t) := fun u mem =>
      (h u (List.mem_cons_of_mem _ mem)).trans (reloadTrain_other s fun same => fresh (same ▸ mem))
    rw [List.foldl_cons, ih distinct _ later, reloadTrain_sticky, here.train, (reloadTrain_same here).train, List.exists_mem_cons_iff,
      or_assoc]

/-! ### The two commands -/

theorem holdsRow_iff (c : TrainContext) (n : Nat) (row : EnvelopeRow) : holdsRow c n row = true ↔
    ∃ sel, c.selection = some sel ∧ sel.selector = n ∧ sel.generation = row.generation := by
  unfold holdsRow
  cases c.selection <;> simp

theorem reloadChanges_eq (s : State) (t : Train) : reloadChanges s t = decide (2 ≤ outcomeCode (reloadOutcome s t)) := by
  unfold reloadChanges
  cases reloadOutcome s t <;> rfl

section
variable {f : Frame} {s r : State} (ha : Admitted supervisoryOnly f s r)
include ha

theorem exec_selectEnvelope_admitted {t : Train} {n : Nat} (hb : f.body = u8 (trainIndex t) ++ u8 n) (hn : n < 256) :
    exec (.selectEnvelope f) s = .next (afterOwner f 0x2A (selectOwner (t, n) r)) :=
  congrArg Host.Outcome.next (atOnce_admitted ha (hb ▸ parseBody_select t n hn))

theorem exec_reloadEnvelopes_admitted (hb : f.body = []) :
    exec (.reloadEnvelopes f) s = .next (afterOwner f 0x2B (reloadOwner r)) :=
  congrArg Host.Outcome.next (atOnce_admitted ha (hb ▸ parseBody_empty))

end

theorem reloadOwner_none {s : State} (h : ∀ t, outcomeCode (reloadOutcome s t) ≤ 1) : reloadOwner s =
    (.withBody .doneUnchanged (counted (fun t => u8 (outcomeCode (reloadOutcome s t))) allTrains), s) := by
  refine if_pos (List.filter_eq_nil_iff.2 fun t _ => ?_)
  rw [reloadChanges_eq, decide_eq_true_iff]
  have := h t
  omega

theorem reloadOwner_some {s : State} {t : Train} (h : 2 ≤ outcomeCode (reloadOutcome s t)) : reloadOwner s =
    (.withBody .done (counted (fun t => u8 (outcomeCode (reloadOutcome s t))) allTrains),
     beginIfDue (triggerPass (noticeTrains (allTrains.filter fun t => decide (2 ≤ outcomeCode (reloadOutcome s t)))
       (allTrains.foldl reloadTrain s)))) := by
  have changes : reloadChanges s = fun t => decide (2 ≤ outcomeCode (reloadOutcome s t)) := funext (reloadChanges_eq s)
  rw [← changes]
  refine if_neg fun none => ?_
  exact List.filter_eq_nil_iff.1 none t (mem_allTrains t) (by rw [reloadChanges_eq, decide_eq_true_iff]; exact h)

/-- Settles O37: SELECT_ENVELOPE by its checks, RELOAD_ENVELOPES by its outcomes, the copy of a row and the loss of a selection. -/
theorem envelopesAreSelectedAndReloaded : Obligations.EnvelopesAreSelectedAndReloaded := by
  unfold Obligations.EnvelopesAreSelectedAndReloaded
  refine ⟨fun f t n s r ha hb hn => ?_, fun f s r ha hb => ?_, fun t n row s => ?_,
    fun t s => ⟨deselect_rest, deselect_work⟩⟩
  · intro refused
    have executed := exec_selectEnvelope_admitted ha hb hn
    have turned {status : Status} (h : selectOwner (t, n) r = (.bare status, r)) : refused status := by
      show exec (.selectEnvelope f) s = _
      rw [executed, h, afterOwner_bare]
    refine ⟨fun beyond => turned (by rw [selectOwner, List.getElem?_eq_none beyond]), fun row listed => ?_⟩
    intro holds k
    have held : holdsRow (r.train t) n row = true ↔ holds := holdsRow_iff ..
    have owner : selectOwner (t, n) r =
        if row.descriptor.valid = false then (.bare .wrongState, r)
        else if row.descriptor.kind ≠ trainKind t then (.bare .wrongKind, r)
        else if holdsRow (r.train t) n row then (.withBody .doneUnchanged (trainBody t r), r)
        else (.withBody .done (trainBody t k), beginIfDue (triggerPass (raise (.train t) k))) := by
      rw [selectOwner, listed]
    refine ⟨fun invalid => turned (by rw [owner, if_pos invalid]), fun valid other => turned ?_, fun valid kind same => ?_,
      fun valid kind differs => ?_⟩
    · rw [owner, if_neg (by simp [valid]), if_pos other]
    · rw [executed, owner, if_neg (by simp [valid]), if_neg (not_not_intro kind), if_pos (held.2 same), afterOwner_withBody]
    · have raised : k.raised = r.raised := (trainsMoved_takeRow t n row r).raised
      rw [executed, owner, if_neg (by simp [valid]), if_neg (not_not_intro kind), if_neg (held.not.2 differs),
        afterOwner_withBody, raise, raised]
      rfl
  · intro outcome octets
    have coded : outcome = fun t => outcomeCode (reloadOutcome r t) := by
      funext t
      show outcome t = _
      simp only [outcome, reloadOutcome, rowFits, Bool.and_eq_true, decide_eq_true_iff]
      cases (r.train t).selection with
      | none => rfl
      | some sel =>
        dsimp only
        cases r.tables.envelopes[sel.selector]? with
        | none => rfl
        | some row =>
          dsimp only
          split
          · rfl
          · split <;> rfl
    clear_value outcome
    subst coded
    have executed := exec_reloadEnvelopes_admitted ha hb
    refine ⟨fun same => ?_, fun ⟨t, changed⟩ => ?_⟩
    · rw [executed, reloadOwner_none same, afterOwner_withBody]
      rfl
    · have moved := trainsMoved_reloadTrains allTrains r
      have each (t : Train) := allTrains_sameTrain (fun s _ _ => reloadTrain_other s) reloadTrain_same t r
      refine ⟨allTrains.foldl reloadTrain r, ?_, fun t stays => ?_, fun t sel row taken selected listed => ?_, fun t lost => ?_,
        fun i => ?_, ?_⟩
      · have raised : (allTrains.foldl reloadTrain r).raised = r.raised := moved.raised
        have projector : { (allTrains.foldl reloadTrain r).projector with passPending := true } =
            { r.projector with passPending := true } := moved.projector
        rw [executed, reloadOwner_some changed, afterOwner_withBody, ← projector, ← raised]
        rfl
      · have same := each t
        rw [reloadTrain_kept stays] at same
        exact ⟨same.train, same.link⟩
      · have same := each t
        rw [reloadTrain_taken taken selected listed] at same
        exact ⟨same.train, same.link⟩
      · have same := each t
        rw [reloadTrain_lost lost] at same
        exact ⟨same.train, same.link⟩
      · rw [reloadTrains_sticky i r allTrains (by decide) r fun t _ => .refl t r]
        refine or_congr_right (exists_congr fun t => ?_)
        rw [(each t).train]
        exact and_iff_right (mem_allTrains t)
      · generalize allTrains.foldl reloadTrain r = k at moved ⊢
        unfold TrainsMoved at moved
        exact moved.trans (by rw [moved])
  · intro c taken lowered late
    have held : heldAtLimit t (copyRow t n row s) = lowered := by
      have setpoint : (taken.train t).setpoint = c.setpoint := by
        show ((s.setTrain t _).train t).setpoint = _
        rw [State.train_setTrain]
      show (if trainLimit taken t < (taken.train t).setpoint then lowerSetpoint t (trainLimit taken t) taken else taken) = _
      rw [setpoint]
    rw [← held]
    exact ⟨takeRow_inTime, takeRow_late⟩

end Sys2Proof.Machine
end

/-!
The lookups and the bodies that several answers share: O10, O32 and O33.
-/
section
namespace Sys2Proof.Machine

/-! ### Quantities (R31) -/

theorem u16_mod (n : Nat) : u16 (n % 65536) = u16 n := by
  have high : BitVec.ofNat 8 (n % 65536 / 256) = BitVec.ofNat 8 (n / 256) := BitVec.eq_of_toNat_eq (by
    simp only [BitVec.toNat_ofNat]
    omega)
  have low : BitVec.ofNat 8 (n % 65536) = BitVec.ofNat 8 n := BitVec.eq_of_toNat_eq (by
    simp only [BitVec.toNat_ofNat]
    omega)
  rw [u16, u8, u8, high, low]
  rfl

theorem u32_mod (n : Nat) : u32 (n % 4294967296) = u32 n := by
  have high : n % 4294967296 / 65536 = n / 65536 % 65536 := by omega
  have low : n % 4294967296 % 65536 = n % 65536 := by omega
  rw [u32, high, u16_mod, ← u16_mod (n % 4294967296), low, u16_mod]
  rfl

theorem u64_mod (n : Nat) : u64 (n % 18446744073709551616) = u64 n := by
  have high : n % 18446744073709551616 / 4294967296 = n / 4294967296 % 4294967296 := by omega
  have low : n % 18446744073709551616 % 4294967296 = n % 4294967296 := by omega
  rw [u64, high, u32_mod, ← u32_mod (n % 18446744073709551616), low, u32_mod]
  rfl

theorem s16_nonneg {x : Int} (h : 0 ≤ x) : s16 x = u16 x.toNat := by
  have same : (x % 65536).toNat = x.toNat % 65536 := by omega
  rw [s16, same, u16_mod]

theorem s32_nonneg {x : Int} (h : 0 ≤ x) : s32 x = u32 x.toNat := by
  have same : (x % 4294967296).toNat = x.toNat % 4294967296 := by omega
  rw [s32, same, u32_mod]

theorem s64_nonneg {x : Int} (h : 0 ≤ x) : s64 x = u64 x.toNat := by
  have same : (x % 18446744073709551616).toNat = x.toNat % 18446744073709551616 := by omega
  rw [s64, same, u64_mod]

theorem u16_octets (n : Nat) : u16 n = [BitVec.ofNat 8 (n / 256 ^ 1), BitVec.ofNat 8 (n / 256 ^ 0)] := by
  simp [u16, u8]

theorem u32_octets (n : Nat) : u32 n = [BitVec.ofNat 8 (n / 256 ^ 3), BitVec.ofNat 8 (n / 256 ^ 2),
    BitVec.ofNat 8 (n / 256 ^ 1), BitVec.ofNat 8 (n / 256 ^ 0)] := by
  simp [u32, u16, u8, Nat.div_div_eq_div_mul]

theorem u64_octets (n : Nat) : u64 n = [BitVec.ofNat 8 (n / 256 ^ 7), BitVec.ofNat 8 (n / 256 ^ 6),
    BitVec.ofNat 8 (n / 256 ^ 5), BitVec.ofNat 8 (n / 256 ^ 4), BitVec.ofNat 8 (n / 256 ^ 3), BitVec.ofNat 8 (n / 256 ^ 2),
    BitVec.ofNat 8 (n / 256 ^ 1), BitVec.ofNat 8 (n / 256 ^ 0)] := by
  simp [u64, u32, u16, u8, Nat.div_div_eq_div_mul]

/-! ### The Failure Set (R78) -/

/-- The position of a member of a Failure Set. -/
def memberPosition (m : Failure × PointTag) : Nat := 3 * failureCode m.1 + tagCode m.2

theorem failure_listed (f : Failure) :
    [Failure.capacity, .pressureLow, .pressureHigh, .rate, .heatShort, .heatFull][failureCode f]? = some f := by
  cases f <;> rfl

theorem tag_listed (tag : PointTag) : [PointTag.scheduled, .upPoint, .downPoint][tagCode tag]? = some tag := by
  cases tag <;> rfl

theorem failureCode_lt (f : Failure) : failureCode f < 6 := (List.getElem?_eq_some_iff.1 (failure_listed f)).1

theorem tagCode_lt (tag : PointTag) : tagCode tag < 3 := (List.getElem?_eq_some_iff.1 (tag_listed tag)).1

theorem memberPosition_lt (m : Failure × PointTag) : memberPosition m < 18 := by
  have := failureCode_lt m.1
  have := tagCode_lt m.2
  unfold memberPosition
  omega

theorem memberPosition_injective {m m' : Failure × PointTag} (h : memberPosition m = memberPosition m') : m = m' := by
  obtain ⟨f, tag⟩ := m
  obtain ⟨f', tag'⟩ := m'
  have small := tagCode_lt tag
  have small' := tagCode_lt tag'
  have same : failureCode f = failureCode f' ∧ tagCode tag = tagCode tag' := by
    simp only [memberPosition] at h
    omega
  have failures : f = f' := Option.some.inj ((failure_listed f).symm.trans (same.1 ▸ failure_listed f'))
  have tags : tag = tag' := Option.some.inj ((tag_listed tag).symm.trans (same.2 ▸ tag_listed tag'))
  rw [failures, tags]

/-- The members of a Failure Set as bits. -/
def failureBits (members : List (Failure × PointTag)) (acc : Nat) : Nat :=
  members.foldl (fun acc m => acc ||| 2 ^ memberPosition m) acc

theorem failureSet_eq (members : List (Failure × PointTag)) :
    failureSet members = u8 (failureBits members 0 / 65536) ++ u16 (failureBits members 0) := rfl

theorem failureBits_testBit (members : List (Failure × PointTag)) (acc i : Nat) :
    (failureBits members acc).testBit i = true ↔ acc.testBit i = true ∨ ∃ m ∈ members, memberPosition m = i := by
  induction members generalizing acc with
  | nil => simp [failureBits]
  | cons m members ih =>
    have step := ih (acc ||| 2 ^ memberPosition m)
    rw [Nat.testBit_or, Bool.or_eq_true, Nat.testBit_two_pow, decide_eq_true_iff] at step
    rw [List.exists_mem_cons_iff, ← or_assoc]
    exact step

theorem failureBits_lt (members : List (Failure × PointTag)) : failureBits members 0 < 262144 := by
  refine Nat.lt_pow_two_of_testBit (n := 18) _ fun i above => Bool.eq_false_iff.2 fun marked => ?_
  obtain zero | ⟨m, _, at_⟩ := (failureBits_testBit ..).1 marked
  · simp at zero
  · have := memberPosition_lt m
    omega

theorem failureCode_of_listed {k : Nat} {f : Failure}
    (h : [Failure.capacity, .pressureLow, .pressureHigh, .rate, .heatShort, .heatFull][k]? = some f) : failureCode f = k := by
  match k, h with
  | 0, rfl | 1, rfl | 2, rfl | 3, rfl | 4, rfl | 5, rfl => rfl

theorem tagCode_of_listed {j : Nat} {tag : PointTag} (h : [PointTag.scheduled, .upPoint, .downPoint][j]? = some tag) :
    tagCode tag = j := by
  match j, h with
  | 0, rfl | 1, rfl | 2, rfl => rfl

theorem failureBits_member {members : List (Failure × PointTag)} {k j : Nat} {f : Failure} {tag : PointTag}
    (hf : failureCode f = k) (ht : tagCode tag = j) :
    (failureBits members 0).testBit (3 * k + j) = true ↔ (f, tag) ∈ members := by
  subst hf ht
  rw [failureBits_testBit, Nat.zero_testBit]
  refine ⟨fun either => ?_, fun mem => .inr ⟨(f, tag), mem, rfl⟩⟩
  obtain zero | ⟨m, mem, at_⟩ := either
  · nomatch zero
  · exact memberPosition_injective (m' := (f, tag)) at_ ▸ mem

/-! ### The shared bodies -/

theorem commitmentBody_pending {c : Commitment} (h : c.phase = .pending) : commitmentBody c =
    u16 c.handle ++ u32 c.reference ++ u8 (kindCode c.kind) ++ u8 (standingCode c.standing) ++ [0] ++
      u32 c.start ++ u8 c.length ++ optional u8 none ++ s16 c.power ++ optional u16 none ++
      flag c.atRisk.isSome ++ optional u32 c.atRisk ++ u8 (portCode c.source) := by
  unfold commitmentBody
  rw [h]
  rfl

theorem commitmentBody_active {c : Commitment} {remaining : Nat} (h : c.phase = .active remaining) : commitmentBody c =
    u16 c.handle ++ u32 c.reference ++ u8 (kindCode c.kind) ++ u8 (standingCode c.standing) ++ [1] ++
      u32 c.start ++ u8 c.length ++ optional u8 (some remaining) ++ s16 c.power ++
      optional u16 (if c.standing = .firm ∧ c.kind ≠ .energy then some c.deployed else none) ++
      flag c.atRisk.isSome ++ optional u32 c.atRisk ++ u8 (portCode c.source) := by
  unfold commitmentBody
  rw [h]
  cases c.standing <;> cases c.kind <;> rfl

theorem tankBody_eq (tank : Tank) (s : State) : tankBody tank s =
    u8 (tankIndex tank) ++ flag (s.tank tank).surveyed ++ u32 (s.tank tank).capacity ++
      u32 ((s.tank tank).layers.map Layer.energy).sum ++ u32 (reservedEnergy s.trains tank) ++
      u32 ((s.tank tank).capacity - ((s.tank tank).layers.map Layer.energy).sum - reservedEnergy s.trains tank) ++
      u32 (((s.tank tank).layers.filter fun l => s.loader.heat.tUse ≤ l.temperature).map Layer.energy).sum ++
      optional u16 ((s.tank tank).layers.head?.map Layer.temperature) ++ u8 (standingPosition (topStanding s tank)) ++
      u32 (s.tank tank).spillTotal ++ optional underdrawBody (s.tank tank).lastUnderdraw ++
      counted layerBody (s.tank tank).layers := by
  rw [tankBody, freeEnergy, storedEnergy_eq_sum, usableHeat_eq_sum]
  rfl

/-- Settles O32: the shared bodies, field by field. -/
theorem sharedBodiesAreSpelled : Obligations.SharedBodiesAreSpelled := by
  unfold Obligations.SharedBodiesAreSpelled
  refine ⟨fun n x f items => ?_, fun c => ?_, fun o d generation l u r => ⟨rfl, rfl, rfl, rfl, rfl, rfl⟩, fun s t tank => ?_, ?_,
    fun members => ?_⟩
  · intro octet
    refine ⟨?_, u16_octets n, u32_octets n, fun nonneg => ⟨s16_nonneg nonneg, s32_nonneg nonneg, s64_nonneg nonneg⟩,
      fun low neg => ?_, fun low neg => ?_, fun low neg => ?_, u64_octets n, rfl, rfl, rfl, rfl, ?_⟩
    · simp [u8, octet]
    · rw [s16]
      congr 1
      omega
    · rw [s32]
      congr 1
      omega
    · rw [s64]
      congr 1
      omega
    · rw [counted, List.flatMap_def]
  · intro body
    refine ⟨commitmentBody_pending, fun remaining active => ⟨fun firm kind => ?_, fun either => ?_⟩⟩
    · rw [commitmentBody_active active, if_pos ⟨firm, kind⟩]
    · rw [commitmentBody_active active, if_neg ?_]
      rintro ⟨firm, kind⟩
      exact either.elim (fun tentative => nomatch (firm.symm.trans tentative : Standing.firm = .tentative)) kind
  · intro c v
    refine ⟨rfl, tankBody_eq tank s, fun empty => ?_, fun top below layers => ?_⟩
    · rw [topStanding, show (s.tank tank).layers = [] from empty]
      rfl
    · rw [topStanding, show (s.tank tank).layers = top :: below from layers, standingOf]
      split <;> rfl
  · exact ⟨rfl, rfl, rfl, rfl, rfl, rfl, rfl, rfl, rfl, rfl, rfl, rfl, rfl, rfl, rfl, rfl, rfl, rfl, rfl, rfl,
      fun failures => rfl, rfl, rfl, rfl⟩
  · exact ⟨failureBits members 0, failureBits_lt members, failureSet_eq members, fun k j f tag hf ht =>
      failureBits_member (failureCode_of_listed hf) (tagCode_of_listed ht)⟩

/-! ### The lookups without a key -/

/-- The first row of a kind with its position. -/
theorem find?_zip_range (p : Row → Bool) (rows : List Row) (k : Nat) :
    ((List.range' k rows.length).zip rows).find? (fun q => p q.2) =
      (rows.filter p).head?.map fun row => (k + rows.findIdx p, row) := by
  induction rows generalizing k with
  | nil => rfl
  | cons row rows ih =>
    rw [List.length_cons, List.range'_succ, List.zip_cons_cons, List.find?_cons, List.filter_cons, List.findIdx_cons]
    cases p row with
    | true => rfl
    | false =>
      refine (ih (k + 1)).trans (congrArg (Option.map · _) (funext fun found => ?_))
      exact congrArg (·, found) (by simp; omega)

theorem firstFailing_eq (rows : List Row) :
    firstFailing rows = (rows.filter Row.failing).head?.map fun row => (rows.findIdx Row.failing, row) := by
  have found := find?_zip_range Row.failing rows 0
  rw [← List.range_eq_range'] at found
  rw [firstFailing, found]
  simp only [Nat.zero_add]

theorem optional_map {α β : Type} (field : β → List Octet) (g : α → β) (a : Option α) :
    optional field (a.map g) = optional (fun x => field (g x)) a := by
  cases a <;> rfl

/-- Settles O10: the four lookups without a key. -/
theorem lookupsWithoutAKeyAnswerTheirFields : Obligations.LookupsWithoutAKeyAnswerTheirFields := by
  unfold Obligations.LookupsWithoutAKeyAnswerTheirFields
  intro f s r ha hb
  have parsed : parseBody parseEmpty f.body = .ok () := hb ▸ parseBody_empty
  refine ⟨congrArg Host.Outcome.next (atOnce_admitted ha parsed), congrArg Host.Outcome.next (lookup_admitted ha parsed),
    congrArg Host.Outcome.next (lookup_admitted ha parsed), fun first rest horizon => ?_⟩
  intro failing
  refine (congrArg Host.Outcome.next (lookup_admitted ha parsed)).trans ?_
  have start : (r.projector.horizon.head?.map Row.interval).getD r.interval = first.interval := by
    rw [horizon]
    rfl
  rw [horizonAnswer, firstFailing_eq, optional_map, start]
  rfl

/-! ### The keyed lookups -/

theorem rowSaturated_iff (row : Row) : rowSaturated row = true ↔
    max (-32768) (min 32767 row.net) ≠ row.net ∨ min row.up 65535 ≠ row.up ∨ min row.down 65535 ≠ row.down := by
  simp only [rowSaturated, Bool.or_eq_true, decide_eq_true_iff, holdInt_eq (show (-32768 : Int) ≤ 32767 by decide), or_assoc]
  omega

theorem rowFor_listed {rows before after : List Row} {row : Row} (h : rows = before ++ row :: after)
    (fresh : ∀ k ∈ before, k.interval ≠ row.interval) : rowFor row.interval rows = row := by
  rw [rowFor, find?_first h (decide_eq_true rfl) fun k hk => by simpa using fresh k hk]
  rfl

/-- Settles O33: the lookups by interval, train, Selector and Tank. -/
theorem rowsTrainsTanksAndEnvelopesAreLookedUp : Obligations.RowsTrainsTanksAndEnvelopesAreLookedUp := by
  unfold Obligations.RowsTrainsTanksAndEnvelopesAreLookedUp
  intro f s r ha
  refine ⟨fun n hn hb => ?_, fun t hb => ?_, fun n hn hb => ?_, fun tank hb => ?_⟩
  · have executed : exec (.lookupRow f) s = .next (respond (viaPort f.via) f.tag 0x18 (rowAnswer n r) r) :=
      congrArg Host.Outcome.next (lookup_admitted ha (hb ▸ parseBody_u32 n hn))
    refine ⟨fun outside => ?_, fun before row after from_ upto horizon at_ fresh => ?_⟩
    · rw [executed, rowAnswer, if_pos outside]
      rfl
    · intro net up down
      have within : ¬ (n < r.interval ∨ r.interval + 191 < n) := by omega
      subst at_
      have saturated : rowSaturated row = decide (net ≠ row.net ∨ up ≠ row.up ∨ down ≠ row.down) := by
        rw [Bool.eq_iff_iff, decide_eq_true_iff]
        exact rowSaturated_iff row
      have held : holdInt (-32768) 32767 row.net = net := holdInt_eq (by decide) _
      rw [executed, rowAnswer, if_neg within, rowFor_listed horizon fresh]
      dsimp only
      rw [saturated, rowBody, held]
      rfl
  · exact congrArg Host.Outcome.next (lookup_admitted ha (hb ▸ parseBody_train t))
  · have executed : exec (.lookupEnvelope f) s = .next (respond (viaPort f.via) f.tag 0x29 (envelopeAnswer n r) r) :=
      congrArg Host.Outcome.next (lookup_admitted ha (hb ▸ parseBody_u8 n hn))
    refine ⟨fun beyond => ?_, fun row listed => ?_⟩
    · rw [executed, envelopeAnswer, List.getElem?_eq_none beyond]
      rfl
    · rw [executed, envelopeAnswer, listed]
      rfl
  · intro v stored usable reserved
    refine (congrArg Host.Outcome.next (lookup_admitted ha (hb ▸ parseBody_tank tank))).trans ?_
    rw [tankBody_eq]
    rfl

end Sys2Proof.Machine
end

/-!
Power-on, the turning away of requests, and what transactions, line events and Link Resets do to their link: O3, O5, O7.
-/
section
namespace Sys2Proof.Machine

/-! ### Power-on -/

theorem reset_link (p : Port) : (State.reset.link p).intake = none ∧ (State.reset.link p).responses = [] ∧
    (State.reset.link p).outstanding = 0 ∧ (State.reset.link p).dropped = false ∧ (State.reset.link p).cursor = none := by
  cases p <;> exact ⟨rfl, rfl, rfl, rfl, rfl⟩

theorem reset_masks : (∀ i < 26, State.reset.sp.alertMask.getLsbD i = true) ∧
    (∀ i < 26, State.reset.mp.alertMask.getLsbD i = true ↔ i = 0 ∨ i = 1 ∨ i = 2 ∨ i = 4) ∧
    (∀ i < 26, State.reset.sticky.getLsbD i = true ↔ i = 5) := by
  decide

theorem reset_tank (tank : Tank) : State.reset.tank tank =
    { capacity := 1200000, layers := [], surveyed := false, spillTotal := 0, lastUnderdraw := none } := by
  cases tank <;> rfl

theorem reset_train (t : Train) : ∃ tank, State.reset.train t = .powerOn tank := by
  cases t <;> exact ⟨_, rfl⟩

theorem reset_trainLink (t : Train) : State.reset.trainLinks.get t = { intake := none, sending := none, waiting := none } := by
  cases t <;> rfl

theorem reset_envelope {row : EnvelopeRow} (h : row ∈ State.reset.tables.envelopes) : row.generation = 0 ∧ row.descriptor =
    { kind := .compressor, valid := false, minLoad := 0, maxLoad := 1, coldMax := none, rampUp := 1, rampDown := 1,
      startLimit := 30, heatRate := some 1, reserveCapable := false } := by
  have default : row = EnvelopeRow.default := List.eq_of_mem_replicate h
  rw [default]
  exact ⟨rfl, rfl⟩

/-- Settles O3: the state after power-on, block by block. -/
theorem powerOnGivesEveryBlockItsValues : Obligations.PowerOnGivesEveryBlockItsValues := by
  unfold Obligations.PowerOnGivesEveryBlockItsValues
  obtain ⟨supervisory, market, sticky⟩ := reset_masks
  have trains (t : Train) : (State.reset.train t).state = .offline ∧ (State.reset.train t).selection = none ∧
      (State.reset.train t).lastReport = none ∧ (State.reset.train t).setpoint = 0 ∧ (State.reset.train t).share = 0 ∧
      (State.reset.train t).reservation = 0 ∧ (State.reset.train t).runStart = none ∧ (State.reset.train t).silence = none ∧
      (State.reset.train t).startTimer = none ∧ (State.reset.train t).released = false ∧
      (State.reset.train t).creditLimit = false := by
    obtain ⟨tank, fresh⟩ := reset_train t
    rw [fresh]
    exact ⟨rfl, rfl, rfl, rfl, rfl, rfl, rfl, rfl, rfl, rfl, rfl⟩
  exact ⟨fun u => rfl, rfl, rfl, rfl, rfl, rfl, rfl, reset_link, rfl, supervisory, market,
    rfl, rfl, rfl, rfl, rfl, rfl, rfl, rfl, rfl, rfl, rfl, rfl, rfl, rfl, rfl, rfl, rfl, rfl, rfl, rfl, rfl, rfl, sticky,
    reset_tank, trains, ⟨rfl, rfl, rfl, rfl, rfl, rfl⟩, ⟨rfl, fun row => reset_envelope⟩,
    rfl, rfl, rfl, rfl, rfl, rfl, rfl, rfl, rfl, rfl, rfl, rfl, rfl, rfl, rfl, rfl, rfl, rfl, rfl, rfl, rfl, rfl, rfl, rfl,
    reset_trainLink⟩

/-! ### Requests turned away (R16, R17) -/

theorem lookup_eq {α : Type} (code : Octet) (fields : Parser α) (answer : α → State → Reply) (f : Frame) (s : State) :
    lookup code fields answer f s =
      takeRequest code bothPorts fields (fun p tag request r => respond p tag code (answer request r) r) f s := rfl

/-- The command of a request is its admission, under the code, the ports and the faults of the catalogue. -/
theorem exec_request {c : Instr} {q : Request} (h : requestOf c = some q) (s : State) :
    ∃ (α : Type) (fields : Parser α) (owner : Port → Octet → α → State → State),
      exec c s = .next (takeRequest q.code q.ports fields owner q.frame s) ∧ q.fault = bodyFault fields q.frame := by
  cases c <;> cases h
  case lookupCommitment | lookupRow | lookupHorizon | lookupOutage | lookupTrain | lookupEnvelope | lookupCavern | lookupTank |
      lookupConditions =>
    exact ⟨_, _, _, congrArg Host.Outcome.next (lookup_eq ..), rfl⟩
  all_goals exact ⟨_, _, _, rfl, rfl⟩

theorem hasRoom_iff (p : Port) (s : State) :
    hasRoom p s = true ↔ (s.link p).responses.length + (s.link p).outstanding < 32 := decide_eq_true_iff

/-- Settles O5: no room, a broken body, the wrong port and the load, in this order. -/
theorem requestsAreTurnedAwayInOrder : Obligations.RequestsAreTurnedAwayInOrder := by
  unfold Obligations.RequestsAreTurnedAwayInOrder
  intro c q s r carried isReceived p
  subst isReceived
  obtain ⟨α, fields, owner, executed, faults⟩ := exec_request carried s
  rw [executed, faults]
  refine ⟨fun full => ?_, fun room => ?_⟩
  · have noRoom : hasRoom p (received q.frame s) = false := Bool.eq_false_iff.2 ((hasRoom_iff ..).not.2 (Nat.not_lt.2 full))
    exact congrArg Host.Outcome.next (takeRequest_noRoom noRoom)
  · have hasRoom := (hasRoom_iff ..).2 room
    exact ⟨fun fault broken => congrArg Host.Outcome.next (takeRequest_broken hasRoom broken),
      fun sound port => congrArg Host.Outcome.next (takeRequest_notPermitted hasRoom sound port),
      fun sound port loading => congrArg Host.Outcome.next (takeRequest_loading hasRoom sound port loading)⟩

/-! ### Transactions, line events and Link Resets (R14, R15, R19, R27, R28) -/

theorem State.shifts_iff (s : State) (r : Response) :
    s.shifts r = true ↔ ∀ tr, s.transaction = some tr → tr.response = some r := by
  unfold State.shifts
  cases s.transaction with
  | none => simp
  | some tr => simp

theorem endTransaction_eq (clocked : Nat) (s : State) : endTransaction clocked s =
    { s with sp := { s.sp with intake := none, responses := responsesLeft clocked s }, transaction := none } := rfl

theorem TrainLink.issue_idle {l : TrainLink} (h : l.sending = none) (o : Order) : l.issue o = { l with sending := some o } := by
  rw [TrainLink.issue, h]

theorem TrainLink.issue_busy {l : TrainLink} {present : Order} (h : l.sending = some present) (o : Order) :
    l.issue o = { l with sending := some present, waiting := some o } := by
  rw [TrainLink.issue, h]

/-- The Dropped Answer mark after a Link Reset follows the Entry in Service. -/
theorem resetLink_dropped (p : Port) (s : State) :
    ((resetLink p s).link p).dropped = decide (∃ e ∈ s.store.inService, e.source = p) := by
  unfold resetLink
  dsimp only
  rw [State.link_setLink]
  cases s.store.inService <;> simp

/-- Settles O7: transactions without a request, discarded frames, the orders of a train link, and Link Resets. -/
theorem transactionsLineEventsAndLinkResetsActOnTheirLink : Obligations.TransactionsLineEventsAndLinkResetsActOnTheirLink := by
  unfold Obligations.TransactionsLineEventsAndLinkResetsActOnTheirLink
  refine ⟨fun octets extra f s => ?_, fun octets length s => ⟨rfl, rfl, rfl⟩, fun t octets framing s => ⟨?_, rfl, rfl, rfl⟩,
    fun t u o s => ⟨fun idle => ?_, fun present busy => ?_, fun other => PerTrain.get_set_other _ _ _ _ other, rfl⟩, fun s => ?_⟩
  · intro after
    have ended (clocked : Nat) : after clocked (responsesLeft clocked s) (endTransaction clocked s) := by
      refine ⟨responsesLeft_empty, fun head rest waiting => ?_, endTransaction_eq clocked s⟩
      intro shifted
      have shifts : s.shifts head = true ↔ shifted := s.shifts_iff head
      exact ⟨fun out whole => responsesLeft_sent waiting (shifts.2 out) whole, fun stays =>
        responsesLeft_kept waiting (stays.imp (fun kept => Bool.eq_false_iff.2 (shifts.not.2 kept)) id)⟩
    refine ⟨⟨_, rfl, ended octets.length⟩, ⟨_, rfl, ended (octets.length + extra)⟩, fun via => ?_⟩
    have receives : received f s = endTransaction (f.body.length + 5 + extra) s := by
      rw [received, via]
      rfl
    rw [receives]
    exact ended _
  · rw [← List.drop_one]
    rfl
  · exact (PerTrain.get_set ..).trans (TrainLink.issue_idle idle o)
  · exact (PerTrain.get_set ..).trans (TrainLink.issue_busy busy o)
  · intro served store
    have isServed (p : Port) : ((resetLink p s).link p).dropped = served p := resetLink_dropped p s
    clear_value served
    exact ⟨isServed .sp ▸ rfl, isServed .mp ▸ rfl⟩

end Sys2Proof.Machine
end

/-!
The octets of request frames, Train Reports, responses and Setpoint Orders: O9.
-/
section
namespace Sys2Proof.Machine

/-! ### Request frames -/

theorem checkOctet_of_sum {octets : List Octet} {check : Octet} (h : octetSum (octets ++ [check]) = 0) :
    checkOctet octets = check := by
  rw [octetSum_append] at h
  have single : octetSum [check] = check := BitVec.zero_add check
  rw [single] at h
  rw [checkOctet]
  bv_omega

theorem frameOctets_tail (code : Octet) (f : Frame) : ∃ check, frameOctets code f =
    0xA5 :: BitVec.ofNat 8 (f.body.length + 3) :: f.tag :: code :: (f.body ++ [check]) ∧
    octetSum ((frameOctets code f).drop 1) = 0 :=
  ⟨_, rfl, octetSum_checkOctet _⟩

theorem frameCommand_frameOctets (code : Octet) (f : Frame) : frameCommand f.via (frameOctets code f) = requestFor code f := by
  obtain ⟨check, octets, sum⟩ := frameOctets_tail code f
  rw [frameCommand, if_pos sum, octets]
  simp [takeApart]

theorem catalogueCodes_eq : catalogueCodes = requestTable.map Prod.fst := rfl

/-- The catalogue lists each request under its own code. -/
def Listed (entry : Octet × (Frame → Instr)) : Prop :=
  ∀ f, ∃ q, requestOf (entry.2 f) = some q ∧ q.code = entry.1 ∧ q.frame = f

theorem listed_amend : Listed (0x02, amendRequest) := by
  intro f
  dsimp only
  unfold amendRequest
  split <;> exact ⟨_, rfl, rfl, rfl⟩

theorem requestTable_listed : ∀ entry ∈ requestTable, Listed entry := by
  refine List.forall_iff_forall_mem.1 ?_
  refine ⟨?_, listed_amend, ?_⟩
  case refine_1 => exact fun f => ⟨_, rfl, rfl, rfl⟩
  iterate 33 refine ⟨fun f => ⟨_, rfl, rfl, rfl⟩, ?_⟩
  exact fun f => ⟨_, rfl, rfl, rfl⟩

theorem requestFor_unlisted {code : Octet} (f : Frame) (h : code ∉ catalogueCodes) :
    requestFor code f = .unknownCode code f := by
  have absent : requestTable.lookup code = none := by
    rw [List.lookup_eq_none_iff]
    intro entry mem
    rw [bne_iff_ne]
    rintro rfl
    exact h (catalogueCodes_eq ▸ List.mem_map_of_mem mem)
  rw [requestFor, absent]

theorem lookup_mem {α β : Type} [DecidableEq α] {a : α} {b : β} {l : List (α × β)} (h : l.lookup a = some b) : (a, b) ∈ l := by
  obtain ⟨before, after, rfl, -⟩ := List.lookup_eq_some_iff.1 h
  simp

theorem requestFor_listed {code : Octet} (f : Frame) (h : code ∈ catalogueCodes) :
    ∃ q, requestOf (requestFor code f) = some q ∧ q.code = code ∧ q.frame = f := by
  cases found : requestTable.lookup code with
  | none =>
    rw [catalogueCodes_eq] at h
    obtain ⟨entry, mem, rfl⟩ := List.mem_map.1 h
    exact absurd (List.lookup_eq_none_iff.1 found entry mem) (by simp)
  | some request =>
    rw [requestFor, found]
    exact requestTable_listed _ (lookup_mem found) f

theorem requestFor_requestOf {c : Instr} {q : Request} (h : requestOf c = some q) (wf : c.wellFormed = true) :
    requestFor q.code q.frame = c := by
  cases c <;> cases h
  case amend f =>
    have clear : previewOctet f.body ≠ some 1 := by
      simp only [Instr.wellFormed, Bool.and_eq_true, bne_iff_ne] at wf
      exact wf.2
    exact if_neg clear
  case amendPreview f =>
    have marked : previewOctet f.body = some 1 := by
      simp only [Instr.wellFormed, Bool.and_eq_true, beq_iff_eq] at wf
      exact wf.2
    exact if_pos marked
  all_goals rfl

theorem frameOctets_injective {code other : Octet} {f g : Frame} (via : f.via = g.via)
    (h : frameOctets code f = frameOctets other g) : code = other ∧ f = g := by
  obtain ⟨check, octets, -⟩ := frameOctets_tail code f
  obtain ⟨check', octets', -⟩ := frameOctets_tail other g
  rw [octets, octets'] at h
  simp only [List.cons.injEq, List.append_singleton_inj] at h
  obtain ⟨-, -, tag, codes, body, -⟩ := h
  refine ⟨codes, ?_⟩
  cases f
  cases g
  simp_all

/-- A complete frame whose octets sum to zero is the frame of a code, a tag and a body. -/
theorem completeFrame_frameOctets {octets : List Octet} (via : Via) (complete : completeFrame octets = true)
    (sum : octetSum (octets.drop 1) = 0) :
    ∃ code f, f.via = via ∧ f.wellFormed = true ∧ frameOctets code f = octets := by
  match octets, complete, sum with
  | start :: len :: tag :: code :: more, complete, sum =>
    simp only [completeFrame, Bool.and_eq_true, beq_iff_eq, decide_eq_true_iff, List.length_cons] at complete
    obtain ⟨⟨isStart, long⟩, whole⟩ := complete
    have nonempty : more ≠ [] := fun none => by
      rw [none, List.length_nil] at whole
      omega
    obtain ⟨body, check, rfl⟩ : ∃ body check, more = body ++ [check] := ⟨_, _, (List.dropLast_append_getLast nonempty).symm⟩
    rw [List.length_append, List.length_singleton] at whole
    have length : BitVec.ofNat 8 (body.length + 3) = len := by
      apply BitVec.eq_of_toNat_eq
      rw [BitVec.toNat_ofNat]
      have := len.isLt
      omega
    have checks : checkOctet (len :: tag :: code :: body) = check := checkOctet_of_sum sum
    refine ⟨code, { via := via, tag := tag, body := body }, rfl, decide_eq_true ?_, ?_⟩
    · have := len.isLt
      dsimp only
      omega
    · rw [frameOctets]
      dsimp only
      rw [length, checks, isStart]
      rfl
  | [], complete, _ => nomatch complete
  | [_], complete, _ => nomatch complete
  | [start, len], complete, _ =>
    simp only [completeFrame, Bool.and_eq_true, beq_iff_eq, decide_eq_true_iff, List.length_nil] at complete
    omega
  | [start, len, tag], complete, _ =>
    simp only [completeFrame, Bool.and_eq_true, beq_iff_eq, decide_eq_true_iff, List.length_singleton] at complete
    omega

/-! ### Train Reports -/

theorem reportFields_reportOctets (r : ReportFrame) : reportFields (reportOctets r) = some r := by
  obtain ⟨p1, p0, power, power'⟩ := wordOf_octetsOf r.power
  obtain ⟨m1, m0, mass, mass'⟩ := wordOf_octetsOf r.massFlow
  obtain ⟨h1, h0, heat, heat'⟩ := wordOf_octetsOf r.heat
  obtain ⟨t1, t0, temperature, temperature'⟩ := wordOf_octetsOf r.temperature
  obtain ⟨e1, e0, elapsed, elapsed'⟩ := wordOf_octetsOf r.elapsed
  rw [reportOctets, power, mass, heat, temperature, elapsed]
  simp [reportFields, power', mass', heat', temperature', elapsed']

theorem reportCommand_reportOctets (line : Train) (r : ReportFrame) :
    reportCommand line (reportOctets r) false = .trainReport line r := by
  rw [reportCommand, if_pos ⟨rfl, octetSum_checkOctet _⟩, reportFields_reportOctets]

/-- Thirteen octets whose sum is zero are those of a Train Report. -/
theorem reportOctets_of_sum {octets : List Octet} (length : octets.length = 13) (sum : octetSum octets = 0) :
    ∃ r, reportOctets r = octets := by
  match octets, length, sum with
  | [number, status, p1, p0, m1, m0, h1, h0, t1, t0, e1, e0, check], _, sum =>
    refine ⟨{ number := number, status := status, power := wordOf p1 p0, massFlow := wordOf m1 m0, heat := wordOf h1 h0,
              temperature := wordOf t1 t0, elapsed := wordOf e1 e0 }, ?_⟩
    rw [reportOctets]
    simp only [octetsOf_wordOf]
    have checks := checkOctet_of_sum (octets := [number, status, p1, p0, m1, m0, h1, h0, t1, t0, e1, e0]) (check := check) sum
    exact congrArg (fun last => [number, status, p1, p0, m1, m0, h1, h0, t1, t0, e1, e0] ++ [last]) checks

/-! ### Responses and orders -/

theorem conditionsOctet_u8 (r : Reply) :
    u8 (conditionsOctet r) = [(if r.zero then 1 else 0) + (if r.saturated then 2 else 0)] := by
  rw [conditionsOctet]
  cases r.zero <;> cases r.saturated <;> rfl

/-- Settles O9: frames, reports, responses and orders by their octets. -/
theorem framesAndReportsAreSpelledByTheirOctets : Obligations.FramesAndReportsAreSpelledByTheirOctets := by
  unfold Obligations.FramesAndReportsAreSpelledByTheirOctets
  refine ⟨fun c q carried wf => (frameCommand_frameOctets ..).trans (requestFor_requestOf carried wf),
    fun code f => ⟨frameCommand_frameOctets code f, requestFor_unlisted f, requestFor_listed f⟩,
    fun via octets complete => ⟨fun sum => if_neg sum, fun sum => ?_⟩, reportCommand_reportOctets,
    fun line octets framing length => ⟨fun broken => if_neg ?_, fun clean sum => ?_⟩, fun r => ?_, fun o t => ?_⟩
  · obtain ⟨code, f, rfl, wf, rfl⟩ := completeFrame_frameOctets via complete sum
    exact ⟨code, f, rfl, wf, rfl, frameCommand_frameOctets code f, fun other g same octets =>
      frameOctets_injective same octets⟩
  · rintro ⟨clean, sum⟩
    exact broken.elim (fun framed => nomatch (clean.symm.trans framed : false = true)) fun differs => differs sum
  · obtain ⟨r, rfl⟩ := reportOctets_of_sum length sum
    exact ⟨r, rfl, clean ▸ reportCommand_reportOctets line r⟩
  · refine ⟨checkOctet (u8 (r.reply.body.length + 5) ++ [r.tag, r.code] ++ u8 (statusCode r.reply.status) ++
      [(if r.reply.zero then 1 else 0) + (if r.reply.saturated then 2 else 0)] ++ r.reply.body), ?_⟩
    intro conditions checked
    refine ⟨?_, octetSum_checkOctet _, Response.frame_length r⟩
    rw [Response.frame, conditionsOctet_u8]
    rfl
  · rcases o with ⟨order, setpoint, top⟩
    obtain ⟨check, isCheck⟩ : ∃ check, check =
        checkOctet (u8 (trainIndex t) ++ u8 (commandCode order) ++ u16 setpoint ++ u16 top) := ⟨_, rfl⟩
    refine ⟨check, ?_⟩
    intro number command checked
    have numbered : u8 (trainIndex t) = [number] := by cases t <;> rfl
    have commanded : u8 (commandCode order) = [command] := by cases order <;> rfl
    have spelled : checked = u8 (trainIndex t) ++ u8 (commandCode order) ++ u16 setpoint ++ u16 top ++ [check] := by
      rw [numbered, commanded]
      rfl
    rw [spelled, isCheck]
    exact ⟨rfl, octetSum_checkOctet _, rfl⟩

end Sys2Proof.Machine
end

/-!
The intakes: how characters and octets become frames, reports and transactions (O8).
-/
section
namespace Sys2Proof.Machine

/-! ### Partial frames -/

/-- The line events, oldest first, taken one after the other. -/
def takeArrivals (those : List Arrival) (s : State) : State := those.foldl (fun k a => takeArrival a k) s

theorem step_arrival {a : Arrival} {rest : List Arrival} {s : State} (pending : s.pending = [])
    (arrivals : s.arrivals = a :: rest) : step s = .next (takeArrival a { s with arrivals := rest }) := by
  unfold step
  rw [pending, arrivals]
  exact congrArg (fun waiting => Host.Outcome.next (takeArrival a { s with arrivals := rest, pending := waiting })) pending

theorem takeArrivals_append (front back : List Arrival) (s : State) :
    takeArrivals (front ++ back) s = takeArrivals back (takeArrivals front s) := List.foldl_append

/-- The partial frame that characters leave. -/
def gathered (those : List Character) : PartialFrame :=
  { octets := those.map Character.octet, tainted := those.any Character.framingError }

theorem gathered_take (those : List Character) (c : Character) : (gathered those).take c = gathered (those ++ [c]) := by
  simp [gathered, PartialFrame.take]

/-- While no character ends the frame, the intake holds all that have come. -/
theorem takeArrivals_growing {hold : PartialFrame → State} {arrive : Character → Arrival} (those rest : List Character)
    (grows : ∀ front c, front ++ [c] <+: rest →
      takeArrival (arrive c) (hold (gathered (those ++ front))) = hold (gathered (those ++ front ++ [c]))) :
    takeArrivals (rest.map arrive) (hold (gathered those)) = hold (gathered (those ++ rest)) := by
  induction rest using List.reverseRecOn with
  | nil => rw [List.append_nil]; rfl
  | append_singleton front c ih =>
    rw [List.map_append, takeArrivals_append, ih fun before d prefix_ => grows before d (prefix_.trans (List.prefix_append ..)),
      ← List.append_assoc]
    exact grows front c List.prefix_rfl

/-! ### The Market Port (R14) -/

/-- The Market Port with an intake, and the queue with further commands. -/
def marketLeft (s : State) (held : Option PartialFrame) (commands : List Instr) : State :=
  { s with mp := { s.mp with intake := held }, pending := s.pending ++ commands }

theorem marketLeft_none {s : State} (h : s.mp.intake = none) : marketLeft s none [] = s := by
  rw [marketLeft, ← h, List.append_nil]

theorem takeArrival_market (s : State) (c : Character) (held : Option PartialFrame) :
    takeArrival (.marketCharacter c) (marketLeft s held []) =
      marketLeft s (marketIntake c held).1 (marketIntake c held).2.toList := by
  have delivered (command : Option Instr) (left : Option PartialFrame) :
      deliver command (setMarketIntake left (marketLeft s held [])) = marketLeft s left command.toList := by
    cases command with
    | none => rfl
    | some c =>
      unfold marketLeft deliver setMarketIntake
      rw [List.append_nil]
      rfl
  exact delivered ..

theorem takeArrival_market_more (s : State) (those : List Character) (c : Character) :
    takeArrival (.marketCharacter c) (marketLeft s (some (gathered those)) []) =
      marketLeft s (marketFrame (gathered (those ++ [c]))).1 (marketFrame (gathered (those ++ [c]))).2.toList := by
  rw [takeArrival_market, marketIntake, gathered_take]

section
variable {start len : Character} {rest : List Character}

theorem marketFrame_single : marketFrame (gathered [start]) = (some (gathered [start]), none) := rfl

theorem marketFrame_short (h : len.octet.toNat < 3) :
    marketFrame (gathered [start, len]) = (none, some (.shortLengthFrame len.octet)) := if_pos h

theorem marketFrame_partial (h : 3 ≤ len.octet.toNat) (short : rest.length < len.octet.toNat) :
    marketFrame (gathered (start :: len :: rest)) = (some (gathered (start :: len :: rest)), none) :=
  (if_neg (Nat.not_lt.2 h)).trans (if_pos (by rw [List.length_map]; exact short))

theorem marketFrame_whole (h : 3 ≤ len.octet.toNat) (whole : rest.length = len.octet.toNat) :
    marketFrame (gathered (start :: len :: rest)) = (none, some
      (if (start :: len :: rest).any Character.framingError then
        .taintedFrame ((start :: len :: rest).map Character.octet)
      else frameCommand .mp ((start :: len :: rest).map Character.octet))) :=
  (if_neg (Nat.not_lt.2 h)).trans (if_neg (by rw [List.length_map]; omega))

variable (s : State)

/-- The octets short of the length stay in the intake. -/
theorem market_growing (front : List Character) (h : 3 ≤ len.octet.toNat)
    (short : (front ++ rest).length < len.octet.toNat) :
    takeArrivals (rest.map .marketCharacter) (marketLeft s (some (gathered (start :: len :: front))) []) =
      marketLeft s (some (gathered (start :: len :: (front ++ rest)))) [] := by
  refine takeArrivals_growing (hold := fun p => marketLeft s (some p) []) (start :: len :: front) rest fun before c part => ?_
  have shorter : (front ++ (before ++ [c])).length < len.octet.toNat := by
    have := part.length_le
    rw [List.length_append] at short ⊢
    omega
  rw [← List.append_assoc] at shorter
  refine (takeArrival_market_more ..).trans ?_
  rw [List.cons_append, List.cons_append, List.cons_append, List.cons_append, marketFrame_partial h shorter]
  rfl

theorem market_started (hs : s.mp.intake = none) (h : start.octet = 0xA5) :
    takeArrival (.marketCharacter start) s = marketLeft s (some (gathered [start])) [] := by
  have taken := takeArrival_market s start none
  rw [marketLeft_none hs, marketIntake, if_pos h] at taken
  rw [taken]
  simp [PartialFrame.started, gathered]

theorem market_length (hs : s.mp.intake = none) (h : start.octet = 0xA5) :
    takeArrivals [.marketCharacter start, .marketCharacter len] s =
      marketLeft s (marketFrame (gathered [start, len])).1 (marketFrame (gathered [start, len])).2.toList := by
  show takeArrival (.marketCharacter len) (takeArrival (.marketCharacter start) s) = _
  rw [market_started s hs h, takeArrival_market_more]
  rfl

theorem market_partial (hs : s.mp.intake = none) (h : start.octet = 0xA5) (long : 3 ≤ len.octet.toNat)
    (short : rest.length < len.octet.toNat) :
    takeArrivals ((start :: len :: rest).map .marketCharacter) s =
      marketLeft s (some (gathered (start :: len :: rest))) [] := by
  show takeArrivals (rest.map .marketCharacter) (takeArrivals [.marketCharacter start, .marketCharacter len] s) = _
  rw [market_length s hs h, marketFrame_partial long (by rw [List.length_nil]; omega)]
  exact market_growing s [] long short

theorem market_whole (hs : s.mp.intake = none) (h : start.octet = 0xA5) (long : 3 ≤ len.octet.toNat)
    (whole : rest.length = len.octet.toNat) :
    takeArrivals ((start :: len :: rest).map .marketCharacter) s = marketLeft s none
      [if (start :: len :: rest).any Character.framingError then
        .taintedFrame ((start :: len :: rest).map Character.octet)
      else frameCommand .mp ((start :: len :: rest).map Character.octet)] := by
  have nonempty : rest ≠ [] := fun none => by
    rw [none, List.length_nil] at whole
    omega
  obtain ⟨front, last, rfl⟩ : ∃ front last, rest = front ++ [last] := ⟨_, _, (List.dropLast_append_getLast nonempty).symm⟩
  have before : front.length < len.octet.toNat := by
    rw [List.length_append, List.length_singleton] at whole
    omega
  have split : (start :: len :: (front ++ [last])).map Arrival.marketCharacter =
      (start :: len :: front).map .marketCharacter ++ [.marketCharacter last] := by simp
  rw [split, takeArrivals_append, market_partial s hs h long before]
  refine (takeArrival_market_more ..).trans ?_
  rw [List.cons_append, List.cons_append, marketFrame_whole long whole]
  rfl

end

/-! ### A train link (R27) -/

/-- A train link with an intake, and the queue with further commands. -/
def trainLeft (line : Train) (s : State) (held : Option PartialFrame) (commands : List Instr) : State :=
  { s with
    trainLinks := s.trainLinks.set line { s.trainLinks.get line with intake := held }
    pending := s.pending ++ commands }

section
variable {line : Train} {s : State}

theorem trainLeft_none (h : (s.trainLinks.get line).intake = none) : trainLeft line s none [] = s := by
  have same : s.trainLinks.set line { s.trainLinks.get line with intake := none } = s.trainLinks := by
    rw [← h]
    cases line <;> rfl
  rw [trainLeft, same, List.append_nil]

theorem takeArrival_train (c : Character) (held : Option PartialFrame) :
    takeArrival (.trainCharacter line c) (trainLeft line s held []) =
      trainLeft line s (trainIntake line c held).1 (trainIntake line c held).2.toList := by
  have links (left : Option PartialFrame) : (trainLeft line s held []).trainLinks.set line
      { (trainLeft line s held []).trainLinks.get line with intake := left } =
      s.trainLinks.set line { s.trainLinks.get line with intake := left } := by
    unfold trainLeft
    rw [PerTrain.get_set, PerTrain.set_set]
  have delivered (command : Option Instr) (left : Option PartialFrame) :
      deliver command (setTrainIntake line left (trainLeft line s held [])) = trainLeft line s left command.toList := by
    unfold setTrainIntake
    rw [links]
    cases command with
    | none => rfl
    | some c =>
      unfold trainLeft deliver
      rw [List.append_nil]
      rfl
  have read : ((trainLeft line s held []).trainLinks.get line).intake = held := by
    unfold trainLeft
    rw [PerTrain.get_set]
  unfold takeArrival
  dsimp only
  rw [read]
  exact delivered ..

theorem takeArrival_train_more (those : List Character) (c : Character) :
    takeArrival (.trainCharacter line c) (trainLeft line s (some (gathered those)) []) =
      trainLeft line s (reportFrame line (gathered (those ++ [c]))).1 (reportFrame line (gathered (those ++ [c]))).2.toList := by
  rw [takeArrival_train, trainIntake, gathered_take]

theorem reportFrame_partial {those : List Character} (h : those.length < 14) :
    reportFrame line (gathered those) = (some (gathered those), none) := if_pos (by simpa [gathered] using h)

theorem reportFrame_whole {start : Character} {rest : List Character} (h : rest.length = 13) :
    reportFrame line (gathered (start :: rest)) =
      (none, some (reportCommand line (rest.map Character.octet) ((start :: rest).any Character.framingError))) :=
  if_neg (by simp [gathered, h])

variable {start : Character} {rest : List Character} (hs : (s.trainLinks.get line).intake = none) (h : start.octet = 0xC3)
include hs h

theorem train_partial (short : rest.length < 13) :
    takeArrivals ((start :: rest).map (.trainCharacter line)) s = trainLeft line s (some (gathered (start :: rest))) [] := by
  have started : takeArrival (.trainCharacter line start) s = trainLeft line s (some (gathered [start])) [] := by
    have taken := takeArrival_train (line := line) (s := s) start none
    rw [trainLeft_none hs, trainIntake, if_pos h] at taken
    rw [taken]
    simp [PartialFrame.started, gathered]
  show takeArrivals (rest.map (.trainCharacter line)) (takeArrival (.trainCharacter line start) s) = _
  rw [started]
  refine takeArrivals_growing (hold := fun p => trainLeft line s (some p) []) [start] rest fun before c part => ?_
  have shorter : ([start] ++ before ++ [c]).length < 14 := by
    have := part.length_le
    simp only [List.length_append, List.length_singleton] at this ⊢
    omega
  refine (takeArrival_train_more ..).trans ?_
  rw [reportFrame_partial shorter]
  rfl

theorem train_whole (whole : rest.length = 13) :
    takeArrivals ((start :: rest).map (.trainCharacter line)) s = trainLeft line s none
      [reportCommand line (rest.map Character.octet) ((start :: rest).any Character.framingError)] := by
  have nonempty : rest ≠ [] := fun none => by
    rw [none, List.length_nil] at whole
    omega
  obtain ⟨front, last, rfl⟩ : ∃ front last, rest = front ++ [last] := ⟨_, _, (List.dropLast_append_getLast nonempty).symm⟩
  have before : front.length < 13 := by
    rw [List.length_append, List.length_singleton] at whole
    omega
  have split : (start :: (front ++ [last])).map (Arrival.trainCharacter line) =
      (start :: front).map (.trainCharacter line) ++ [.trainCharacter line last] := by simp
  rw [split, takeArrivals_append, train_partial hs h before]
  refine (takeArrival_train_more ..).trans ?_
  rw [List.cons_append, reportFrame_whole whole]
  rfl

end

/-! ### Supervisory Port transactions (R15) -/

/-- What a transaction has shifted out after `n` octets: the frame, then 0x00. -/
def shiftedFrame (frame : List Octet) (n : Nat) : List Octet := (frame ++ List.replicate (n - frame.length) 0x00).take n

theorem shiftedFrame_length (frame : List Octet) (n : Nat) : (shiftedFrame frame n).length = n := by
  rw [shiftedFrame, List.length_take, List.length_append, List.length_replicate]
  omega

theorem shiftedFrame_succ (frame : List Octet) (n : Nat) :
    shiftedFrame frame (n + 1) = shiftedFrame frame n ++ [(frame[n]?).getD 0x00] := by
  have read (m k : Nat) : (shiftedFrame frame m)[k]? = if k < m then some ((frame[k]?).getD 0x00) else none := by
    rw [shiftedFrame, List.getElem?_take]
    split
    · rw [List.getElem?_append]
      split
      next inside => rw [List.getElem?_eq_getElem inside]; rfl
      next outside =>
        rw [List.getElem?_replicate, if_pos (by omega), List.getElem?_eq_none (by omega)]
        rfl
    · rfl
  apply List.ext_getElem?
  intro k
  rw [List.getElem?_append, shiftedFrame_length, read, read]
  by_cases inside : k < n
  · rw [if_pos (by omega), if_pos inside, if_pos inside]
  · rw [if_neg inside]
    by_cases last : k = n
    · subst last
      simp
    · rw [if_neg (by omega), List.getElem?_eq_none (by simp; omega)]

theorem takeArrival_supervisoryOctet (octet : Octet) (s : State) : takeArrival (.supervisoryOctet octet) s =
    { s with
      sp := { s.sp with intake := some { octets := (s.sp.intake.map PartialFrame.octets).getD [] ++ [octet], tainted := false } }
      transaction := some (s.transaction.getD { response := s.sp.responses.head?, sent := [] }).clock } := rfl

/-- The state after octets of a transaction that none has come before. -/
def clocked (octets : List Octet) (s : State) : State :=
  { s with
    sp := { s.sp with intake := if octets = [] then none else some { octets := octets, tainted := false } }
    transaction := if octets = [] then none else some
      { response := s.sp.responses.head?
        sent := shiftedFrame ((s.sp.responses.head?.map Response.frame).getD []) octets.length } }

theorem clocked_concat (front : List Octet) (octet : Octet) (s : State) : clocked (front ++ [octet]) s =
    { s with
      sp := { s.sp with intake := some { octets := front ++ [octet], tainted := false } }
      transaction := some
        { response := s.sp.responses.head?
          sent := shiftedFrame ((s.sp.responses.head?.map Response.frame).getD []) (front.length + 1) } } := by
  have some_ : front ++ [octet] ≠ [] := by simp
  rw [clocked, if_neg some_, if_neg some_, List.length_append, List.length_singleton]

theorem takeArrivals_clocked (octets : List Octet) {s : State} (fresh : s.sp.intake = none) (idle : s.transaction = none) :
    takeArrivals (octets.map .supervisoryOctet) s = clocked octets s := by
  induction octets using List.reverseRecOn with
  | nil =>
    rw [clocked, if_pos rfl, if_pos rfl, ← fresh, ← idle]
    rfl
  | append_singleton front octet ih =>
    rw [List.map_append, takeArrivals_append, ih]
    refine (takeArrival_supervisoryOctet octet (clocked front s)).trans ?_
    have held : ((clocked front s).sp.intake.map PartialFrame.octets).getD [] = front := by
      cases front <;> rfl
    have running : (clocked front s).transaction.getD { response := (clocked front s).sp.responses.head?, sent := [] } =
        { response := s.sp.responses.head?
          sent := shiftedFrame ((s.sp.responses.head?.map Response.frame).getD []) front.length } := by
      cases front <;> simp [clocked, shiftedFrame]
    rw [held, running, Transaction.clock, Transaction.next, shiftedFrame_length, ← shiftedFrame_succ]
    rw [clocked_concat]
    rfl

/-- Settles O8: the intakes of the two ports and of the train links. -/
theorem intakesGatherOctetsIntoFrames : Obligations.IntakesGatherOctetsIntoFrames := by
  unfold Obligations.IntakesGatherOctetsIntoFrames
  intro octetsOf tainted partly takeAll
  refine ⟨fun a rest s pending arrivals => ?_, fun s fresh => ?_, fun line s fresh => ?_, fun line s => ⟨rfl, rfl⟩,
    fun octet s => ?_, fun octets s fresh idle => ?_, fun start len more frame extra => ?_⟩
  · exact step_arrival pending arrivals
  · intro market left
    refine ⟨fun c other => ?_, fun start len rest starts => ?_⟩
    · have taken := takeArrival_market s c none
      rw [marketLeft_none fresh, marketIntake, if_neg other] at taken
      exact taken.trans (marketLeft_none fresh)
    · refine ⟨market_started s fresh starts, fun short => ?_, fun long partial_ => market_partial s fresh starts long partial_,
        fun long whole => market_whole s fresh starts long whole⟩
      refine (market_length s fresh starts).trans ?_
      rw [marketFrame_short short]
      rfl
  · intro heard left
    refine ⟨fun c other => ?_, fun start rest starts => ⟨train_partial fresh starts, train_whole fresh starts⟩⟩
    have taken := takeArrival_train (line := line) (s := s) c none
    rw [trainLeft_none fresh, trainIntake, if_neg other] at taken
    exact taken.trans (trainLeft_none fresh)
  · intro held tr frame
    refine ⟨tr.next, fun k at_ => ?_, fun ended => ?_, takeArrival_supervisoryOctet octet s⟩
    · have listed : frame[tr.sent.length]? = some k := at_
      show (frame[tr.sent.length]?).getD 0x00 = k
      rw [listed]
      rfl
    · have none : frame[tr.sent.length]? = none := List.getElem?_eq_none ended
      show (frame[tr.sent.length]?).getD 0x00 = 0x00
      rw [none]
      rfl
  · intro done frame shiftedOut released
    have clocks : done = clocked octets s := takeArrivals_clocked octets fresh idle
    refine ⟨clocks, ?_⟩
    have held : clockedOctets done.sp.intake = octets := by
      rw [clocks]
      cases octets <;> rfl
    have pending : done.pending = s.pending := by
      rw [clocks]
      rfl
    show deliver (some (transactionCommand (clockedOctets done.sp.intake))) (setSupervisoryIntake none done) = _
    rw [held, ← pending]
    rfl
  · refine ⟨rfl, fun other => if_neg other, rfl, fun short => if_pos short, fun long partial_ => ?_, fun long whole => ?_⟩
    · exact (if_neg (Nat.not_lt.2 long)).trans (if_pos partial_)
    · have enough : ¬ (frame ++ extra).length < len.toNat := by
        rw [List.length_append]
        omega
      have left : (frame ++ extra).length - len.toNat = extra.length := by
        rw [List.length_append]
        omega
      have own : (0xA5 :: len :: (frame ++ extra)).take (len.toNat + 2) = 0xA5 :: len :: frame := by
        rw [← whole]
        simp
      refine (if_neg (Nat.not_lt.2 long)).trans ((if_neg enough).trans ?_)
      show frameCommand (.sp ((frame ++ extra).length - len.toNat))
        ((0xA5 :: len :: (frame ++ extra)).take (len.toNat + 2)) = _
      rw [left, own]

end Sys2Proof.Machine
end

/-!
The faults of a body (R16): readers of fixed width, bodies that end early or late, and values beyond a listing (O6).
-/
section
namespace Sys2Proof.Machine

/-! ### Readers of a fixed width -/

/-- A reader that takes `n` octets whatever they are, and faults at the end of a body that has fewer. -/
def Reads {α : Type} (fields : Parser α) (n : Nat) : Prop :=
  ∀ (k : Nat) (octets : List Octet),
    (octets.length < n → fields (k, octets) = .error { detail := .bodyShort, offset := k + octets.length }) ∧
    (n ≤ octets.length → ∃ a, fields (k, octets) = .ok (a, (k + n, octets.drop n)))

section
variable {α β : Type} {fields : Parser α} {k n : Nat} {octets : List Octet}

theorem Reads.short (h : Reads fields n) (few : octets.length < n) :
    fields (k, octets) = .error { detail := .bodyShort, offset := k + octets.length } := (h k octets).1 few

theorem Reads.enough (h : Reads fields n) (many : n ≤ octets.length) :
    ∃ a, fields (k, octets) = .ok (a, (k + n, octets.drop n)) := (h k octets).2 many

theorem reads_pure (a : α) : Reads (pure a : Parser α) 0 := fun _ _ => ⟨nofun, fun _ => ⟨a, rfl⟩⟩

theorem Reads.bind {more : α → Parser β} {m : Nat} (h : Reads fields n) (hm : ∀ a, Reads (more a) m) :
    Reads (fields >>= more) (n + m) := by
  refine fun k octets => ⟨fun few => ?_, fun many => ?_⟩
  · rw [parser_bind]
    by_cases first : octets.length < n
    · rw [h.short first]
    · obtain ⟨a, read⟩ := h.enough (k := k) (Nat.not_lt.1 first)
      have left : (octets.drop n).length < m := by
        rw [List.length_drop]
        omega
      have place : k + n + (octets.drop n).length = k + octets.length := by
        rw [List.length_drop]
        omega
      rw [read]
      dsimp only
      rw [(hm a).short left, place]
  · obtain ⟨a, read⟩ := h.enough (k := k) (by omega : n ≤ octets.length)
    obtain ⟨b, next⟩ := (hm a).enough (k := k + n) (octets := octets.drop n) (by rw [List.length_drop]; omega)
    rw [List.drop_drop, Nat.add_assoc] at next
    rw [parser_bind, read]
    exact ⟨b, next⟩

theorem reads_octet : Reads parseOctet 1
  | _, [] => ⟨fun _ => rfl, nofun⟩
  | _, _ :: _ => ⟨fun few => absurd few (by simp), fun _ => ⟨_, rfl⟩⟩

theorem reads_u8 : Reads parseU8 1 := reads_octet.bind fun _ => reads_pure _

theorem reads_u16 : Reads parseU16 2 := reads_u8.bind fun _ => reads_u8.bind fun _ => reads_pure _

theorem reads_u32 : Reads parseU32 4 := reads_u16.bind fun _ => reads_u16.bind fun _ => reads_pure _

theorem reads_s16 : Reads parseS16 2 := reads_u16.bind fun _ => reads_pure _

theorem reads_layer : Reads parseLayer 6 := reads_u16.bind fun _ => reads_u32.bind fun _ => reads_pure _

theorem reads_items (h : Reads fields n) (count : Nat) : Reads (parseItems fields count) (n * count) := by
  induction count with
  | zero => exact reads_pure _
  | succ count ih =>
    have width : n * (count + 1) = n + (n * count + 0) := by
      rw [Nat.mul_succ]
      omega
    rw [width]
    exact h.bind fun _ => ih.bind fun _ => reads_pure _

/-! ### Whole bodies -/

theorem parseBody_fault {body : List Octet} {fault : BodyFault} (h : fields (0, body) = .error fault) :
    parseBody fields body = .error fault := by
  rw [parseBody, h]

theorem parseBody_long {body rest : List Octet} {a : α} {o : Octet} (h : fields (0, body) = .ok (a, (k, o :: rest))) :
    parseBody fields body = .error { detail := .bodyLong, offset := k } := by
  rw [parseBody, h]

/-- The last field of a body, of a fixed width, ends early or late. -/
theorem Reads.last {fields : Parser β} {last : Parser α} {finish : α → Parser β} {body : List Octet}
    (h : Reads last n) (pure_ : ∀ a, Reads (finish a) 0) (at_ : fields (0, body) = (last >>= finish) (k, octets)) :
    (octets.length < n → parseBody fields body = .error { detail := .bodyShort, offset := k + octets.length }) ∧
    (n < octets.length → parseBody fields body = .error { detail := .bodyLong, offset := k + n }) := by
  have reads : Reads (last >>= finish) n := h.bind pure_
  refine ⟨fun few => parseBody_fault (at_.trans (reads.short few)), fun many => ?_⟩
  obtain ⟨a, read⟩ := reads.enough (k := k) many.le
  obtain ⟨o, rest, left⟩ : ∃ o rest, octets.drop n = o :: rest := by
    refine List.exists_cons_of_ne_nil fun none => ?_
    have length := congrArg List.length none
    rw [List.length_drop, List.length_nil] at length
    omega
  rw [left] at read
  exact parseBody_long (at_.trans read)

/-! ### Listings (R31) -/

theorem parseU8_cons (k : Nat) (o : Octet) (rest : List Octet) : parseU8 (k, o :: rest) = .ok (o.toNat, (k + 1, rest)) := rfl

theorem parseListed_unlisted {listed : Nat → Option α} {o : Octet} (h : listed o.toNat = none) (rest : List Octet) :
    parseListed listed (k, o :: rest) = .error { detail := .badEncoding, offset := k } := by
  rw [parseListed, parseU8_cons]
  dsimp only
  rw [h]

theorem parseListed_listed {listed : Nat → Option α} {o : Octet} {a : α} (h : listed o.toNat = some a) (rest : List Octet) :
    parseListed listed (k, o :: rest) = .ok (a, (k + 1, rest)) := by
  rw [parseListed, parseU8_cons]
  dsimp only
  rw [h]

end

/-- A listing of `n` values. -/
def Lists {α : Type} (listed : Nat → Option α) (n : Nat) : Prop :=
  (∀ k, n ≤ k → listed k = none) ∧ ∀ k, k < n → ∃ a, listed k = some a

theorem Lists.of_list {α : Type} {listed : Nat → Option α} {l : List α} (h : ∀ k, listed k = l[k]?) : Lists listed l.length :=
  ⟨fun k above => (h k).trans (List.getElem?_eq_none above), fun k within => ⟨l[k], (h k).trans (List.getElem?_eq_getElem within)⟩⟩

theorem lists_train : Lists trainAt 6 := .of_list (l := allTrains) fun | 0 | 1 | 2 | 3 | 4 | 5 | _ + 6 => rfl

theorem lists_tank : Lists tankAt 3 := .of_list (l := allTanks) fun | 0 | 1 | 2 | _ + 3 => rfl

theorem lists_field : Lists listedField 3 := .of_list (l := [.power, .length, .marketReference]) fun | 0 | 1 | 2 | _ + 3 => rfl

theorem lists_operation : Lists listedOperation 3 := .of_list (l := [.set, .add, .subtract]) fun | 0 | 1 | 2 | _ + 3 => rfl

theorem lists_flag : Lists listedFlag 2 := .of_list (l := [false, true]) fun | 0 | 1 | _ + 2 => rfl

theorem lists_outageKind : Lists listedOutageKind 2 := .of_list (l := [.full, .derate]) fun | 0 | 1 | _ + 2 => rfl

section
variable {α β : Type} {listed : Nat → Option α} {n k : Nat} {o : Octet} {rest : List Octet}

theorem Lists.beyond (h : Lists listed n) (above : n ≤ o.toNat) :
    parseListed listed (k, o :: rest) = .error { detail := .badEncoding, offset := k } :=
  parseListed_unlisted (h.1 _ above) rest

theorem Lists.within (h : Lists listed n) (below : o.toNat < n) :
    ∃ a, listed o.toNat = some a ∧ parseListed listed (k, o :: rest) = .ok (a, (k + 1, rest)) := by
  obtain ⟨a, at_⟩ := h.2 _ below
  exact ⟨a, at_, parseListed_listed at_ rest⟩

theorem bind_error {fields : Parser α} {more : α → Parser β} {fault : BodyFault} {at_ : Nat × List Octet}
    (h : fields at_ = .error fault) : (fields >>= more) at_ = .error fault := by
  rw [parser_bind, h]

theorem bind_ok {fields : Parser α} {more : α → Parser β} {a : α} {at_ next : Nat × List Octet}
    (h : fields at_ = .ok (a, next)) : (fields >>= more) at_ = more a next := by
  rw [parser_bind, h]

end

/-! ### The bodies of O6 -/

section
variable {f : Frame} {s r : State}

/-- A request that is admitted but for the faults of its body is answered BAD_REQUEST. -/
theorem takeRequest_faulty {α : Type} {code : Octet} {ports : Port → Bool} {fields : Parser α}
    {owner : Port → Octet → α → State → State} {fault : BodyFault} (ha : Admitted ports f s r)
    (h : parseBody fields f.body = .error fault) : takeRequest code ports fields owner f s =
      answered f code .badRequest (u8 (faultCode fault.detail) ++ u8 fault.offset) r := by
  obtain ⟨isReceived, _, room, _⟩ := ha
  subst isReceived
  have broken : bodyFault fields f = some fault := by
    rw [bodyFault, h]
  exact takeRequest_broken ((hasRoom_iff ..).2 room) broken

/-- The readers of an AMEND, past its Handle. -/
theorem parseAmend_handle (h : Nat) (rest : List Octet) : ∃ handle, parseAmend (0, u16 h ++ rest) =
    (parseListed listedField >>= fun field => parseListed listedOperation >>= fun operation => parseFlag >>= fun preview =>
      parseOperand field >>= fun operand =>
        pure { handle := handle, field := field, operation := operation, preview := preview, operand := operand }) (2, rest) := by
  obtain ⟨handle, read⟩ := reads_u16.enough (k := 0) (octets := u16 h ++ rest) (by simp [u16, u8])
  exact ⟨handle, bind_ok read⟩

/-- The width of an Operand by its Field (R41). -/
def operandWidth (field : AmendField) : Nat :=
  match field with
  | .power => 2
  | .length => 1
  | .marketReference => 4

theorem reads_operand (field : AmendField) : Reads (parseOperand field) (operandWidth field) := by
  cases field with
  | power => exact reads_s16
  | length => exact reads_u8.bind fun _ => reads_pure _
  | marketReference => exact reads_u32.bind fun _ => reads_pure _

theorem operandWidth_listed {o : Octet} {field : AmendField} (h : listedField o.toNat = some field) :
    operandWidth field = if o = 0 then 2 else if o = 1 then 1 else 4 := by
  have zero : o = 0 ↔ o.toNat = 0 := by
    rw [← BitVec.toNat_inj]
    rfl
  have one : o = 1 ↔ o.toNat = 1 := by
    rw [← BitVec.toNat_inj]
    rfl
  simp only [zero, one]
  match o.toNat, h with
  | 0, rfl => rfl
  | 1, rfl => rfl
  | 2, rfl => rfl

theorem parseOutage_train {train : Octet} {first last : Nat} {rest : List Octet} (h : train.toNat < 6) :
    ∃ t a b, parseOutage (0, train :: u32 first ++ u32 last ++ rest) =
      (parseListed listedOutageKind >>= fun kind => parseOptional parseU16 >>= fun derateMax =>
        pure { train := t, first := a, last := b, kind := kind, derateMax := derateMax }) (9, rest) := by
  obtain ⟨t, -, named⟩ := lists_train.within (k := 0) (rest := u32 first ++ u32 last ++ rest) h
  obtain ⟨a, start⟩ := reads_u32.enough (k := 1) (octets := u32 first ++ (u32 last ++ rest)) (by simp [u32, u16, u8])
  obtain ⟨b, stop⟩ := reads_u32.enough (k := 5) (octets := u32 last ++ rest) (by simp [u32, u16, u8])
  rw [← List.append_assoc] at start
  exact ⟨t, a, b, (bind_ok named).trans ((bind_ok start).trans (bind_ok stop))⟩

theorem optional_clear {k : Nat} {o : Octet} (h : o = 0) (rest : List Octet) :
    parseOptional parseU16 (k, o :: rest) = .ok (none, (k + 1, rest)) := by
  subst h
  rfl

theorem optional_marked {k : Nat} {o : Octet} (h : o = 1) (rest : List Octet) :
    parseOptional parseU16 (k, o :: rest) = (parseU16 >>= fun a => pure (some a)) (k + 1, rest) := by
  subst h
  rfl

end

/-- Settles O6: an unknown code, and the faults of the bodies of LOOKUP_TRAIN, AMEND, ENTER_OUTAGE, SURVEY_TANK and CONFIGURE. -/
theorem brokenRequestsAreAnsweredBadRequest : Obligations.BrokenRequestsAreAnsweredBadRequest := by
  unfold Obligations.BrokenRequestsAreAnsweredBadRequest
  refine ⟨fun code f s r isReceived => ?_, fun f s r ha => ?_, fun f h field operation preview operand s r ha hb => ?_,
    fun f train kind presence first last derate s r ha hb => ?_, fun f head count items s r ha hb => ?_⟩
  · subst isReceived
    exact ⟨fun room => congrArg Host.Outcome.next (if_pos ((hasRoom_iff ..).2 room)),
      fun full => congrArg Host.Outcome.next (if_neg ((hasRoom_iff ..).not.2 (Nat.not_lt.2 full)))⟩
  · have broken {fault : BodyFault} (h : parseBody (parseListed trainAt) f.body = .error fault) :
        exec (.lookupTrain f) s =
          .next (answered f 0x28 .badRequest (u8 (faultCode fault.detail) ++ u8 fault.offset) r) :=
      congrArg Host.Outcome.next ((lookup_eq ..).trans (takeRequest_faulty ha h))
    refine ⟨fun empty => broken (fault := ⟨.bodyShort, 0⟩) (parseBody_fault (by rw [empty]; rfl)),
      fun o rest body above => broken (fault := ⟨.badEncoding, 0⟩) (parseBody_fault (by rw [body]; exact lists_train.beyond above)),
      fun o x rest body below => ?_⟩
    obtain ⟨t, -, read⟩ := lists_train.within (k := 0) (rest := x :: rest) below
    exact broken (parseBody_long (by rw [body]; exact read))
  · intro width broken
    obtain ⟨handle, read⟩ := parseAmend_handle h (field :: operation :: preview :: operand)
    have body : f.body = u16 h ++ (field :: operation :: preview :: operand) := by
      rw [hb]
      simp
    rw [← body] at read
    have faulty {fault : BodyFault} (h : parseBody parseAmend f.body = .error fault) :
        broken (u8 (faultCode fault.detail) ++ u8 fault.offset) :=
      ⟨congrArg Host.Outcome.next (takeRequest_faulty ha h), congrArg Host.Outcome.next (takeRequest_faulty ha h)⟩
    refine ⟨fun above => faulty (parseBody_fault (read.trans (bind_error (lists_field.beyond above)))), fun below => ?_,
      fun below => ?_, fun below => ?_⟩
    all_goals
      obtain ⟨named, listed, fieldRead⟩ := lists_field.within (k := 2) (rest := operation :: preview :: operand) below
      replace read := read.trans (bind_ok fieldRead)
    · exact fun above => faulty (parseBody_fault (read.trans (bind_error (lists_operation.beyond above))))
    all_goals
      intro below
      obtain ⟨operated, -, operationRead⟩ := lists_operation.within (k := 3) (rest := preview :: operand) below
      replace read := read.trans (bind_ok operationRead)
    · exact fun above => faulty (parseBody_fault (read.trans (bind_error (lists_flag.beyond above))))
    · intro below
      obtain ⟨previewed, -, previewRead⟩ := lists_flag.within (k := 4) (rest := operand) below
      replace read := read.trans (bind_ok previewRead)
      have widths : operandWidth named = width := operandWidth_listed listed
      have ends := (reads_operand named).last (fun _ => reads_pure _) read
      rw [widths] at ends
      exact ⟨fun few => faulty (ends.1 few), fun many => faulty (ends.2 many)⟩
  · intro broken
    have faulty {fault : BodyFault} (h : parseBody parseOutage f.body = .error fault) :
        broken (u8 (faultCode fault.detail) ++ u8 fault.offset) :=
      congrArg Host.Outcome.next (takeRequest_faulty ha h)
    refine ⟨fun above => faulty (fault := ⟨.badEncoding, 0⟩)
        (parseBody_fault (by rw [hb]; exact bind_error (lists_train.beyond above))), fun below => ?_, fun below => ?_,
      fun below => ?_, fun below => ?_⟩
    all_goals
      obtain ⟨t, a, b, read⟩ := parseOutage_train (first := first) (last := last) (rest := kind :: presence :: derate) below
      rw [← hb] at read
    · exact fun above => faulty (parseBody_fault (read.trans (bind_error (lists_outageKind.beyond above))))
    all_goals
      intro below
      obtain ⟨named, -, kindRead⟩ := lists_outageKind.within (k := 9) (rest := presence :: derate) below
      replace read := read.trans (bind_ok kindRead)
    · exact fun above => faulty (parseBody_fault (read.trans (bind_error (bind_error (lists_flag.beyond above)))))
    · intro clear some_
      obtain ⟨o, rest, octets⟩ := List.exists_cons_of_ne_nil some_
      have ends := read.trans (bind_ok (optional_clear clear derate))
      rw [octets] at ends
      exact faulty (parseBody_long ends)
    · intro marked
      rw [parser_bind, optional_marked marked, ← parser_bind] at read
      have ends := Reads.last (reads_u16.bind fun a => reads_pure (some a)) (fun _ => reads_pure _) read
      exact ⟨fun few => faulty (ends.1 few), fun many => faulty (ends.2 many)⟩
  · intro layers words
    have layersFaulty {fault : BodyFault} (h : parseBody parseSurvey f.body = .error fault) :
        layers (u8 (faultCode fault.detail) ++ u8 fault.offset) :=
      congrArg Host.Outcome.next (takeRequest_faulty ha h)
    have wordsFaulty {fault : BodyFault} (h : parseBody parseConfigure f.body = .error fault) :
        words (u8 (faultCode fault.detail) ++ u8 fault.offset) :=
      congrArg Host.Outcome.next (takeRequest_faulty ha h)
    have counted {α : Type} (item : Parser α) : parseList item (1, count :: items) =
        parseItems item count.toNat (2, items) := bind_ok (parseU8_cons ..)
    have configured : parseConfigure (0, f.body) =
        (parseItems parseU16 count.toNat >>= fun words => pure (head.toNat, words)) (2, items) := by
      rw [hb]
      refine (bind_ok (parseU8_cons ..)).trans ?_
      rw [parser_bind, counted, ← parser_bind]
    have wordsEnd := (reads_items reads_u16 count.toNat).last (fun _ => reads_pure _) configured
    refine ⟨fun above => layersFaulty (fault := ⟨.badEncoding, 0⟩)
        (parseBody_fault (by rw [hb]; exact bind_error (lists_tank.beyond above))), fun below => ?_,
      fun few => wordsFaulty (wordsEnd.1 few), fun many => wordsFaulty (wordsEnd.2 many)⟩
    obtain ⟨tank, -, tankRead⟩ := lists_tank.within (k := 0) (rest := count :: items) below
    have surveyed : parseSurvey (0, f.body) =
        (parseItems parseLayer count.toNat >>= fun layers => pure (tank, layers)) (2, items) := by
      rw [hb]
      refine (bind_ok tankRead).trans ?_
      rw [parser_bind, counted, ← parser_bind]
    have layersEnd := (reads_items reads_layer count.toNat).last (fun _ => reads_pure _) surveyed
    exact ⟨fun few => layersFaulty (layersEnd.1 few), fun many => layersFaulty (layersEnd.2 many)⟩

end Sys2Proof.Machine
end

/-!
What the Controller does by itself while no command waits: raised events, timers, Passes and the passing of time (O4).
-/
section
namespace Sys2Proof.Machine

/-! ### Commands that take a raised event (log 2) -/

/-- A selection of raised events of one command. -/
def PicksFor {β : Type} (c : Instr) (pick : Raised → Option β) : Prop := ∀ r, pick r ≠ none → r.command = c

theorem picksFor_boundary (block : BoundaryBlock) (b : Boundary) : PicksFor (Raised.boundary block b).command (pickBoundary block) := by
  intro r picked
  cases r <;> simp only [pickBoundary, ne_eq, not_true_eq_false] at picked
  split at picked
  next same =>
    subst same
    rename_i k _
    cases k <;> rfl
  next => exact absurd rfl picked

theorem picksFor_imbalance : PicksFor .imbalanceDelivery pickImbalance := by
  intro r picked
  cases r <;> first | rfl | exact absurd rfl picked

theorem picksFor_reset :
    PicksFor .commitmentStoreReset pickStoreReset ∧ PicksFor .projectorReset pickProjectorReset ∧
      PicksFor .heatStoreReset pickHeatReset ∧ PicksFor .trainUnitReset pickTrainReset := by
  refine ⟨?_, ?_, ?_, ?_⟩ <;> intro r picked <;> cases r <;> first | rfl | exact absurd rfl picked

theorem picksFor_notice (notice : Raised) : PicksFor notice.command (pickNotice notice) := by
  intro r picked
  unfold pickNotice at picked
  split at picked
  next same => rw [same]
  next => exact absurd rfl picked

theorem picksFor_item (raised : List Raised) (i : ItemId) : PicksFor (.configItemTaken i) (pickItem raised i) := by
  intro r picked
  cases r <;> try exact absurd rfl picked
  next item =>
    exact Classical.byContradiction fun other => picked (if_neg fun both => other (congrArg Instr.configItemTaken both.1))

theorem picksFor_report (t : Train) :
    PicksFor (.massIntegration t) (pickMass t) ∧ PicksFor (.heatDeposit t) (pickDeposit t) ∧
      PicksFor (.heatDraw t) (pickDraw t) ∧ PicksFor (.setpointFormation t) (pickFormation t) := by
  refine ⟨?_, ?_, ?_, ?_⟩
  all_goals
    intro r picked
    cases r <;> try exact absurd rfl picked
    simp only [pickMass, pickDeposit, pickDraw, pickFormation, ne_eq] at picked
    split at picked
    next same => rw [same]; rfl
    next => exact absurd rfl picked

theorem exec_takesRaised {c : Instr} (h : takesRaised c = true) (s : State) :
    ∃ (β : Type) (pick : Raised → Option β) (handle : β → State → State),
      exec c s = .next (handleRaised pick handle s) ∧ PicksFor c pick := by
  obtain ⟨store, projector, heat, train⟩ := picksFor_reset
  cases c <;> try exact absurd h Bool.false_ne_true
  case configItemTaken i => exact ⟨_, _, _, rfl, picksFor_item s.raised i⟩
  case commitmentBoundary => exact ⟨_, _, _, rfl, picksFor_boundary .commitmentStore ⟨0, .rebase, false⟩⟩
  case horizonShift => exact ⟨_, _, _, rfl, picksFor_boundary .horizonProjector ⟨0, .rebase, false⟩⟩
  case standingLoss => exact ⟨_, _, _, rfl, picksFor_boundary .heatStoreUnit ⟨0, .rebase, false⟩⟩
  case intervalClose => exact ⟨_, _, _, rfl, picksFor_boundary .dispatcher ⟨0, .rebase, false⟩⟩
  case imbalanceDelivery => exact ⟨_, _, _, rfl, picksFor_imbalance⟩
  case commitmentStoreReset => exact ⟨_, _, _, rfl, store⟩
  case projectorReset => exact ⟨_, _, _, rfl, projector⟩
  case heatStoreReset => exact ⟨_, _, _, rfl, heat⟩
  case trainUnitReset => exact ⟨_, _, _, rfl, train⟩
  case massIntegration t => exact ⟨_, _, _, rfl, (picksFor_report t).1⟩
  case heatDeposit t => exact ⟨_, _, _, rfl, (picksFor_report t).2.1⟩
  case heatDraw t => exact ⟨_, _, _, rfl, (picksFor_report t).2.2.1⟩
  case setpointFormation t => exact ⟨_, _, _, rfl, (picksFor_report t).2.2.2⟩
  case activeFirmNotice => exact ⟨_, _, _, rfl, picksFor_notice .activeFirm⟩
  case bandNotice => exact ⟨_, _, _, rfl, picksFor_notice .band⟩
  case topNotice tank => exact ⟨_, _, _, rfl, picksFor_notice (.top tank)⟩
  case trainNotice t => exact ⟨_, _, _, rfl, picksFor_notice (.train t)⟩

theorem exec_notRaised {c : Instr} {s : State} (h : takesRaised c = true) (none : ∀ r ∈ s.raised, r.command ≠ c) :
    exec c s = .next s := by
  obtain ⟨β, pick, handle, executed, picks⟩ := exec_takesRaised h s
  rw [executed, handleRaised_none fun r mem => Classical.byContradiction fun picked => none r mem (picks r picked)]

/-! ### The Controller by itself (log 1) -/

section
variable {s : State} (pending : s.pending = []) (arrivals : s.arrivals = [])
include pending arrivals

theorem step_own {c : Instr} (h : ownCommand s = some c) : step s = exec c s := by
  unfold step
  rw [pending, arrivals, h]

theorem step_idle (h : ownCommand s = none) : step s = .next (idleTick s) := by
  unfold step
  rw [pending, arrivals, h]

end

theorem ownCommand_raised {s : State} {r : Raised} {rest : List Raised} (h : s.raised = r :: rest) :
    ownCommand s = some r.command := by
  rw [ownCommand, h]

theorem ownCommand_quiet {s : State} (h : s.raised = []) : ownCommand s = (dueExpiry s).or (dueCompletion s) := by
  rw [ownCommand, h]

/-- A STARTING train past its start limit (R166). -/
def LimitPassed (s : State) (t : Train) : Prop := (s.train t).state = .starting ∧
  ∃ sel ms, (s.train t).selection = some sel ∧ (s.train t).startTimer = some ms ∧ sel.descriptor.startLimit * 1000 < ms

theorem limitPassed_iff (s : State) (t : Train) : startExpired s t = true ↔ LimitPassed s t := by
  unfold startExpired LimitPassed
  dsimp only
  split
  next _ _ _ sel ms state selected timer =>
    rw [decide_eq_true_iff]
    refine ⟨fun late => ⟨state, sel, ms, selected, timer, late⟩, fun ⟨_, sel', ms', selected', timer', late⟩ => ?_⟩
    cases selected.symm.trans selected'
    cases timer.symm.trans timer'
    exact late
  next other =>
    exact iff_of_false Bool.false_ne_true fun ⟨state, sel, ms, selected, timer, _⟩ => other sel ms state selected timer

/-- A train whose silence has reached the timeout (R167). -/
def Silent (s : State) (t : Train) : Prop :=
  ((s.train t).state = .ready ∨ (s.train t).state = .starting ∨ (s.train t).state = .running ∨
    (s.train t).state = .unloading) ∧ ∃ ms, (s.train t).silence = some ms ∧ s.loader.silenceTimeout ≤ ms

theorem silent_iff (s : State) (t : Train) : silenceExpired s t = true ↔ Silent s t := by
  unfold silenceExpired Silent
  dsimp only
  rw [Bool.and_eq_true, Bool.or_eq_true, inUse_iff, decide_eq_true_iff, or_comm]
  refine and_congr_right fun _ => ?_
  cases (s.train t).silence <;> simp

theorem before_train : ∀ t k : Train, k ∈ allTrains.take (trainIndex t) → trainIndex k < trainIndex t := by
  intro t k
  cases t <;> cases k <;> decide

theorem allTrains_split (t : Train) :
    allTrains = allTrains.take (trainIndex t) ++ t :: allTrains.drop (trainIndex t + 1) := by
  cases t <;> rfl

/-- The first train in the trains' order that a test holds of. -/
theorem find?_train {p : Train → Bool} {t : Train} (h : p t = true) (before : ∀ k, trainIndex k < trainIndex t → ¬ p k = true) :
    allTrains.find? p = some t :=
  find?_first (allTrains_split t) h fun k mem => before k (before_train t k mem)

theorem dueExpiry_limit {s : State} {t : Train} (h : allTrains.find? (startExpired s) = some t) :
    dueExpiry s = some (.startLimitExpiry t) := by
  rw [dueExpiry, h]

theorem dueExpiry_inTime {s : State} (h : ∀ t, ¬ LimitPassed s t) :
    dueExpiry s = (allTrains.find? (silenceExpired s)).map Instr.silenceTimeout := by
  rw [dueExpiry, List.find?_eq_none.2 fun t _ => (limitPassed_iff s t).not.2 (h t)]

theorem dueExpiry_none {s : State} (h : ∀ t, ¬ LimitPassed s t) (k : ∀ t, ¬ Silent s t) : dueExpiry s = none := by
  rw [dueExpiry_inTime h, List.find?_eq_none.2 fun t _ => (silent_iff s t).not.2 (k t)]
  rfl

/-! ### A millisecond (log 23) -/

theorem idleTick_still {s : State} (h : s.projector.start = none ∨ 192 ≤ s.projector.workingCopy.length) :
    idleTick s = elapse 1 s := by
  have projector : (elapse 1 s).projector = s.projector := rfl
  unfold idleTick evaluateRow
  rw [projector]
  split
  · rfl
  next st start =>
    have full : 192 ≤ s.projector.workingCopy.length := h.resolve_left (by rw [start]; exact nofun)
    rw [extendedCopy, if_neg (Nat.not_lt.2 full)]
    rfl

theorem idleTick_row {s : State} {st : StartState} (start : s.projector.start = some st)
    (room : s.projector.workingCopy.length < 192) : idleTick s =
    { elapse 1 s with
      projector :=
        { s.projector with workingCopy := s.projector.workingCopy ++
            [evalRow st (overlay s.projector.trial st.commitments) s.projector.workingCopy.length
              (nextStart st s.projector.workingCopy)] } } := by
  have projector : (elapse 1 s).projector = s.projector := rfl
  unfold idleTick evaluateRow
  rw [projector, start]
  dsimp only
  rw [extendedCopy, if_pos room]
  rfl

/-- Settles O4: raised events, and what an empty queue goes on with. -/
theorem raisedEventsAreTakenAndTimePasses : Obligations.RaisedEventsAreTakenAndTimePasses := by
  unfold Obligations.RaisedEventsAreTakenAndTimePasses
  refine ⟨fun c s => exec_notRaised, fun s pending arrivals => ?_, ?_⟩
  · intro limitPassed silent first p complete
    refine ⟨fun r rest raised => step_own pending arrivals (ownCommand_raised raised), fun quiet => ?_⟩
    have own := ownCommand_quiet quiet
    refine ⟨fun t ⟨late, earliest⟩ => step_own pending arrivals ?_, fun inTime => ⟨fun t ⟨still, earliest⟩ =>
      step_own pending arrivals ?_, fun heard => ⟨fun done => step_own pending arrivals ?_, fun going => ?_⟩⟩⟩
    · rw [own, dueExpiry_limit (find?_train ((limitPassed_iff s t).2 late) fun k lower => (limitPassed_iff s k).not.2 (earliest k lower))]
      rfl
    · rw [own, dueExpiry_inTime inTime,
        find?_train ((silent_iff s t).2 still) fun k lower => (silent_iff s k).not.2 (earliest k lower)]
      rfl
    · rw [own, dueExpiry_none inTime heard, dueCompletion, if_pos done]
      rfl
    · have none_ : ownCommand s = none := by
        rw [own, dueExpiry_none inTime heard, dueCompletion, if_neg going]
        rfl
      have ticks := step_idle pending arrivals none_
      refine ⟨fun still => ticks.trans (congrArg _ (idleTick_still still)), fun st start room =>
        ⟨nextStart st p.workingCopy, fun empty => ?_, fun front last rows => ?_,
          ticks.trans (congrArg _ (idleTick_row start room))⟩⟩
      · rw [empty]
        rfl
      · rw [rows, nextStart, List.getLast?_concat]
        rfl
  · intro b t tank flow heat temperature closed elapsed kwh part item
    exact ⟨rfl, rfl, rfl, rfl, rfl, rfl, rfl, rfl, rfl, rfl, rfl, rfl, rfl, rfl, rfl, rfl, rfl, rfl⟩

end Sys2Proof.Machine
end

/-!
Deposits of heat, and the Heat Credits of the compressors: O44 and O46.
-/
section
namespace Sys2Proof.Machine

/-! ### Placing heat on a stack (R131 to R134) -/

theorem compact_cons (a : Layer) {rest : List Layer} (h : 2 ≤ rest.length) : compact (a :: rest) = a :: compact rest := by
  match rest, h with
  | _ :: _ :: _, _ => rfl

/-- A compaction merges the bottom two layers and leaves those above. -/
theorem compact_concat (front : List Layer) (x y : Layer) : compact (front ++ [x, y]) = front ++ [mergeLayers x y] := by
  induction front with
  | nil => rfl
  | cons a front ih => rw [List.cons_append, compact_cons a (by simp), ih, List.cons_append]

section
variable {b : Nat} {new top : Layer} {rest : List Layer}

theorem placeHeat_pushed (h : top.temperature + b < new.temperature) (room : rest.length < 7) :
    placeHeat b new (top :: rest) = new :: top :: rest := by
  have small : ¬ 8 ≤ (top :: rest).length := by
    rw [List.length_cons]
    omega
  rw [placeHeat, if_pos h, if_neg small]

theorem placeHeat_compacted {front : List Layer} {x y : Layer} (h : top.temperature + b < new.temperature)
    (layers : top :: rest = front ++ [x, y]) (full : rest.length = 7) :
    placeHeat b new (top :: rest) = new :: front ++ [mergeLayers x y] := by
  have large : 8 ≤ (top :: rest).length := by
    rw [List.length_cons]
    omega
  rw [placeHeat, if_pos h, if_pos large, layers, compact_concat]
  rfl

theorem placeHeat_merged (h : new.temperature ≤ top.temperature + b) : placeHeat b new (top :: rest) =
    cascade { top with temperature := (top.temperature * top.energy + new.temperature * new.energy) / (top.energy + new.energy)
                       energy := top.energy + new.energy } rest := by
  rw [placeHeat, if_neg (Nat.not_lt.2 h)]
  rfl

end

theorem cascade_kept {top below : Layer} {rest : List Layer} (h : below.temperature ≤ top.temperature) :
    cascade top (below :: rest) = top :: below :: rest := by
  rw [cascade, if_neg (Nat.not_lt.2 h)]

theorem cascade_merged {top below : Layer} {rest : List Layer} (h : top.temperature < below.temperature) :
    cascade top (below :: rest) = cascade (mergeLayers top below) rest := by
  rw [cascade, if_pos h]

theorem mergeLayers_upper {upper lower : Layer} (h : lower.energy < upper.energy) :
    (mergeLayers upper lower).origin = upper.origin ∧ (mergeLayers upper lower).entry = upper.entry := by
  simp [mergeLayers, h]

theorem mergeLayers_lower {upper lower : Layer} (h : upper.energy ≤ lower.energy) :
    (mergeLayers upper lower).origin = lower.origin ∧ (mergeLayers upper lower).entry = lower.entry := by
  simp [mergeLayers, Nat.not_lt.2 h]

/-! ### A deposit (R128 to R130) -/

theorem PerTank.set_get {α : Type} (p : PerTank α) (tank : Tank) : p.set tank (p.get tank) = p := by
  cases tank <;> rfl

theorem stickyBit_heatSpill (tank : Tank) : stickyBit (.heatSpill tank) = BitVec.ofNat 26 (2 ^ (9 + tankIndex tank)) := rfl

/-- The Spill Total after a spill holds at the largest value of its encoding. -/
def spilled (v : TankState) (mj : Nat) : Nat := min (v.spillTotal + mj) 4294967295

theorem spillHeat_eq (tank : Tank) (mj : Nat) (s : State) : spillHeat tank mj s =
    { s with
      tanks := s.tanks.set tank { s.tank tank with spillTotal := spilled (s.tank tank) mj }
      sticky := s.sticky ||| BitVec.ofNat 26 (2 ^ (9 + tankIndex tank)) } := rfl

/-- A Tank after a deposit: the layers it has then, and what was spilled. -/
def TankState.deposited (v : TankState) (layers : List Layer) (accepted h : Nat) : TankState :=
  { v with layers := layers, spillTotal := if accepted < h then spilled v (h - accepted) else v.spillTotal }

/-- The rest of a deposit that the Tank does not accept is spilled, and the layers are those it has then. -/
theorem deposit_writes (tank : Tank) (accepted h : Nat) (place : List Layer → List Layer) (s : State) :
    (let s2 := if accepted < h then spillHeat tank (h - accepted) s else s
     if accepted = 0 then s2
     else s2.setTank tank { s2.tank tank with layers := place (s2.tank tank).layers }) =
    { s with
      tanks := s.tanks.set tank
        ((s.tank tank).deposited (if accepted = 0 then (s.tank tank).layers else place (s.tank tank).layers) accepted h)
      sticky := if accepted < h then s.sticky ||| BitVec.ofNat 26 (2 ^ (9 + tankIndex tank)) else s.sticky } := by
  dsimp only
  unfold TankState.deposited
  by_cases over_ : accepted < h
  · simp only [if_pos over_]
    rw [spillHeat_eq]
    by_cases none : accepted = 0
    · simp only [if_pos none]
    · simp only [if_neg none]
      unfold State.setTank
      simp only [State.tank, PerTank.get_set, PerTank.set_set]
      rfl
  · simp only [if_neg over_]
    by_cases none : accepted = 0
    · simp only [if_pos none]
      exact (congrArg s.setTanks (PerTank.set_get s.tanks tank)).symm
    · simp only [if_neg none]
      rfl

theorem exec_heatDeposit_oldest {t : Train} {h td : Nat} {tank : Tank} {left : List Raised} {s : State}
    (ho : Oldest (pickDeposit t) s.raised (h, td, tank) left) :
    exec (.heatDeposit t) s = .next (depositHeat t h td tank (s.setRaised left)) :=
  congrArg Host.Outcome.next (handleRaised_oldest ho)

section
variable {t : Train} {h td : Nat} {tank : Tank} {s : State}

theorem depositHeat_none : depositHeat t 0 td tank s = s := if_pos rfl

theorem depositHeat_spilled (some_ : 0 < h) (refused : (s.tank tank).surveyed = false ∨ td ≤ s.loader.heat.tRef) :
    depositHeat t h td tank s = spillHeat tank h s := by
  have turned : (!(s.tank tank).surveyed || decide (td ≤ s.loader.heat.tRef)) = true := by
    rw [Bool.or_eq_true, Bool.not_eq_true', decide_eq_true_iff]
    exact refused
  rw [depositHeat, if_neg (Nat.ne_of_gt some_), if_pos turned]

/-- A deposit that the Tank takes in: the reserved part, the free part, and the layers with what was accepted. -/
theorem depositHeat_accepted (some_ : 0 < h) (surveyed : (s.tank tank).surveyed = true) (hot : s.loader.heat.tRef < td) :
    let parts := depositParts s t tank h
    let accepted := parts.1 + parts.2
    let new : Layer := { temperature := td, energy := accepted, origin := depositOrigin t, entry := s.interval }
    let placed := if accepted = 0 then (s.tank tank).layers else placeHeat s.loader.heat.band new (s.tank tank).layers
    depositHeat t h td tank s =
      { s with
        trains := s.trains.set t { s.train t with reservation := (s.train t).reservation - parts.1 }
        tanks := s.tanks.set tank ((s.tank tank).deposited placed accepted h)
        sticky := if accepted < h then s.sticky ||| BitVec.ofNat 26 (2 ^ (9 + tankIndex tank)) else s.sticky
        raised := s.raised ++
          if standingOf s.loader.heat.tUse placed = standingOf s.loader.heat.tUse (s.tank tank).layers then []
          else [.top tank] } := by
  intro parts accepted new placed
  have taken : ¬ (!(s.tank tank).surveyed || decide (td ≤ s.loader.heat.tRef)) = true := by
    rw [Bool.or_eq_true, Bool.not_eq_true', decide_eq_true_iff, surveyed]
    exact fun either => either.elim (nomatch ·) (Nat.not_le.2 hot)
  rw [depositHeat, if_neg (Nat.ne_of_gt some_), if_neg taken]
  have writes := deposit_writes tank accepted h (placeHeat s.loader.heat.band new)
    (s.setTrain t { s.train t with reservation := (s.train t).reservation - parts.1 })
  refine (congrArg (topNotices s) writes).trans ?_
  exact topNotices_of_set (before := s) (tank := tank) (v := (s.tank tank).deposited placed accepted h) rfl rfl

end

theorem depositOrigin_eq {t : Train} (h : trainKind t = .compressor) :
    depositOrigin t = if t = .k1 then .k1 else if t = .k2 then .k2 else .k3 := by
  cases t <;> first | rfl | nomatch h

/-- Settles O44: deposits taken in, merged, compacted or spilled. -/
theorem depositsAreTakenInOrSpilled : Obligations.DepositsAreTakenInOrSpilled := by
  unfold Obligations.DepositsAreTakenInOrSpilled
  refine ⟨fun t h td tank left s kind ho => ?_, fun b new top rest => ⟨rfl, placeHeat_pushed, fun front x y => placeHeat_compacted,
    placeHeat_merged⟩, fun top below rest => ⟨rfl, cascade_kept, cascade_merged⟩,
    fun upper lower => ⟨rfl, rfl, mergeLayers_upper, mergeLayers_lower⟩⟩
  intro v c taken spill spillBit reservedPart stored freePart accepted founded placed tUse
  have executed := exec_heatDeposit_oldest ho
  refine ⟨fun none => ?_, fun some_ refused => ?_, fun some_ surveyed hot => ?_⟩
  · rw [executed, none, depositHeat_none]
    rfl
  · exact executed.trans (congrArg Host.Outcome.next (depositHeat_spilled some_ refused))
  · have parts : depositParts (s.setRaised left) t tank h = (reservedPart, freePart) := by
      have free : freeEnergy (s.setRaised left) tank = v.capacity - stored - reservedEnergy s.trains tank := by
        rw [freeEnergy, storedEnergy_eq_sum]
        rfl
      rw [depositParts, free]
      rfl
    have accepts := depositHeat_accepted (t := t) (s := s.setRaised left) some_ surveyed hot
    rw [parts, depositOrigin_eq kind] at accepts
    exact executed.trans (congrArg Host.Outcome.next accepts)

/-! ### Heat Credits (R148 to R154) -/

theorem needAt_rate {d : Descriptor} {qk : Nat} (h : d.heatRate = some qk) (w setpoint : Nat) :
    needAt w d setpoint = (setpoint * qk * w + 3599999) / 3600000 * 100 := by
  rw [needAt, h]
  rfl

section
variable {s : State} {t : Train} {state : TrainState} {candidate : Nat}

theorem creditNeedIn_unselected (h : (s.train t).selection = none) : creditNeedIn s t state candidate = 0 := by
  rw [creditNeedIn, h]

theorem creditNeedIn_selected {sel : Selection} (h : (s.train t).selection = some sel) : creditNeedIn s t state candidate =
    if state = .running ∨ state = .unloading then needAt s.loader.creditWindow sel.descriptor candidate
    else if state = .starting then max (needAt s.loader.creditWindow sel.descriptor candidate)
      (needAt s.loader.creditWindow sel.descriptor sel.descriptor.minLoad)
    else 0 := by
  rw [creditNeedIn, h]
  cases state <;> rfl

theorem limitByCredit_rate {sel : Selection} {qk : Nat} (selected : (s.train t).selection = some sel)
    (rate : sel.descriptor.heatRate = some qk) : limitByCredit t candidate s =
    s.setTrain t
      { s.train t with
        setpoint := min candidate ((s.train t).reservation * 36000 / (qk * s.loader.creditWindow))
        creditLimit := decide ((s.train t).reservation * 36000 / (qk * s.loader.creditWindow) < candidate) } := by
  have limit : creditSetpoint s.loader.creditWindow (s.train t).reservation sel.descriptor =
      (s.train t).reservation * 36000 / (qk * s.loader.creditWindow) := by
    rw [creditSetpoint, rate]
  unfold limitByCredit
  dsimp only
  split
  next unselected => nomatch (unselected.symm.trans selected : none = some sel)
  next other found =>
    cases found.symm.trans selected
    rw [limit]

end

/-- Settles O46: Need, grant, partial return and credit limit. -/
theorem creditsAreGrantedReturnedAndLimit : Obligations.CreditsAreGrantedReturnedAndLimit := by
  unfold Obligations.CreditsAreGrantedReturnedAndLimit
  refine ⟨fun t request s kind => ?_, fun s tank => rfl, fun w setpoint qk d rate => ?_, fun s t state candidate kind => ?_,
    fun t need s => ⟨rfl, fun within => ?_⟩⟩
  · intro c v free grant working
    have works : inUse (s.train t).state = true ↔ working := inUse_iff _
    refine ⟨fun busy => ?_, fun rests => congrArg Host.Outcome.next (if_neg fun both => rests (works.1 both.2))⟩
    have size : grantSize s t request = grant := by
      rw [grantSize, freeEnergy, storedEnergy_eq_sum]
      rfl
    refine congrArg Host.Outcome.next ((if_pos ⟨kind, works.2 busy⟩).trans ?_)
    rw [grantCredit, size]
    rfl
  · intro need
    have at_ : need = (setpoint * qk * w + 3599999) / 3600000 * 100 := needAt_rate rate w setpoint
    generalize setpoint * qk * w = amount at at_ ⊢
    clear_value need
    refine ⟨by omega, by omega, fun m whole enough => by omega⟩
  · intro c need
    refine ⟨rfl, creditNeedIn_unselected, fun sel selected => ?_⟩
    intro at_
    have needed : need = if state = .running ∨ state = .unloading then at_ candidate
        else if state = .starting then max (at_ candidate) (at_ sel.descriptor.minLoad) else 0 := creditNeedIn_selected selected
    refine ⟨fun loaded => needed.trans (if_pos loaded), fun starting => ?_, fun rests => ?_, fun qk rate =>
      limitByCredit_rate selected rate⟩
    · rw [needed, starting]
      rfl
    · rw [needed]
      obtain rfl | rfl | rfl | rfl := rests <;> rfl
  · constructor <;> omega

end Sys2Proof.Machine
end

/-!
The close of an interval, and the formation of a Setpoint at a report: O51 and O47.
-/
section
namespace Sys2Proof.Machine

/-! ### The close of an interval (R198) -/

/-- A signed energy in kWh: the magnitude rounded half up, the sign kept. -/
theorem kwhOf_rounds (x : Int) : 72000 * (kwhOf x).natAbs ≤ 2 * x.natAbs + 36000 ∧
    2 * x.natAbs < 72000 * (kwhOf x).natAbs + 36000 ∧ (0 ≤ x → 0 ≤ kwhOf x) ∧ (x ≤ 0 → kwhOf x ≤ 0) := by
  unfold kwhOf roundSigned roundHalfUp
  split <;> refine ⟨?_, ?_, ?_, ?_⟩ <;> omega

theorem holdEnergy_eq (x : Int) : holdEnergy x = max (-9000000000000000) (min 9000000000000000 x) :=
  holdInt_eq (by decide) x

/-- What the close of an interval hands to its evaluation. -/
theorem closeInterval_eq (b : Boundary) (s : State) : closeInterval b s = evaluate
    { s with
      dispatcher := { s.dispatcher with
                      delivered := 0, scheduled := 0, scheduledMark := s.tables.millis, openInterval := b.newInterval }
      tables := { s.tables with outages := s.tables.outages.filter fun o => decide (b.newInterval ≤ o.last) }
      raised := s.raised ++ .imbalance s.dispatcher.openInterval
          (kwhOf s.dispatcher.delivered - kwhOf (holdEnergy (s.dispatcher.scheduled +
            s.dispatcher.scheduleValue * ((s.tables.millis - s.dispatcher.scheduledMark : Nat) : Int)))) ::
        (allTrains.filter fun t => s.tables.outages.any fun o => decide (o.train = t ∧ o.last < b.newInterval)).map .train } := by
  have live (o : Outage) : (!o.expired b.newInterval) = decide (b.newInterval ≤ o.last) := by
    rw [Outage.expired, ← decide_not, decide_eq_decide]
    exact Nat.not_lt
  have lost (t : Train) (o : Outage) :
      (decide (o.train = t) && o.expired b.newInterval) = decide (o.train = t ∧ o.last < b.newInterval) := by
    rw [Outage.expired, Bool.decide_and]
  simp only [closeInterval, removeExpired, live, lost, closeSegment, onDispatcher, noticeTrains, raiseAll, raise,
    State.setRaised, State.setDispatcher, State.setTables, List.append_assoc, List.singleton_append]

theorem exec_intervalClose_oldest {b : Boundary} {left : List Raised} {s : State}
    (h : Oldest (pickBoundary .dispatcher) s.raised b left) :
    exec .intervalClose s = .next (closeInterval b (s.setRaised left)) :=
  congrArg Host.Outcome.next (handleRaised_oldest h)

/-- Settles O51: INTERVAL_CLOSE delivers the imbalance and opens the New Interval. -/
theorem anIntervalClosesWithItsImbalance : Obligations.AnIntervalClosesWithItsImbalance := by
  unfold Obligations.AnIntervalClosesWithItsImbalance
  intro b left s ho d segment scheduled lost
  have held : holdEnergy (d.scheduled + segment) = scheduled := holdEnergy_eq _
  refine ⟨kwhOf d.delivered, kwhOf scheduled, fun kwh x either => ?_, ?_⟩
  · obtain ⟨rfl, rfl⟩ | ⟨rfl, rfl⟩ := either <;> exact kwhOf_rounds _
  · rw [exec_intervalClose_oldest ho, closeInterval_eq, ← held]
    rfl

/-! ### What a formation reads (R192) -/

theorem bandStops_iff (b : Band) (t : Train) : bandStops b (trainKind t) = true ↔
    (b = .lowLimit ∧ trainKind t = .expander) ∨ (b = .highLimit ∧ trainKind t = .compressor) := by
  generalize trainKind t = k
  cases b <;> cases k <;> decide

theorem bandWarns_iff (b : Band) (t : Train) : bandWarns b (trainKind t) = true ↔
    (b = .lowWarn ∧ trainKind t = .expander) ∨ (b = .highWarn ∧ trainKind t = .compressor) := by
  generalize trainKind t = k
  cases b <;> cases k <;> decide

theorem aimOf_eq (mode : Mode) (state : TrainState) (c : TrainContext) (d : Descriptor) : aimOf mode state c d =
    if state = .starting then d.minLoad
    else if state = .running ∧ c.released = false ∧ mode = .dispatching then c.share else 0 := by
  cases state <;> simp [aimOf]

theorem afterRamp_eq (state : TrainState) (d : Descriptor) (elapsed present aim : Nat) : afterRamp state d elapsed present aim =
    if state = .starting then aim
    else if present < aim then min aim (present + d.rampUp * elapsed / 1000)
    else max aim (present - d.rampDown * elapsed / 1000) := by
  cases state <;> rfl

section
variable {s : State} {t : Train} {state : TrainState} {elapsed : Nat}

theorem candidateSetpoint_none (h : ¬ inUse state = true ∨ (s.train t).selection = none) :
    candidateSetpoint s t state elapsed = 0 := by
  unfold candidateSetpoint
  dsimp only
  split
  · rfl
  next sel selected =>
    exact if_neg (h.resolve_right fun none => nomatch (none.symm.trans selected : Option.none = some sel))

/-- The value of steps 1 to 3 of R192. -/
def limitedSetpoint (s : State) (t : Train) (state : TrainState) (elapsed : Nat) (d : Descriptor) : Nat :=
  min (afterRamp state d elapsed (s.train t).setpoint (aimOf s.dispatcher.mode state (s.train t) d)) (trainLimit s t)

section
variable {sel : Selection} (work : inUse state = true) (selected : (s.train t).selection = some sel)
include work selected

theorem candidateSetpoint_selected : candidateSetpoint s t state elapsed =
    if (s.train t).setpoint = 0 ∧ kindHolds s (otherKind (trainKind t)) = true then 0
    else afterBand s.cavern.band (trainKind t) (s.train t).setpoint (limitedSetpoint s t state elapsed sel.descriptor) := by
  unfold candidateSetpoint
  dsimp only
  split
  next none => nomatch (none.symm.trans selected : Option.none = some sel)
  next other found =>
    cases found.symm.trans selected
    exact if_pos work

end

end

theorem afterBand_stopped {b : Band} {k : TrainKind} {present v : Nat} (h : bandStops b k = true) :
    afterBand b k present v = 0 := if_pos h

theorem afterBand_warned {b : Band} {k : TrainKind} {present v : Nat} (h : bandWarns b k = true) :
    afterBand b k present v = min v present := by
  rw [afterBand, if_neg (not_bandStops_of_bandWarns h), if_pos h]

theorem afterBand_free {b : Band} {k : TrainKind} {present v : Nat} (stops : ¬ bandStops b k = true)
    (warns : ¬ bandWarns b k = true) : afterBand b k present v = v := by
  rw [afterBand, if_neg stops, if_neg warns]

/-! ### What a formation writes -/

/-- An operation that writes the context of one train and nothing else. -/
def WritesTrain (t : Train) (s s' : State) : Prop := s' = s.setTrain t (s'.train t)

theorem State.setTrain_setTrain (s : State) (t : Train) (a b : TrainContext) : (s.setTrain t a).setTrain t b = s.setTrain t b := by
  rw [State.setTrain, State.setTrain, State.setTrain]
  exact congrArg s.setTrains (PerTrain.set_set ..)

theorem writesTrain_setTrain (t : Train) (c : TrainContext) (s : State) : WritesTrain t s (s.setTrain t c) := by
  unfold WritesTrain
  rw [State.train_setTrain]

theorem WritesTrain.refl (t : Train) (s : State) : WritesTrain t s s :=
  (congrArg s.setTrains (PerTrain.set_get_self s.trains t)).symm

theorem WritesTrain.trans {t : Train} {s s' s'' : State} (h : WritesTrain t s s') (k : WritesTrain t s' s'') :
    WritesTrain t s s'' := by
  unfold WritesTrain at h k ⊢
  rw [h, State.setTrain_setTrain] at k
  exact k

theorem writesTrain_limitByCredit (t : Train) (v : Nat) (s : State) : WritesTrain t s (limitByCredit t v s) := by
  unfold limitByCredit
  dsimp only
  split <;> exact writesTrain_setTrain ..

theorem writesTrain_settleCredit (t : Train) (need : Nat) (s : State) : WritesTrain t s (settleCredit t need s) := by
  unfold settleCredit
  split <;> exact writesTrain_setTrain ..

theorem writesTrain_writeFormed (t : Train) (state : TrainState) (v : Nat) (s : State) :
    WritesTrain t s (writeFormed t state v s) := by
  unfold writeFormed
  split
  · exact writesTrain_setTrain ..
  · split
    · exact (writesTrain_settleCredit ..).trans (writesTrain_limitByCredit ..)
    · exact writesTrain_setTrain ..

theorem writesTrain_unloadBelowMin (t : Train) (s : State) : WritesTrain t s (unloadBelowMin t s) := by
  unfold unloadBelowMin
  dsimp only
  split
  · exact .refl t s
  · split
    · exact writesTrain_setTrain ..
    · exact .refl t s

section
variable {t : Train} {state : TrainState} {candidate : Nat} {s : State}

theorem writeFormed_plain (h : trainKind t = .expander ∨ ¬ inUse state = true) :
    (writeFormed t state candidate s).train t = { s.train t with setpoint := candidate } := by
  have written : writeFormed t state candidate s = onTrain t (fun c => { c with setpoint := candidate }) s := by
    unfold writeFormed
    split
    · rfl
    next compressor =>
      exact if_neg (h.resolve_left fun expander => nomatch (expander.symm.trans compressor : TrainKind.expander = .compressor))
  rw [written, onTrain, State.train_setTrain]

section
variable (kind : trainKind t = .compressor) (work : inUse state = true)
include kind work

theorem writeFormed_compressor : writeFormed t state candidate s =
    limitByCredit t candidate (settleCredit t (creditNeedIn s t state candidate) s) := by
  rw [writeFormed, kind]
  exact if_pos work

omit kind work in
theorem limitByCredit_unselected (h : (s.train t).selection = none) : limitByCredit t candidate s =
    s.setTrain t { s.train t with setpoint := candidate, creditLimit := false } := by
  unfold limitByCredit
  dsimp only
  split
  · rfl
  next sel selected => nomatch (h.symm.trans selected : none = some sel)

theorem writeFormed_unselected (selected : (s.train t).selection = none) : (writeFormed t state candidate s).train t =
    { s.train t with
      setpoint := candidate, reservation := (s.train t).reservation % 100, creditLimit := false } := by
  have settled : settleCredit t 0 s = s.setTrain t { s.train t with reservation := (s.train t).reservation % 100 } :=
    (if_neg (Nat.not_lt_zero _)).trans (partialReturn_all t s)
  rw [writeFormed_compressor kind work, creditNeedIn_unselected selected, settled,
    limitByCredit_unselected (by rw [State.train_setTrain]; exact selected), State.train_setTrain, State.train_setTrain]

/-- The Reservation a compressor has once its credits are settled to a Need. -/
def settledReservation (s : State) (t : Train) (need : Nat) : Nat :=
  if (s.train t).reservation < need then
    (s.train t).reservation + grantSize s t ((need - (s.train t).reservation + 99) / 100 * 100)
  else (s.train t).reservation - ((s.train t).reservation - need) / 100 * 100

omit kind work in
theorem settleCredit_eq (need : Nat) : settleCredit t need s =
    s.setTrain t { s.train t with reservation := settledReservation s t need } := by
  unfold settleCredit settledReservation
  split <;> rfl

theorem writeFormed_selected {sel : Selection} {qk : Nat} (selected : (s.train t).selection = some sel)
    (rate : sel.descriptor.heatRate = some qk) : (writeFormed t state candidate s).train t =
    (let reservation := settledReservation s t (creditNeedIn s t state candidate)
     let limit := reservation * 36000 / (qk * s.loader.creditWindow)
     { s.train t with
       reservation := reservation, setpoint := min candidate limit, creditLimit := decide (limit < candidate) }) := by
  rw [writeFormed_compressor kind work, settleCredit_eq,
    limitByCredit_rate (by rw [State.train_setTrain]; exact selected) rate, State.train_setTrain, State.train_setTrain]
  rfl

end

/-- A formation keeps its train's context but for the Setpoint, the Reservation and the credit limit. -/
theorem writeFormed_train (t : Train) (state : TrainState) (candidate : Nat) (s : State) :
    (writeFormed t state candidate s).train t = (s.train t).settled ((writeFormed t state candidate s).train t) := by
  unfold writeFormed
  split
  · simp [onTrain, TrainContext.settled]
  · split
    · rw [settleCredit_eq]
      unfold limitByCredit
      dsimp only
      split <;> simp [TrainContext.settled]
    · simp [onTrain, TrainContext.settled]

end

/-- The order that answers a report, from the state in which the Setpoint is formed. -/
def answeringOrder (t : Train) (stopped : Bool) (s : State) : Order :=
  formOrder t (if stopped then .stop else commandFor s.dispatcher.mode (s.train t).state (s.train t).setpoint) s

theorem orderAsStanding_eq (t : Train) (stopped : Bool) (s : State) :
    orderAsStanding t stopped s = issueOrder t (answeringOrder t stopped s) s := rfl

theorem formOrder_setpoint (t : Train) (command : OrderCommand) (s : State) :
    (formOrder t command s).setpoint = if command = .stop then 0 else (s.train t).setpoint := by
  cases command <;> rfl

/-- A formation with its order: the context formed, and the order put on the train's link. -/
theorem formSetpoint_eq (t : Train) (left : TrainState) (elapsed : Nat) (s : State) :
    let state := formationState left (s.train t).state
    let k := unloadBelowMin t (writeFormed t state (candidateSetpoint s t state elapsed) s)
    formSetpoint t left elapsed s =
      issueOrder t (answeringOrder t (answeredStop s t (s.train t).setpoint (k.train t).setpoint) k) (s.setTrain t (k.train t)) := by
  intro state k
  have writes : WritesTrain t s k := (writesTrain_writeFormed ..).trans (writesTrain_unloadBelowMin ..)
  exact congrArg (issueOrder t _) writes

/-! ### The Dispatcher's handling of a report (R185, R192, R197) -/

theorem exec_setpointFormation_oldest {t : Train} {part : ReportPart} {left : List Raised} {s : State}
    (h : Oldest (pickFormation t) s.raised part left) :
    exec (.setpointFormation t) s = .next (handleReport t part (s.setRaised left)) :=
  congrArg Host.Outcome.next (handleRaised_oldest h)

/-- The state in which the Setpoint of a report is formed: the event is taken, and its energy is in Delivered. -/
def reportAdded (t : Train) (part : ReportPart) (left : List Raised) (s : State) : State :=
  addDelivered t part.power part.elapsed (s.setRaised left)

theorem reportAdded_eq (t : Train) (part : ReportPart) (left : List Raised) (s : State) : reportAdded t part left s =
    { s with
      raised := left
      dispatcher := { s.dispatcher with
        delivered := max (-9000000000000000) (min 9000000000000000 (s.dispatcher.delivered +
          if trainKind t = .expander then ((part.power * part.elapsed : Nat) : Int)
          else -((part.power * part.elapsed : Nat) : Int))) } } := by
  have energy : reportEnergy t part.power part.elapsed = if trainKind t = .expander then ((part.power * part.elapsed : Nat) : Int)
      else -((part.power * part.elapsed : Nat) : Int) := by
    rw [reportEnergy]
    cases trainKind t <;> rfl
  rw [reportAdded, addDelivered, energy]
  simp only [onDispatcher, holdEnergy_eq]
  rfl

theorem writeFormed_keeps (t : Train) (state : TrainState) (candidate : Nat) (s : State) :
    ((writeFormed t state candidate s).train t).state = (s.train t).state ∧
    ((writeFormed t state candidate s).train t).selection = (s.train t).selection ∧
    ((writeFormed t state candidate s).train t).boundTank = (s.train t).boundTank := by
  rw [writeFormed_train]
  exact ⟨rfl, rfl, rfl⟩

/-- The context formed at a report: a RUNNING train below its min load unloads. -/
theorem formed_cases (t : Train) (state : TrainState) (candidate : Nat) (s : State) :
    let written := (writeFormed t state candidate s).train t
    let formed := (unloadBelowMin t (writeFormed t state candidate s)).train t
    let unloads := (s.train t).state = .running ∧
      ∃ sel, (s.train t).selection = some sel ∧ written.setpoint < sel.descriptor.minLoad
    (unloads → formed = { written with state := .unloading, startTimer := none, released := false }) ∧
    (¬ unloads → formed = written) := by
  intro written formed unloads
  have same : UnloadsBelowMin written written.setpoint ↔ unloads := by
    obtain ⟨state, selection, -⟩ := writeFormed_keeps t state candidate s
    rw [UnloadsBelowMin, state, selection]
  refine ⟨fun below => ?_, fun above => ?_⟩
  · show (unloadBelowMin t (writeFormed t state candidate s)).train t = _
    rw [unloadBelowMin_unloads (same.2 below), State.train_setTrain]
    rfl
  · show (unloadBelowMin t (writeFormed t state candidate s)).train t = _
    rw [unloadBelowMin_stays (same.not.2 above)]

theorem answeredStop_iff (s : State) (t : Train) (before after : Nat) : answeredStop s t before after = true ↔
    inUse (s.train t).state = true ∧ ((0 < before ∧ after = 0) ∨ bandStops s.cavern.band (trainKind t) = true) := by
  simp only [answeredStop, Bool.and_eq_true, Bool.or_eq_true, decide_eq_true_iff]

theorem orderTemperature_compressor {s : State} {t : Train} (h : trainKind t = .compressor) : orderTemperature s t = 0 := by
  rw [orderTemperature, h]

theorem orderTemperature_top {s : State} {t : Train} (h : trainKind t = .expander) {top : Layer} {rest : List Layer}
    (layers : (s.tank (s.train t).boundTank).layers = top :: rest) : orderTemperature s t = top.temperature := by
  rw [orderTemperature, h, layers]
  rfl

theorem orderTemperature_empty {s : State} {t : Train} (layers : (s.tank (s.train t).boundTank).layers = []) :
    orderTemperature s t = 0 := by
  rw [orderTemperature, layers]
  cases trainKind t <;> rfl

theorem orderTemperature_setTrain {s : State} {t : Train} {c : TrainContext} (bound : c.boundTank = (s.train t).boundTank) :
    orderTemperature (s.setTrain t c) t = orderTemperature s t := by
  unfold orderTemperature
  rw [State.train_setTrain, bound]
  rfl

/-- Settles O47: a Setpoint formed at a report, its credits, its order and the evaluation. -/
theorem aSetpointIsFormedAtEachReport : Obligations.ASetpointIsFormedAtEachReport := by
  unfold Obligations.ASetpointIsFormedAtEachReport
  refine ⟨fun t part left s ho => ?_, fun state setpoint => ?_, fun s t =>
    ⟨orderTemperature_compressor, fun kind top rest => orderTemperature_top kind, orderTemperature_empty⟩⟩
  · intro c d amount energy working state stops warns otherHolds
    have works (x : TrainState) : inUse x = true ↔ working x := inUse_iff x
    have isStop : bandStops s.cavern.band (trainKind t) = true ↔ stops := bandStops_iff ..
    have isWarn : bandWarns s.cavern.band (trainKind t) = true ↔ warns := bandWarns_iff ..
    have others : kindHolds s (otherKind (trainKind t)) = true ↔ otherHolds := kindHolds_otherKind_iff s t
    let r := reportAdded t part left s
    let candidate := candidateSetpoint r t state part.elapsed
    let written := (writeFormed t state candidate r).train t
    let formed := (unloadBelowMin t (writeFormed t state candidate r)).train t
    have writes : unloadBelowMin t (writeFormed t state candidate r) = r.setTrain t formed :=
      (writesTrain_writeFormed ..).trans (writesTrain_unloadBelowMin ..)
    have cases_ := formed_cases t state candidate r
    have bound : formed.boundTank = c.boundTank := by
      by_cases unloads : c.state = .running ∧ ∃ sel, c.selection = some sel ∧ written.setpoint < sel.descriptor.minLoad
      · rw [show formed = _ from cases_.1 unloads]
        exact (writeFormed_keeps t state candidate r).2.2
      · rw [show formed = _ from cases_.2 unloads]
        exact (writeFormed_keeps t state candidate r).2.2
    have executed : exec (.setpointFormation t) s = .next (evaluate (issueOrder t
        (answeringOrder t (answeredStop r t c.setpoint formed.setpoint) (r.setTrain t formed)) (r.setTrain t formed))) := by
      rw [exec_setpointFormation_oldest ho]
      have forms : formSetpoint t part.left part.elapsed r = _ := formSetpoint_eq t part.left part.elapsed r
      refine congrArg (fun k => Host.Outcome.next (evaluate k)) (forms.trans ?_)
      exact congrArg (fun k => issueOrder t (answeringOrder t (answeredStop r t c.setpoint formed.setpoint) k) (r.setTrain t formed))
        writes
    have answered : answeredStop r t c.setpoint formed.setpoint = true ↔
        working c.state ∧ ((0 < c.setpoint ∧ formed.setpoint = 0) ∨ stops) := by
      rw [answeredStop_iff, ← works, ← isStop]
      exact Iff.rfl
    have after : (r.setTrain t formed).train t = formed := State.train_setTrain ..
    refine ⟨candidate, written, formed,
      answeringOrder t (answeredStop r t c.setpoint formed.setpoint) (r.setTrain t formed), ?_, works c.state, fun rests => ?_,
      fun work sel selected => ?_, fun plain => ?_, fun compressor work => ⟨fun unselected => ?_, fun sel qk selected rate => ?_⟩,
      cases_, ?_, ?_, ?_⟩
    · rw [executed]
      refine congrArg (fun k => Host.Outcome.next (evaluate k)) ?_
      have added : r = _ := reportAdded_eq t part left s
      generalize answeringOrder t _ _ = o
      clear_value formed r
      rw [added]
      rfl
    · exact candidateSetpoint_none (s := r) (rests.imp_left fun no => (works state).not.2 no)
    · intro e aim rampedTo limited
      have like : SameTrain t s r := ⟨rfl, rfl, rfl, rfl, rfl, rfl, rfl, rfl⟩
      have limits : limitedSetpoint r t state part.elapsed e = limited := by
        rw [limitedSetpoint, afterRamp_eq, aimOf_eq, like.trainLimit]
        rfl
      have chosen : candidate = if c.setpoint = 0 ∧ kindHolds s (otherKind (trainKind t)) = true then 0
          else afterBand s.cavern.band (trainKind t) c.setpoint limited := by
        rw [← limits]
        exact candidateSetpoint_selected (s := r) ((works state).2 work) selected
      rw [chosen]
      refine ⟨fun zero other => if_pos ⟨zero, others.2 other⟩, fun free => ?_⟩
      rw [if_neg fun both => free ⟨both.1, others.1 both.2⟩]
      exact ⟨fun stop => afterBand_stopped (isStop.2 stop), fun warn => afterBand_warned (isWarn.2 warn),
        fun stop warn => afterBand_free (isStop.not.2 stop) (isWarn.not.2 warn)⟩
    · exact writeFormed_plain (plain.imp_right fun no => (works state).not.2 no)
    · have none : candidate = 0 := candidateSetpoint_none (s := r) (.inr unselected)
      show (writeFormed t state candidate r).train t = _
      rw [none]
      exact writeFormed_unselected (s := r) compressor ((works state).2 work) unselected
    · exact writeFormed_selected (s := r) compressor ((works state).2 work) selected rate
    · show (if _ then _ else commandFor _ ((r.setTrain t formed).train t).state ((r.setTrain t formed).train t).setpoint) = _
      rw [after]
      by_cases stop : working c.state ∧ ((0 < c.setpoint ∧ formed.setpoint = 0) ∨ stops)
      · rw [if_pos (answered.2 stop), if_pos stop]
      · rw [if_neg (answered.not.2 stop), if_neg stop]
        rfl
    · rw [answeringOrder, formOrder_setpoint, after]
      rfl
    · exact orderTemperature_setTrain bound
  · intro command driven atRest
    refine ⟨?_, ?_, ?_, ?_, ?_, ?_⟩
    · rintro rfl
      exact ⟨⟨rfl, rfl⟩, rfl, rfl⟩
    · rintro rfl
      exact ⟨⟨rfl, rfl⟩, rfl, rfl⟩
    · rintro rfl some_
      have nonzero := Nat.ne_of_gt some_
      exact ⟨⟨if_neg nonzero, if_neg nonzero⟩, if_neg nonzero, if_neg nonzero⟩
    · rintro rfl rfl
      exact ⟨⟨rfl, rfl⟩, rfl, rfl⟩
    · rintro rfl
      exact ⟨⟨rfl, rfl⟩, rfl, rfl⟩
    · rintro (rfl | rfl | rfl) <;> exact ⟨⟨rfl, rfl⟩, rfl, rfl⟩

end Sys2Proof.Machine
end

/-!
The decisions of an evaluation, and what they leave of each train: O49.
-/
section
namespace Sys2Proof.Machine

/-! ### What the decisions read -/

/-- The Tanks, the tables, the Plant Constants, the Cavern Account and the Clock stay. -/
structure SameGround (s k : State) : Prop where
  tanks : k.tanks = s.tanks
  tables : k.tables = s.tables
  loader : k.loader = s.loader
  cavern : k.cavern = s.cavern
  clock : k.clock = s.clock

section
variable {s k r : State}

theorem SameGround.refl (s : State) : SameGround s s := ⟨rfl, rfl, rfl, rfl, rfl⟩

theorem SameGround.trans (h : SameGround s k) (h' : SameGround k r) : SameGround s r :=
  ⟨h'.tanks.trans h.tanks, h'.tables.trans h.tables, h'.loader.trans h.loader, h'.cavern.trans h.cavern,
   h'.clock.trans h.clock⟩

/-- A train with its selection and its Bound Tank kept has its Train Limit still. -/
theorem SameGround.trainLimit (g : SameGround s k) {t : Train} (selection : (k.train t).selection = (s.train t).selection)
    (bound : (k.train t).boundTank = (s.train t).boundTank) : Machine.trainLimit k t = Machine.trainLimit s t := by
  have top : topStanding k (s.train t).boundTank = topStanding s (s.train t).boundTank := by
    simp [topStanding, State.tank, g.tanks, g.loader]
  have now : k.interval = s.interval := by simp [State.interval, g.clock]
  unfold Machine.trainLimit currentLimit
  rw [selection, bound, g.tables, top, now]

theorem SameGround.startRequest (g : SameGround s k) (t : Train) (d : Descriptor) :
    Machine.startRequest k t d = Machine.startRequest s t d := by
  unfold Machine.startRequest
  rw [g.loader]

theorem SameGround.orderTemperature (g : SameGround s k) {t : Train} (bound : (k.train t).boundTank = (s.train t).boundTank) :
    Machine.orderTemperature k t = Machine.orderTemperature s t := by
  simp [Machine.orderTemperature, bound, State.tank, g.tanks]

theorem SameGround.now (g : SameGround s k) : k.now = s.now := by
  simp [State.now, State.interval, g.clock]

end

theorem sameGround_stopDecisions (k : TrainKind) (n : Nat) (s : State) : SameGround s (stopDecisions k n s) :=
  ⟨by simp, by simp, by simp, by simp, by simp⟩

theorem sameGround_decidedState (s : State) : SameGround s (decidedState s) :=
  ⟨by simp [decidedState], by simp [decidedState], by simp [decidedState], by simp [decidedState], by simp [decidedState]⟩

theorem sameGround_evaluate (s : State) : SameGround s (evaluate s) := ⟨by simp, by simp, by simp, by simp, by simp⟩

/-! ### One stop decision, one start decision -/

theorem eldest_mem {s : State} {those : List Train} {t : Train} (h : eldest s those = some t) : t ∈ those := by
  induction those generalizing t with
  | nil => cases h
  | cons a rest ih =>
    unfold eldest at h
    split at h
    · cases h
      exact List.mem_cons_self
    · next u found =>
      split at h <;> cases h
      · exact List.mem_cons_of_mem _ (ih found)
      · exact List.mem_cons_self

theorem mem_runningSet_iff {s : State} {k : TrainKind} {t : Train} : t ∈ runningSet s k ↔
    trainKind t = k ∧ ((s.train t).state = .starting ∨ (s.train t).state = .running) ∧ (s.train t).released = false := by
  simp only [runningSet, List.mem_filter, mem_trainsOf, atWork_eq, Bool.and_eq_true, decide_eq_true_iff, Bool.not_eq_true']

/-- The state after a stop decision: the train is released. -/
def releaseTrain (t : Train) (s : State) : State := onTrain t (fun c => { c with released := true }) s

theorem stopDecisions_released {k : TrainKind} {s : State} {t : Train} (h : eldest s (runningSet s k) = some t)
    (enough : s.dispatcher.target.natAbs ≤ (runningSum s k - trainLimit s t) * 9 / 10) (n : Nat) :
    stopDecisions k (n + 1) s = stopDecisions k n (releaseTrain t s) := by
  rw [stopDecisions, h]
  exact if_pos enough

theorem stopDecisions_kept {k : TrainKind} {s : State}
    (h : ∀ t, eldest s (runningSet s k) = some t → (runningSum s k - trainLimit s t) * 9 / 10 < s.dispatcher.target.natAbs)
    (n : Nat) : stopDecisions k n s = s := by
  cases n with
  | zero => rfl
  | succ n =>
    unfold stopDecisions
    split
    · rfl
    · next t found => exact if_neg (Nat.not_le.2 (h t found))

/-- The state after a start decision: the train is started, and the Pointer stands behind its phase. -/
def startFrom (k : TrainKind) (phase : Nat) (t : Train) (d : Descriptor) (s : State) : State :=
  onDispatcher (fun p => p.setRotation k { s.dispatcher.rotation k with pointer := (phase + 1) % 12 }) (startTrain t d s)

theorem startDecisions_started {k : TrainKind} {s : State} {phase : Nat} {t : Train} {d : Descriptor}
    (short : runningSum s k < s.dispatcher.target.natAbs)
    (found : firstStartable s (deploymentDriven s k) (s.dispatcher.rotation k).walk = some (phase, t, d)) (n : Nat) :
    startDecisions k (n + 1) s = startDecisions k n (startFrom k phase t d s) := by
  rw [startDecisions, if_pos short]
  dsimp only
  rw [found]
  rfl

theorem startDecisions_kept {k : TrainKind} {s : State}
    (h : runningSum s k < s.dispatcher.target.natAbs →
      firstStartable s (deploymentDriven s k) (s.dispatcher.rotation k).walk = none) (n : Nat) :
    startDecisions k n s = s := by
  cases n with
  | zero => rfl
  | succ n =>
    rw [startDecisions]
    by_cases short : runningSum s k < s.dispatcher.target.natAbs
    · rw [if_pos short]
      dsimp only
      rw [h short]
    · exact if_neg short

theorem startFrom_rotation (k : TrainKind) (phase : Nat) (t : Train) (d : Descriptor) (s : State) :
    (startFrom k phase t d s).dispatcher.rotation k = { s.dispatcher.rotation k with pointer := (phase + 1) % 12 } := by
  cases k <;> rfl

theorem startFrom_train (k : TrainKind) (phase : Nat) (t : Train) (d : Descriptor) (s : State) :
    (startFrom k phase t d s).train t = startedContext s t d := startTrain_train t d s

/-- The START order carries the min load and the top temperature. -/
theorem formOrder_started (t : Train) (d : Descriptor) (s : State) :
    formOrder t .start (s.setTrain t (startedContext s t d)) =
      { command := .start, setpoint := d.minLoad, topTemperature := orderTemperature s t } := by
  have temperature : orderTemperature (s.setTrain t (startedContext s t d)) t = orderTemperature s t :=
    orderTemperature_setTrain rfl
  show ({ command := .start, setpoint := ((s.setTrain t (startedContext s t d)).train t).setpoint
          topTemperature := orderTemperature (s.setTrain t (startedContext s t d)) t } : Order) = _
  rw [temperature, State.train_setTrain]
  rfl

theorem startFrom_eq (k : TrainKind) (phase : Nat) (t : Train) (d : Descriptor) (s : State) :
    startFrom k phase t d s = { s with
      dispatcher := s.dispatcher.setRotation k { s.dispatcher.rotation k with pointer := (phase + 1) % 12 }
      trains := s.trains.set t (startedContext s t d)
      trainLinks := s.trainLinks.set t ((s.trainLinks.get t).issue
        { command := .start, setpoint := d.minLoad, topTemperature := orderTemperature s t }) } := by
  rw [← formOrder_started]
  rfl

theorem startFrom_link (k : TrainKind) (phase : Nat) (t : Train) (d : Descriptor) (s : State) :
    (startFrom k phase t d s).trainLinks.get t = (s.trainLinks.get t).issue
      { command := .start, setpoint := d.minLoad, topTemperature := orderTemperature s t } := by
  rw [startFrom_eq]
  exact PerTrain.get_set ..

theorem startFrom_other (k : TrainKind) (phase : Nat) {t u : Train} (h : u ≠ t) (d : Descriptor) (s : State) :
    (startFrom k phase t d s).train u = s.train u ∧ (startFrom k phase t d s).trainLinks.get u = s.trainLinks.get u := by
  have set := SameTrain.setTrain_other h s (startedContext s t d)
  have issued := SameTrain.issueOrder_other h (s.setTrain t (startedContext s t d))
    (formOrder t .start (s.setTrain t (startedContext s t d)))
  exact ⟨issued.train.trans set.train, issued.link.trans set.link⟩

theorem sameGround_startFrom (k : TrainKind) (phase : Nat) (t : Train) (d : Descriptor) (s : State) :
    SameGround s (startFrom k phase t d s) := ⟨rfl, rfl, rfl, rfl, rfl⟩

/-! ### A train the decisions do not start -/

/-- A train keeps its context but for the Share and the Released flag, and its link; a READY train is not released. -/
structure Stays (s k : State) (t : Train) : Prop where
  context : k.train t = { s.train t with share := (k.train t).share, released := (k.train t).released }
  link : k.trainLinks.get t = s.trainLinks.get t
  ready : (s.train t).state = .ready → (k.train t).released = (s.train t).released

section
variable {s k r : State} {t : Train}

theorem Stays.state (h : Stays s k t) : (k.train t).state = (s.train t).state := by rw [h.context]

theorem Stays.of_eq (train : k.train t = s.train t) (link : k.trainLinks.get t = s.trainLinks.get t) : Stays s k t :=
  ⟨by rw [train], link, fun _ => by rw [train]⟩

theorem Stays.trans (h : Stays s k t) (h' : Stays k r t) : Stays s r t where
  context := by
    rw [h'.context, h.context]
  link := h'.link.trans h.link
  ready ready := (h'.ready (h.state.trans ready)).trans (h.ready ready)

theorem Stays.writeShares (h : Stays s k t) (shares : List (Train × Nat)) : Stays s (writeShares shares k) t := by
  refine h.trans ⟨?_, by simp, fun _ => ?_⟩ <;> rw [writeShares_train]

end

theorem stays_releaseTrain {s : State} {u : Train} (h : (s.train u).state ≠ .ready) (t : Train) :
    Stays s (releaseTrain u s) t := by
  by_cases same : t = u
  · rw [same]
    exact ⟨by simp [releaseTrain, onTrain], rfl, fun ready => absurd ready h⟩
  · have other := SameTrain.setTrain_other same s { s.train u with released := true }
    exact .of_eq other.train other.link

theorem stays_stopDecisions (k : TrainKind) (n : Nat) (s : State) (t : Train) : Stays s (stopDecisions k n s) t := by
  induction n generalizing s with
  | zero => exact .of_eq rfl rfl
  | succ n ih =>
    unfold stopDecisions
    split
    · exact .of_eq rfl rfl
    · next u found =>
      split
      · obtain ⟨-, work, -⟩ := mem_runningSet_iff.1 (eldest_mem found)
        have busy : (s.train u).state ≠ .ready := by
          obtain state | state := work <;> rw [state] <;> decide
        exact (stays_releaseTrain busy t).trans (ih _)
      · exact .of_eq rfl rfl

/-! ### A train the decisions start -/

/-- A READY train has been started under its selection, with its START order. -/
structure Started (s k : State) (t : Train) (sel : Selection) : Prop where
  ready : (s.train t).state = .ready
  selected : (s.train t).selection = some sel
  context : k.train t = { startedContext s t sel.descriptor with share := (k.train t).share }
  link : k.trainLinks.get t = (s.trainLinks.get t).issue
    { command := .start, setpoint := sel.descriptor.minLoad, topTemperature := orderTemperature s t }

section
variable {s k r : State} {t : Train} {sel : Selection}

theorem Started.state (h : Started s k t sel) : (k.train t).state = .starting := by
  rw [h.context]
  rfl

theorem Started.congr (h : Started s k t sel) (context : r.train t = { k.train t with share := (r.train t).share })
    (link : r.trainLinks.get t = k.trainLinks.get t) : Started s r t sel where
  ready := h.ready
  selected := h.selected
  context := by rw [context, h.context]
  link := link.trans h.link

/-- A train that has stayed and is then started has been started from the first state. -/
theorem Stays.started (h : Stays s k t) (g : SameGround s k) (ready : (k.train t).state = .ready)
    (selected : (k.train t).selection = some sel) (kind : TrainKind) (phase : Nat) :
    Started s (startFrom kind phase t sel.descriptor k) t sel := by
  have bound : (k.train t).boundTank = (s.train t).boundTank := by rw [h.context]
  have was : (s.train t).state = .ready := h.state ▸ ready
  refine ⟨was, ?_, ?_, ?_⟩
  · rw [← selected, h.context]
  · rw [startFrom_train, startedContext, g.startRequest, g.now, h.context, h.ready was]
    rfl
  · rw [startFrom_link, h.link, g.orderTemperature bound]

end

/-- What a run of decisions of a kind leaves: each train stays, or is one of the kind's phases and has been started. -/
structure Decided (k : TrainKind) (s r : State) : Prop where
  ground : SameGround s r
  phases : (r.dispatcher.rotation k).phases = (s.dispatcher.rotation k).phases
  train : ∀ t, Stays s r t ∨ (t ∈ (s.dispatcher.rotation k).phases ∧ ∃ sel, Started s r t sel)

section
variable {k : TrainKind} {s r : State}

theorem Decided.start (h : Decided k s r) {t : Train} {d : Descriptor} {deployment : Bool}
    (mem : t ∈ (r.dispatcher.rotation k).phases) (may : startable r deployment t = some d) (phase : Nat) :
    Decided k s (startFrom k phase t d r) := by
  obtain ⟨sel, selected, rfl, ready, -⟩ := startable_some may
  refine ⟨h.ground.trans (sameGround_startFrom ..), ?_, fun u => ?_⟩
  · rw [startFrom_rotation]
    exact h.phases
  · by_cases same : u = t
    · rw [same]
      obtain stays | ⟨-, other, started⟩ := h.train t
      · exact .inr ⟨h.phases ▸ mem, sel, stays.started h.ground ready selected k phase⟩
      · cases ready.symm.trans started.state
    · obtain ⟨train, link⟩ := startFrom_other k phase same sel.descriptor r
      obtain stays | ⟨phase, other, started⟩ := h.train u
      · exact .inl (stays.trans (.of_eq train link))
      · exact .inr ⟨phase, other, started.congr (by rw [train]) link⟩

theorem Decided.startDecisions (h : Decided k s r) (n : Nat) : Decided k s (startDecisions k n r) := by
  induction n generalizing r with
  | zero => exact h
  | succ n ih =>
    by_cases short : runningSum r k < r.dispatcher.target.natAbs
    · cases found : firstStartable r (deploymentDriven r k) (r.dispatcher.rotation k).walk with
      | none =>
        rw [startDecisions_kept fun _ => found]
        exact h
      | some p =>
        obtain ⟨phase, t, d⟩ := p
        obtain ⟨mem, may⟩ := firstStartable_spec found
        rw [startDecisions_started short found]
        exact ih (h.start (mem_phases_of_mem_walk mem) may phase)
    · rw [startDecisions_kept fun yes => absurd yes short]
      exact h

end

theorem decided_decisions (k : TrainKind) (n m : Nat) (s : State) : Decided k s (startDecisions k m (stopDecisions k n s)) := by
  refine .startDecisions ⟨sameGround_stopDecisions k n s, ?_, fun t => .inl (stays_stopDecisions k n s t)⟩ m
  simp

/-- The state in which the decisions of an evaluation begin. -/
def readyState (s : State) : State := settleDirection (takeTarget s)

/-- The decisions change the Train Contexts, the train links and the Dispatcher alone. -/
theorem decidedState_changes (s : State) : decidedState s = { s with
    trains := (decidedState s).trains, trainLinks := (decidedState s).trainLinks
    dispatcher := (decidedState s).dispatcher } := by
  have frame := decideTrains_frame (settleDirection (takeTarget s))
  simp only [settleDirection_frame, takeTarget_frame] at frame
  unfold decidedState
  generalize decideTrains (settleDirection (takeTarget s)) = e at frame ⊢
  cases e
  cases s
  simp_all

theorem decidedState_eq (s : State) : decidedState s = decideTrains (readyState s) := rfl

theorem readyState_direction (s : State) : (readyState s).dispatcher.direction = (evaluate s).dispatcher.direction := by
  rw [evaluate_direction, evaluate_target]
  rfl

theorem stays_readyState (s : State) (t : Train) : Stays s (readyState s) t := .of_eq rfl rfl

theorem Started.of_ready {s k : State} {t : Train} {sel : Selection} (h : Started (readyState s) k t sel) : Started s k t sel :=
  ⟨h.ready, h.selected, h.context, h.link⟩

theorem Started.writeShares {s k : State} {t : Train} {sel : Selection} (h : Started s k t sel)
    (shares : List (Train × Nat)) : Started s (writeShares shares k) t sel :=
  h.congr (by rw [writeShares_train]) (by simp)

/-- An evaluation makes decisions for a kind: it is in DISPATCHING, and the kind is the Active Kind. -/
def DecidesFor (s : State) (k : TrainKind) : Prop :=
  s.dispatcher.mode = .dispatching ∧ activeKind (evaluate s).dispatcher.direction = some k

theorem decidedState_active {s : State} {k : TrainKind} (h : DecidesFor s k) : decidedState s =
    writeShares (sharesOf (startDecisions k 3 (stopDecisions k 3 (readyState s))) k)
      (startDecisions k 3 (stopDecisions k 3 (readyState s))) :=
  decideTrains_active (s := readyState s) h.1 (by rw [readyState_direction]; exact h.2)

theorem decidedState_idle {s : State} (h : ∀ k, ¬ DecidesFor s k) : decidedState s = writeShares [] (readyState s) :=
  decideTrains_idle (s := readyState s) fun k mode at_ => h k ⟨mode, by rw [← readyState_direction]; exact at_⟩

/-- What the decisions of an evaluation leave of a train: it stays, or it is started for the Active Kind. -/
theorem decidedState_train (s : State) (t : Train) : Stays s (decidedState s) t ∨
    ∃ kind, DecidesFor s kind ∧ t ∈ (s.dispatcher.rotation kind).phases ∧ ∃ sel, Started s (decidedState s) t sel := by
  by_cases some_ : ∃ kind, DecidesFor s kind
  · obtain ⟨kind, decides⟩ := some_
    rw [decidedState_active decides]
    obtain stays | ⟨mem, sel, started⟩ := (decided_decisions kind 3 3 (readyState s)).train t
    · exact .inl (((stays_readyState s t).trans stays).writeShares _)
    · exact .inr ⟨kind, decides, by cases kind <;> exact mem, sel, started.of_ready.writeShares _⟩
  · rw [decidedState_idle (not_exists.1 some_)]
    exact .inl ((stays_readyState s t).writeShares _)

theorem decidedState_idle_train {s : State} (h : ∀ k, ¬ DecidesFor s k) (t : Train) :
    Stays s (decidedState s) t ∧ ((decidedState s).train t).share = 0 := by
  rw [decidedState_idle h]
  exact ⟨(stays_readyState s t).writeShares _, by rw [writeShares_train]; rfl⟩

/-! ### What a lowering leaves of its train -/

/-- A lowering writes the Setpoint and the credits, and takes a RUNNING train below its min load to UNLOADING. -/
theorem lowerIfAbove_cases (s : State) (t : Train) :
    let c := s.train t
    let l := (lowerIfAbove s t).train t
    l = c.settled l ∨ (c.state = .running ∧ l = (c.settled l).unload l.setpoint) := by
  intro c l
  by_cases above : lowerBound s t < (s.train t).setpoint
  · have lowered : l = (lowerSetpoint t (lowerBound s t) s).train t := by
      show (lowerIfAbove s t).train t = _
      rw [lowerIfAbove, if_pos above]
    have ⟨unloaded, stayed⟩ := lowerSetpoint_train t (lowerBound s t) s
    rw [← lowered] at unloaded stayed
    by_cases unloads : UnloadsBelowMin c l.setpoint
    · exact .inr ⟨unloads.1, unloaded unloads⟩
    · exact .inl (stayed unloads)
  · have kept : l = c := by
      show (lowerIfAbove s t).train t = _
      rw [lowerIfAbove, if_neg above]
    rw [kept]
    exact .inl rfl

theorem lowerIfAbove_setpoint_le (s : State) (t : Train) : ((lowerIfAbove s t).train t).setpoint ≤ (s.train t).setpoint := by
  by_cases above : lowerBound s t < (s.train t).setpoint
  · exact (lowered_lowerIfAbove s t).setpoint.trans above.le
  · rw [lowerIfAbove, if_neg above]

/-! ### What an evaluation leaves of a train -/

/-- An evaluation starts a train. -/
def Starts (s : State) (t : Train) : Prop :=
  (s.train t).state = .ready ∧ ((evaluate s).train t).state = .starting

section
variable (s : State) (t : Train)

theorem evaluate_state : ((evaluate s).train t).state = ((decidedState s).train t).state ∨
    (((decidedState s).train t).state = .running ∧ ((evaluate s).train t).state = .unloading) := by
  rw [evaluate_train]
  obtain kept | ⟨running, unloaded⟩ := lowerIfAbove_cases (decidedState s) t
  · exact .inl (by rw [kept]; rfl)
  · exact .inr ⟨running, by rw [unloaded]; rfl⟩

theorem Stays.not_starts {s : State} {t : Train} (h : Stays s (decidedState s) t) : ¬ Starts s t := by
  rintro ⟨ready, starting⟩
  obtain same | ⟨running, -⟩ := evaluate_state s t
  · cases (starting.symm.trans same).trans (h.state.trans ready)
  · cases running.symm.trans (h.state.trans ready)

theorem Started.starts {s : State} {t : Train} {sel : Selection} (h : Started s (decidedState s) t sel) : Starts s t := by
  refine ⟨h.ready, ?_⟩
  obtain same | ⟨running, -⟩ := evaluate_state s t
  · exact same.trans h.state
  · cases running.symm.trans h.state

theorem stays_of_not_starts {s : State} {t : Train} (h : ¬ Starts s t) : Stays s (decidedState s) t :=
  (decidedState_train s t).resolve_right fun ⟨_, _, _, _, started⟩ => h started.starts

theorem started_of_starts {s : State} {t : Train} (h : Starts s t) :
    ∃ kind, DecidesFor s kind ∧ t ∈ (s.dispatcher.rotation kind).phases ∧ ∃ sel, Started s (decidedState s) t sel :=
  (decidedState_train s t).resolve_left fun stays => stays.not_starts h

/-- The selection, the Bound Tank, the last report and the Silence Timer are kept by the decisions. -/
theorem decidedState_keeps : ((decidedState s).train t).selection = (s.train t).selection ∧
    ((decidedState s).train t).boundTank = (s.train t).boundTank ∧
    ((decidedState s).train t).lastReport = (s.train t).lastReport ∧
    ((decidedState s).train t).silence = (s.train t).silence ∧
    (Starts s t ∨ ((decidedState s).train t).runStart = (s.train t).runStart) := by
  obtain stays | ⟨-, -, -, sel, started⟩ := decidedState_train s t
  · rw [stays.context]
    exact ⟨rfl, rfl, rfl, rfl, .inr rfl⟩
  · rw [started.context]
    exact ⟨rfl, rfl, rfl, rfl, .inl started.starts⟩

theorem evaluate_keeps : ((evaluate s).train t).selection = (s.train t).selection ∧
    ((evaluate s).train t).boundTank = (s.train t).boundTank ∧
    ((evaluate s).train t).lastReport = (s.train t).lastReport ∧
    ((evaluate s).train t).silence = (s.train t).silence ∧
    (Starts s t ∨ ((evaluate s).train t).runStart = (s.train t).runStart) := by
  have decided := decidedState_keeps s t
  rw [evaluate_train]
  obtain kept | ⟨-, unloaded⟩ := lowerIfAbove_cases (decidedState s) t
  · rw [kept]
    exact decided
  · rw [unloaded]
    exact decided

theorem evaluate_setpoint : ((evaluate s).train t).setpoint ≤ (s.train t).setpoint ∨ Starts s t := by
  obtain stays | ⟨-, -, -, sel, started⟩ := decidedState_train s t
  · left
    have same : ((decidedState s).train t).setpoint = (s.train t).setpoint := by rw [stays.context]
    rw [evaluate_train, ← same]
    exact lowerIfAbove_setpoint_le ..
  · exact .inr started.starts

theorem evaluate_moves : ((evaluate s).train t).state = (s.train t).state ∨ Starts s t ∨
    ((s.train t).state = .running ∧ ((evaluate s).train t).state = .unloading) := by
  by_cases starts : Starts s t
  · exact .inr (.inl starts)
  · rw [← (stays_of_not_starts starts).state]
    exact (evaluate_state s t).imp_right .inr

theorem decidedState_trainLimit : trainLimit (decidedState s) t = trainLimit s t := by
  obtain ⟨selection, bound, -⟩ := decidedState_keeps s t
  exact (sameGround_decidedState s).trainLimit selection bound

theorem decidedState_lowerBound : lowerBound (decidedState s) t = lowerBound s t := by
  rw [lowerBound, (sameGround_decidedState s).cavern, decidedState_trainLimit]
  rfl

theorem evaluate_lowerBound : ((evaluate s).train t).setpoint ≤ lowerBound s t := by
  rw [evaluate_train, ← decidedState_lowerBound]
  exact (lowered_lowerIfAbove ..).setpoint

theorem evaluate_trainLimit : trainLimit (evaluate s) t = trainLimit s t := by
  obtain ⟨selection, bound, -⟩ := evaluate_keeps s t
  exact (sameGround_evaluate s).trainLimit selection bound

theorem lowerBound_le_trainLimit : lowerBound s t ≤ trainLimit s t := by
  unfold lowerBound
  split
  · exact Nat.zero_le _
  · exact le_refl _

theorem evaluate_idle_train {s : State} (h : ∀ k, ¬ DecidesFor s k) (t : Train) :
    ((evaluate s).train t).share = 0 ∧ ¬ Starts s t := by
  obtain ⟨stays, share⟩ := decidedState_idle_train h t
  rw [evaluate_train, (lowerIfAbove_share _ t).1]
  exact ⟨share, stays.not_starts⟩

end

/-! ### The Direction (R186) -/

theorem kindHolds_iff (s : State) (k : TrainKind) : kindHolds s k = true ↔ ∃ t, trainKind t = k ∧ 0 < (s.train t).setpoint := by
  simp only [kindHolds, List.any_eq_true, mem_trainsOf, decide_eq_true_iff]

section
variable {s : State} {n : Int}

theorem heldKind_expander (h : kindHolds s .expander = true) : heldKind s = some .expander := if_pos h

theorem heldKind_compressor (no : ¬ kindHolds s .expander = true) (h : kindHolds s .compressor = true) :
    heldKind s = some .compressor := (if_neg no).trans (if_pos h)

theorem heldKind_none (no : ¬ kindHolds s .expander = true) (no' : ¬ kindHolds s .compressor = true) : heldKind s = none :=
  (if_neg no).trans (if_neg no')

theorem directionOf_pos (h : 0 < n) (held : Option TrainKind) :
    directionOf n held = if held = some .compressor then .reversing else .generating := by
  unfold directionOf
  rw [if_pos h]
  rcases held with _ | _ | _ <;> rfl

theorem directionOf_neg (h : n < 0) (held : Option TrainKind) :
    directionOf n held = if held = some .expander then .reversing else .charging := by
  unfold directionOf
  rw [if_neg (by omega), if_pos h]
  rcases held with _ | _ | _ <;> rfl

theorem directionOf_zero (held : Option TrainKind) : directionOf 0 held =
    if held = some .expander then .generating else if held = some .compressor then .charging else .idle := by
  rcases held with _ | _ | _ <;> rfl

end

section
variable {s : State} {n : Int}

theorem direction_of_pos (h : 0 < n) :
    (kindHolds s .compressor = true ∧ ¬ kindHolds s .expander = true → directionOf n (heldKind s) = .reversing) ∧
    (kindHolds s .expander = true ∨ ¬ kindHolds s .compressor = true → directionOf n (heldKind s) = .generating) := by
  rw [directionOf_pos h]
  refine ⟨fun ⟨c, x⟩ => if_pos (heldKind_compressor x c), fun either => if_neg ?_⟩
  by_cases x : kindHolds s .expander = true
  · rw [heldKind_expander x]
    decide
  · rw [heldKind_none x (either.resolve_left x)]
    decide

theorem direction_of_neg (h : n < 0) :
    (kindHolds s .expander = true → directionOf n (heldKind s) = .reversing) ∧
    (¬ kindHolds s .expander = true → directionOf n (heldKind s) = .charging) := by
  rw [directionOf_neg h]
  refine ⟨fun x => if_pos (heldKind_expander x), fun x => if_neg ?_⟩
  by_cases c : kindHolds s .compressor = true
  · rw [heldKind_compressor x c]
    decide
  · rw [heldKind_none x c]
    decide

theorem direction_of_zero :
    (kindHolds s .expander = true → directionOf 0 (heldKind s) = .generating) ∧
    (¬ kindHolds s .expander = true → kindHolds s .compressor = true → directionOf 0 (heldKind s) = .charging) ∧
    (¬ kindHolds s .expander = true → ¬ kindHolds s .compressor = true → directionOf 0 (heldKind s) = .idle) := by
  rw [directionOf_zero]
  refine ⟨fun x => ?_, fun x c => ?_, fun x c => ?_⟩
  · rw [heldKind_expander x]
    rfl
  · rw [heldKind_compressor x c]
    rfl
  · rw [heldKind_none x c]
    rfl

end

theorem activeKind_some {d : Direction} {k : TrainKind} (h : activeKind d = some k) : d ≠ .idle ∧ d ≠ .reversing := by
  cases d <;> cases h <;> decide

/-! ### A lowering whole (R155, R193) -/

theorem writesTrain_writeLowered (t : Train) (v : Nat) (s : State) : WritesTrain t s (writeLowered t v s) := by
  unfold writeLowered
  split
  · exact writesTrain_setTrain ..
  · exact (writesTrain_setTrain ..).trans (writesTrain_limitByCredit ..)

theorem writeLowered_expander {t : Train} (h : trainKind t = .expander) (v : Nat) (s : State) :
    (writeLowered t v s).train t = { s.train t with setpoint := v } := by
  rw [writeLowered, h]
  exact State.train_setTrain ..

theorem writeLowered_compressor {t : Train} (h : trainKind t = .compressor) (v : Nat) {s : State} {sel : Selection} {qk : Nat}
    (selected : (s.train t).selection = some sel) (rate : sel.descriptor.heatRate = some qk) :
    (writeLowered t v s).train t =
    (let c := s.train t
     let reservation := c.reservation - (c.reservation - creditNeed s t v) / 100 * 100
     let limit := reservation * 36000 / (qk * s.loader.creditWindow)
     { c with reservation := reservation, setpoint := min v limit, creditLimit := decide (limit < v) }) := by
  have selected' : ((partialReturn t (creditNeed s t v) s).train t).selection = some sel := by
    rw [partialReturn, State.train_setTrain]
    exact selected
  rw [writeLowered, h]
  dsimp only
  rw [limitByCredit_rate selected' rate, State.train_setTrain, partialReturn, State.train_setTrain]
  rfl

theorem unloadBelowMin_keeps (t : Train) (s : State) :
    ((unloadBelowMin t s).train t).setpoint = (s.train t).setpoint ∧
    ((unloadBelowMin t s).train t).reservation = (s.train t).reservation ∧
    ((unloadBelowMin t s).train t).creditLimit = (s.train t).creditLimit := by
  obtain h | ⟨-, h⟩ := unloadBelowMin_train t s <;> rw [h] <;> exact ⟨rfl, rfl, rfl⟩

/-- A lowering with its order: the context written, and the order put on the train's link. -/
theorem lowerSetpoint_eq (t : Train) (v : Nat) (s : State) :
    let k := unloadBelowMin t (writeLowered t v s)
    lowerSetpoint t v s = issueOrder t (answeringOrder t (decide ((k.train t).setpoint = 0)) k) (s.setTrain t (k.train t)) := by
  intro k
  have writes : WritesTrain t s k := (writesTrain_writeLowered ..).trans (writesTrain_unloadBelowMin ..)
  exact congrArg (issueOrder t _) writes

/-! ### The statement -/

theorem exec_notice {c : Instr} {notice : Raised} {left : List Raised} {s : State}
    (h : Oldest (pickNotice notice) s.raised () left)
    (command : exec c s = .next (handleRaised (pickNotice notice) (fun _ => evaluate) s)) :
    exec c s = .next (evaluate (s.setRaised left)) :=
  command.trans (congrArg Host.Outcome.next (handleRaised_oldest h))

/-- Settles O49: each notice brings one evaluation, whose decisions leave or start each train and whose lowerings bring each
Setpoint within its bound. -/
theorem noticesBringAnEvaluation : Obligations.NoticesBringAnEvaluation := by
  unfold Obligations.NoticesBringAnEvaluation
  refine ⟨fun tank t left s => ?_, fun s => ?_, fun t v s sel selected => ?_⟩
  · exact ⟨fun h => exec_notice h rfl, fun h => exec_notice h rfl, fun h => exec_notice h rfl, fun h => exec_notice h rfl⟩
  · have changes := evaluate_changes s
    have settled := evaluate_direction s
    have undecided {k : TrainKind} (decides : DecidesFor s k) : s.dispatcher.mode = .dispatching ∧
        (evaluate s).dispatcher.direction ≠ .idle ∧ (evaluate s).dispatcher.direction ≠ .reversing :=
      ⟨decides.1, activeKind_some decides.2⟩
    have idle (none : ∀ k, ¬ DecidesFor s k) (t : Train) := evaluate_idle_train none t
    have value := evaluate_scheduleValue s
    have energy := evaluate_segment s
    have setpoint := evaluate_setpoint s
    have moves := evaluate_moves s
    have limit (t : Train) : ((evaluate s).train t).setpoint ≤ trainLimit (evaluate s) t := by
      rw [evaluate_trainLimit]
      exact (evaluate_lowerBound s t).trans (lowerBound_le_trainLimit s t)
    have bounded := evaluate_lowerBound s
    have keeps := evaluate_keeps s
    have mode := evaluate_mode s
    have delivered := evaluate_delivered s
    have interval := evaluate_openInterval s
    have train := evaluate_train s
    have link := evaluate_link s
    have stays {t : Train} : ¬ Starts s t → Stays s (decidedState s) t := stays_of_not_starts
    have started {t : Train} (h : Starts s t) := started_of_starts h
    unfold Starts at idle setpoint moves keeps stays started
    unfold DecidesFor at undecided idle started
    generalize evaluate s = e' at *
    intro e d n holds direction changed segment stopped starts
    have held (k : TrainKind) : kindHolds s k = true ↔ holds k := kindHolds_iff s k
    have directed (of : Direction) : direction of ↔ directionOf e'.dispatcher.target (heldKind s) = of := by rw [← settled]
    refine ⟨changes, fun pos => ?_, fun neg => ?_, fun zero => ?_, fun h t => idle (fun k decides => ?_) t,
      fun own t h => ?_, setpoint, moves, limit, fun t h => ?_, keeps,
      ⟨decidedState s, ?_, ?_, fun t => ?_⟩, fun same => ?_, fun other => ?_, mode, stopCondition_iff e,
      delivered, interval⟩
    · simp only [← held, directed]
      exact direction_of_pos pos
    · simp only [← held, directed]
      exact direction_of_neg neg
    · simp only [← held, directed, show e'.dispatcher.target = 0 from zero]
      exact direction_of_zero
    · obtain ⟨mode, notIdle, notReversing⟩ := undecided decides
      obtain no | no | no := h
      · exact no mode
      · exact notIdle no
      · exact notReversing no
    · obtain ⟨kind, ⟨-, active⟩, mem, -⟩ := started h
      rw [own kind t mem]
      exact active
    · have bound : lowerBound s t = 0 := if_pos h
      exact Nat.le_zero.1 (bound ▸ bounded t)
    · exact decidedState_changes s
    · rw [decidedState_dispatcher]
      rfl
    · intro w bound
      have isBound : lowerBound (decidedState s) t = bound := by
        rw [decidedState_lowerBound]
        unfold lowerBound
        by_cases stops : bandStops s.cavern.band (trainKind t) = true
        · rw [if_pos stops]
          exact (if_pos ((bandStops_iff ..).1 stops)).symm
        · rw [if_neg stops]
          exact (if_neg ((bandStops_iff ..).not.1 stops)).symm
      refine ⟨fun no => ?_, fun yes => ?_, fun within => ?_, fun above => ?_⟩
      · obtain ⟨context, link, -⟩ := stays no
        exact ⟨context, link⟩
      · obtain ⟨-, -, -, sel, started⟩ := started yes
        exact ⟨sel, started.selected, started.context, started.link⟩
      · have kept : lowerIfAbove (decidedState s) t = decidedState s := by
          rw [lowerIfAbove, isBound, if_neg (Nat.not_lt.2 within)]
        exact ⟨(train t).trans (by rw [kept]), (link t).trans (by rw [kept])⟩
      · have lowered : lowerIfAbove (decidedState s) t = lowerSetpoint t bound (decidedState s) := by
          rw [lowerIfAbove, isBound, if_pos above]
        exact ⟨(train t).trans (by rw [lowered]), (link t).trans (by rw [lowered])⟩
    · have unchanged : scheduleValueOf s.store.commitments = s.dispatcher.scheduleValue := value ▸ not_not.1 same
      rw [if_pos unchanged, if_pos unchanged] at energy
      exact energy
    · rw [if_neg fun eq => other (value.trans eq), if_neg fun eq => other (value.trans eq), holdEnergy_eq] at energy
      exact energy
  · intro c k l
    let written := writeLowered t v s
    let lowered := unloadBelowMin t written
    have train : l = lowered.train t := lowerSetpoint_train_eq t v s
    obtain ⟨setpoint, reservation, credit⟩ := unloadBelowMin_keeps t written
    rw [show (unloadBelowMin t written).train t = l from train.symm] at setpoint reservation credit
    obtain ⟨unloaded, stayed⟩ := lowerSetpoint_train t v s
    have below : UnloadsBelowMin c l.setpoint ↔ c.state = .running ∧ l.setpoint < sel.descriptor.minLoad := by
      refine and_congr_right fun _ => ⟨fun ⟨other, found, less⟩ => ?_, fun less => ⟨sel, selected, less⟩⟩
      cases found.symm.trans selected
      exact less
    have writes : WritesTrain t s lowered := (writesTrain_writeLowered ..).trans (writesTrain_unloadBelowMin ..)
    have bound : l.boundTank = c.boundTank := (lowered_lowerSetpoint t v s).boundTank
    have issued : k = issueOrder t (answeringOrder t (decide (l.setpoint = 0)) (s.setTrain t l)) (s.setTrain t l) := by
      rw [train, ← writes]
      exact orderAsStanding_eq ..
    refine ⟨answeringOrder t (decide (l.setpoint = 0)) (s.setTrain t l), issued,
      ⟨fun unloads => unloaded (below.2 unloads), fun stays => stayed (below.not.2 stays)⟩, fun expander => ?_,
      fun compressor qk rate => ?_, fun zero => ?_, fun some_ => ?_, ?_, orderTemperature_setTrain bound⟩
    · rw [setpoint, reservation, credit, show written.train t = _ from writeLowered_expander expander v s]
      exact ⟨rfl, rfl, rfl⟩
    · intro limit
      have value : written.train t = _ := writeLowered_compressor compressor v selected rate
      have held : l.reservation = c.reservation - (c.reservation - creditNeed s t v) / 100 * 100 := by
        rw [reservation, value]
      have limited : limit = (written.train t).reservation * 36000 / (qk * s.loader.creditWindow) := by rw [← reservation]
      rw [setpoint, credit, limited, value]
      exact ⟨held, rfl, rfl⟩
    · exact if_pos (decide_eq_true zero)
    · have after : (s.setTrain t l).train t = l := State.train_setTrain ..
      have none : ¬ decide (l.setpoint = 0) = true := by
        rw [decide_eq_true_iff]
        omega
      refine (if_neg none).trans ?_
      rw [after]
      rfl
    · rw [answeringOrder, formOrder_setpoint, State.train_setTrain]
      rfl

end Sys2Proof.Machine
end

/-!
The stop decisions, the start decisions and the shares of an evaluation: O50.
-/
section
namespace Sys2Proof.Machine

/-! ### The Running Set (R188) -/

theorem trainsOf_ordered (k : TrainKind) : (trainsOf k).Pairwise (fun a b => trainIndex a < trainIndex b) := by
  cases k <;> decide

theorem trainsOf_nodup (k : TrainKind) : (trainsOf k).Nodup := by
  cases k <;> decide

theorem trainsOf_length (k : TrainKind) : (trainsOf k).length = 3 := by
  cases k <;> rfl

theorem runningSet_nodup (s : State) (k : TrainKind) : (runningSet s k).Nodup := (trainsOf_nodup k).filter _

theorem runningSet_length_le (s : State) (k : TrainKind) : (runningSet s k).length ≤ 3 :=
  trainsOf_length k ▸ List.length_filter_le _ _

theorem sum_without {f : Train → Nat} {those : List Train} (nodup : those.Nodup) {t : Train} (mem : t ∈ those) :
    ((those.filter fun u => decide (u ≠ t)).map f).sum + f t = (those.map f).sum := by
  induction those with
  | nil => cases mem
  | cons a rest ih =>
    obtain ⟨fresh, nodup⟩ := List.nodup_cons.1 nodup
    by_cases same : a = t
    · subst same
      have kept : rest.filter (fun u => decide (u ≠ a)) = rest :=
        List.filter_eq_self.2 fun u hu => decide_eq_true fun e => fresh (e ▸ hu)
      rw [List.filter_cons_of_neg (by simp), kept, List.map_cons, List.sum_cons, Nat.add_comm]
    · rw [List.filter_cons_of_pos (by simpa using same), List.map_cons, List.sum_cons, List.map_cons, List.sum_cons,
        Nat.add_assoc, ih nodup ((List.mem_cons.1 mem).resolve_left (Ne.symm same))]

theorem runningSum_without {s : State} {k : TrainKind} {t : Train} (mem : t ∈ runningSet s k) :
    runningSum s k - trainLimit s t = (((runningSet s k).filter fun u => decide (u ≠ t)).map (trainLimit s)).sum := by
  rw [runningSum, sumOver_eq_sum, ← sum_without (runningSet_nodup s k) mem, Nat.add_sub_cancel]

/-! ### The Eldest (R190) -/

/-- One key stands before another: the earlier interval, and in it the earlier second. -/
def KeyBefore (a b : Nat × Nat) : Prop := a.1 < b.1 ∨ (a.1 = b.1 ∧ a.2 < b.2)

theorem keyBefore_pair_iff (a b : Nat × Nat) : keyBefore a b = true ↔ KeyBefore a b := by
  simp only [keyBefore, KeyBefore, Bool.or_eq_true, Bool.and_eq_true, decide_eq_true_iff]

theorem KeyBefore.trans {a b c : Nat × Nat} (h : KeyBefore a b) (h' : KeyBefore b c) : KeyBefore a c := by
  unfold KeyBefore at *
  omega

theorem KeyBefore.of_not {a b c : Nat × Nat} (h : KeyBefore a b) (h' : ¬ KeyBefore c b) : KeyBefore a c := by
  unfold KeyBefore at *
  omega

theorem eldest_none {s : State} {those : List Train} (h : eldest s those = none) : those = [] := by
  cases those with
  | nil => rfl
  | cons a rest =>
    unfold eldest at h
    split at h
    · cases h
    · split at h <;> cases h

/-- The Eldest is the first of those with the earliest Run Start. -/
theorem eldest_first {s : State} {those : List Train} {t : Train} (h : eldest s those = some t) :
    ∃ front back, those = front ++ t :: back ∧ (∀ k ∈ front, KeyBefore (runKey s t) (runKey s k)) ∧
      ∀ k ∈ back, ¬ KeyBefore (runKey s k) (runKey s t) := by
  induction those generalizing t with
  | nil => cases h
  | cons a rest ih =>
    unfold eldest at h
    split at h
    · next none =>
      cases h
      exact ⟨[], [], by rw [eldest_none none]; rfl, by simp, by simp⟩
    · next u found =>
      obtain ⟨front, back, split_, before, after⟩ := ih found
      split at h
      · next earlier =>
        cases h
        refine ⟨a :: front, back, by rw [split_]; rfl, fun k hk => ?_, after⟩
        obtain rfl | hk := List.mem_cons.1 hk
        · exact (keyBefore_pair_iff ..).1 earlier
        · exact before k hk
      · next notEarlier =>
        cases h
        have first : ¬ KeyBefore (runKey s u) (runKey s a) := (keyBefore_pair_iff ..).not.1 notEarlier
        refine ⟨[], rest, rfl, by simp, fun k hk earlier => first ?_⟩
        rw [split_] at hk
        obtain hk | hk := List.mem_append.1 hk
        · exact (before k hk).trans earlier
        · obtain rfl | hk := List.mem_cons.1 hk
          · exact earlier
          · by_contra no
            exact after k hk (earlier.of_not no)

/-! ### Stop decisions (R190) -/

theorem runningSet_releaseTrain (s : State) (k : TrainKind) (t : Train) :
    runningSet (releaseTrain t s) k = (runningSet s k).filter fun u => decide (u ≠ t) := by
  rw [runningSet, runningSet, List.filter_filter]
  refine List.filter_congr fun u _ => ?_
  by_cases same : u = t
  · rw [same]
    simp [releaseTrain, onTrain]
  · rw [releaseTrain, onTrain, State.train_setTrain_other s t u _ same]
    simp [same]

/-- As many stop decisions as the Running Set has trains are enough. -/
theorem stopDecisions_enough {k : TrainKind} {n : Nat} {s : State} (h : (runningSet s k).length ≤ n) (m : Nat) :
    stopDecisions k (n + m) s = stopDecisions k n s := by
  induction n generalizing s with
  | zero =>
    have empty : runningSet s k = [] := List.length_eq_zero_iff.1 (Nat.le_zero.1 h)
    have still (j : Nat) : stopDecisions k j s = s := stopDecisions_kept (fun t found => by rw [empty] at found; cases found) j
    rw [still, still]
  | succ n ih =>
    by_cases stops : ∃ t, eldest s (runningSet s k) = some t ∧
        s.dispatcher.target.natAbs ≤ (runningSum s k - trainLimit s t) * 9 / 10
    · obtain ⟨t, found, enough⟩ := stops
      have fewer : (runningSet (releaseTrain t s) k).length < (runningSet s k).length := by
        rw [runningSet_releaseTrain]
        exact List.length_filter_lt_length_iff_exists.2 ⟨t, eldest_mem found, by simp⟩
      rw [Nat.succ_add, stopDecisions_released found enough, stopDecisions_released found enough, ih (by omega)]
    · have still (j : Nat) : stopDecisions k j s = s :=
        stopDecisions_kept (fun t found => Nat.not_le.1 fun enough => stops ⟨t, found, enough⟩) j
      rw [still, still]

/-! ### Start decisions (R189) -/

theorem firstStartable_none {s : State} {deployment : Bool} {walk : List (Nat × Train)}
    (h : ∀ p ∈ walk, startable s deployment p.2 = none) : firstStartable s deployment walk = none := by
  induction walk with
  | nil => rfl
  | cons p rest ih =>
    rw [firstStartable, h p List.mem_cons_self]
    exact ih fun q hq => h q (List.mem_cons_of_mem _ hq)

theorem firstStartable_first {s : State} {deployment : Bool} {phase : Nat} {t : Train} {d : Descriptor}
    (may : startable s deployment t = some d) {front back : List (Nat × Train)}
    (h : ∀ p ∈ front, startable s deployment p.2 = none) :
    firstStartable s deployment (front ++ (phase, t) :: back) = some (phase, t, d) := by
  induction front with
  | nil =>
    rw [List.nil_append, firstStartable, may]
  | cons p rest ih =>
    rw [List.cons_append, firstStartable, h p List.mem_cons_self]
    exact ih fun q hq => h q (List.mem_cons_of_mem _ hq)

/-- The READY trains of a kind, of which each start decision takes one. -/
def readyTrains (s : State) (k : TrainKind) : List Train := (trainsOf k).filter fun t => decide ((s.train t).state = .ready)

theorem readyTrains_length_le (s : State) (k : TrainKind) : (readyTrains s k).length ≤ 3 :=
  trainsOf_length k ▸ List.length_filter_le _ _

theorem readyTrains_startFrom (k : TrainKind) (phase : Nat) (t : Train) (d : Descriptor) (s : State) :
    readyTrains (startFrom k phase t d s) k = (readyTrains s k).filter fun u => decide (u ≠ t) := by
  rw [readyTrains, readyTrains, List.filter_filter]
  refine List.filter_congr fun u _ => ?_
  by_cases same : u = t
  · rw [same, startFrom_train]
    simp [startedContext]
  · rw [(startFrom_other k phase same d s).1]
    simp [same]

/-- As many start decisions as the kind has READY trains are enough. -/
theorem startDecisions_enough {k : TrainKind} {n : Nat} {s : State} (own : ∀ t ∈ (s.dispatcher.rotation k).phases, trainKind t = k)
    (h : (readyTrains s k).length ≤ n) (m : Nat) : startDecisions k (n + m) s = startDecisions k n s := by
  have ready {phase : Nat} {t : Train} {d : Descriptor}
      (found : firstStartable s (deploymentDriven s k) (s.dispatcher.rotation k).walk = some (phase, t, d)) :
      t ∈ readyTrains s k := by
    obtain ⟨mem, may⟩ := firstStartable_spec found
    obtain ⟨-, -, -, state, -⟩ := startable_some may
    exact List.mem_filter.2 ⟨(mem_trainsOf ..).2 (own t (mem_phases_of_mem_walk mem)), decide_eq_true state⟩
  have still (none : runningSum s k < s.dispatcher.target.natAbs →
      firstStartable s (deploymentDriven s k) (s.dispatcher.rotation k).walk = none) :
      startDecisions k (n + m) s = startDecisions k n s := by
    rw [startDecisions_kept none, startDecisions_kept none]
  by_cases short : runningSum s k < s.dispatcher.target.natAbs
  · cases found : firstStartable s (deploymentDriven s k) (s.dispatcher.rotation k).walk with
    | none => exact still fun _ => found
    | some p =>
      obtain ⟨phase, t, d⟩ := p
      have mem := ready found
      cases n with
      | zero => rw [List.length_eq_zero_iff.1 (Nat.le_zero.1 h)] at mem; cases mem
      | succ n =>
        have fewer : (readyTrains (startFrom k phase t d s) k).length < (readyTrains s k).length := by
          rw [readyTrains_startFrom]
          exact List.length_filter_lt_length_iff_exists.2 ⟨t, mem, by simp⟩
        rw [Nat.succ_add, startDecisions_started short found, startDecisions_started short found]
        refine startDecisions_enough (fun u hu => own u ?_) (by omega) m
        rw [startFrom_rotation] at hu
        exact hu
  · exact still fun yes => absurd yes short

/-! ### The walk of a Duty Rotation (R187) -/

theorem walk_fst {r : Rotation} (phases : r.phases.length = 12) (pointer : r.pointer < 12) :
    r.walk.map Prod.fst = (List.range 12).map (fun i => (r.pointer + i) % 12) := by
  have numbers : ((List.range r.phases.length).zip r.phases).map Prod.fst = List.range 12 := by
    rw [List.map_fst_zip (by simp), phases]
  have turned : ∀ p < 12, (List.range 12).drop p ++ (List.range 12).take p = (List.range 12).map (fun i => (p + i) % 12) := by
    decide
  rw [Rotation.walk, List.map_append, List.map_drop, List.map_take, numbers, turned _ pointer]

theorem walk_phase {r : Rotation} {p : Nat × Train} (h : p ∈ r.walk) : r.phases[p.1]? = some p.2 := by
  have numbered : p ∈ (List.range r.phases.length).zip r.phases := by
    rcases List.mem_append.1 h with h | h
    · exact List.mem_of_mem_drop h
    · exact List.mem_of_mem_take h
  obtain ⟨i, at_⟩ := List.mem_iff_getElem?.1 numbered
  obtain ⟨number, phase⟩ := List.getElem?_zip_eq_some.1 at_
  have same : i = p.1 := by
    rw [List.getElem?_range] at number
    · exact Option.some.inj number
    · by_contra beyond
      rw [List.getElem?_eq_none (by simpa using beyond)] at phase
      cases phase
  exact same ▸ phase

/-! ### Deployment-driven starts and Startable trains (R188, R189) -/

theorem energyCalledFor_eq (records : List Commitment) : energyCalledFor records =
    ((records.filter fun c => decide (c.standing = .firm ∧ c.kind = .energy) && c.isActive).map Commitment.power).foldr
      (· + ·) 0 := by
  rw [energyCalledFor, activeFirmSet, powerOf, List.filter_filter, sumInt_eq_foldr]
  congr 3
  funext c
  rw [Commitment.inActiveFirmSet, Bool.eq_iff_iff]
  simp only [Bool.and_eq_true, decide_eq_true_iff]
  tauto

theorem sameSign_iff (a b : Int) : sameSign a b = true ↔ (0 < a ∧ 0 < b) ∨ (a < 0 ∧ b < 0) := by
  simp only [sameSign, Bool.or_eq_true, Bool.and_eq_true, decide_eq_true_iff]

theorem cap_eq (d : Dispatcher) (k : TrainKind) : d.cap k = if k = .expander then d.generationCap else d.chargeCap := by
  cases k <;> rfl

theorem startRequest_eq (s : State) (t : Train) (d : Descriptor) :
    startRequest s t d = if trainKind t = .compressor then needAt s.loader.creditWindow d d.minLoad else 0 := by
  rw [startRequest]
  cases trainKind t <;> rfl

theorem bandHolds_iff (b : Band) (t : Train) : bandHolds b (trainKind t) = true ↔
    (trainKind t = .expander ∧ (b = .lowWarn ∨ b = .lowLimit)) ∨
    (trainKind t = .compressor ∧ (b = .highWarn ∨ b = .highLimit)) := by
  rw [bandHolds, Bool.or_eq_true, bandWarns_iff, bandStops_iff]
  tauto

theorem startable_iff (s : State) (deployment : Bool) (t : Train) (d : Descriptor) :
    startable s deployment t = some d ↔
      (∃ sel, (s.train t).selection = some sel ∧ sel.descriptor = d) ∧ (s.train t).state = .ready ∧ 0 < trainLimit s t ∧
      bandHolds s.cavern.band (trainKind t) = false ∧ (deployment = true → d.reserveCapable = true) ∧
      (startRequest s t d = 0 ∨ grantSize s t (startRequest s t d) = startRequest s t d) := by
  unfold startable
  dsimp only
  split
  · next none =>
    refine Iff.intro (fun h => nomatch h) ?_
    rintro ⟨⟨sel, selected, -⟩, -⟩
    cases none.symm.trans selected
  · next sel selected =>
    constructor
    · intro h
      split at h
      · next may =>
        cases h
        exact ⟨⟨sel, selected, rfl⟩, may⟩
      · cases h
    · rintro ⟨⟨other, found, rfl⟩, may⟩
      cases found.symm.trans selected
      exact if_pos may

/-! ### The Rotation Order (R187) -/

theorem mem_firstOccurrences {l : List Train} {seen : List Train} {t : Train} :
    t ∈ firstOccurrences seen l ↔ t ∈ l ∧ t ∉ seen := by
  induction l generalizing seen with
  | nil => simp [firstOccurrences]
  | cons a rest ih =>
    unfold firstOccurrences
    split
    · next known =>
      rw [ih, List.mem_cons]
      have known : a ∈ seen := List.contains_iff_mem.1 known
      refine and_congr_left fun fresh => ⟨.inr, fun h => h.resolve_left fun e => fresh (e ▸ known)⟩
    · next new =>
      have new : a ∉ seen := fun h => new (List.contains_iff_mem.2 h)
      rw [List.mem_cons, ih, List.mem_cons, List.mem_cons]
      by_cases same : t = a
      · simp [same, new]
      · simp [same]

/-- The trains of a list in the order of their first occurrences, each once. -/
theorem firstOccurrences_ordered (l : List Train) (seen : List Train) :
    (firstOccurrences seen l).Pairwise (fun a b => l.idxOf a < l.idxOf b) := by
  induction l generalizing seen with
  | nil => exact .nil
  | cons a rest ih =>
    have later (u : Train) (h : u ≠ a) : (a :: rest).idxOf u = rest.idxOf u + 1 := List.idxOf_cons_ne _ (Ne.symm h)
    have shifted (seen : List Train) (known : a ∈ seen) :
        (firstOccurrences seen rest).Pairwise (fun x y => (a :: rest).idxOf x < (a :: rest).idxOf y) := by
      have apart {u : Train} (h : u ∈ firstOccurrences seen rest) : u ≠ a := fun e =>
        (mem_firstOccurrences.1 h).2 (e ▸ known)
      refine (ih seen).imp_of_mem fun {x y} hx hy less => ?_
      rw [later x (apart hx), later y (apart hy)]
      omega
    unfold firstOccurrences
    split
    · next known => exact shifted seen (List.contains_iff_mem.1 known)
    · refine List.pairwise_cons.2 ⟨fun u hu => ?_, shifted _ List.mem_cons_self⟩
      have other : u ≠ a := fun e => (mem_firstOccurrences.1 hu).2 (e ▸ List.mem_cons_self)
      rw [List.idxOf_cons_self, later u other]
      omega

section
variable (r : Rotation) (k : TrainKind) (members : List Train)

theorem rotationOrder_ordered : (rotationOrder r k members).Pairwise fun a b =>
    (r.walk.map Prod.snd ++ trainsOf k).idxOf a < (r.walk.map Prod.snd ++ trainsOf k).idxOf b :=
  (firstOccurrences_ordered _ _).filter _

theorem rotationOrder_nodup : (rotationOrder r k members).Nodup :=
  (rotationOrder_ordered r k members).imp fun less same => absurd less (by rw [same]; exact lt_irrefl _)

variable {k members}

theorem rotationOrder_perm (nodup : members.Nodup) (own : ∀ t ∈ members, trainKind t = k) :
    (rotationOrder r k members).Perm members := by
  refine (List.perm_ext_iff_of_nodup (rotationOrder_nodup r k members) nodup).2 fun t => ?_
  rw [rotationOrder, List.mem_filter, mem_firstOccurrences, List.contains_iff_mem]
  refine ⟨fun h => h.2, fun h => ⟨⟨List.mem_append_right _ ((mem_trainsOf ..).2 (own t h)), by simp⟩, h⟩⟩

end

/-! ### Shares (R191) -/

/-- What a list of shares gives a train. -/
def shareIn (shares : List (Train × Nat)) (t : Train) : Nat := (shares.lookup t).getD 0

theorem lookup_raised (t u : Train) (taken : Nat) (shares : List (Train × Nat)) :
    (shares.map fun p => if p.1 = t then (p.1, p.2 + taken) else p).lookup u =
      if u = t then (shares.lookup u).map (· + taken) else shares.lookup u := by
  induction shares with
  | nil => simp
  | cons p rest ih =>
    obtain ⟨v, n⟩ := p
    rw [List.map_cons]
    by_cases own : u = v
    · subst own
      by_cases same : u = t
      · simp [same]
      · simp [same]
    · have apart : (u == v) = false := beq_false_of_ne own
      by_cases same : v = t
      · subst same
        simp only [if_true, List.lookup_cons, apart]
        exact ih
      · simp [same, List.lookup_cons, ih, apart]

theorem lookup_members (members : List Train) (f : Train → Nat) (t : Train) :
    (members.map fun u => (u, f u)).lookup t = if t ∈ members then some (f t) else none := by
  induction members with
  | nil => rfl
  | cons a rest ih =>
    by_cases same : t = a
    · subst same
      simp
    · have apart : (t == a) = false := beq_false_of_ne same
      simp [List.lookup_cons, apart, ih, same]

/-- How much more a train's share may become. -/
def shareRoom (s : State) (shares : List (Train × Nat)) (t : Train) : Nat := trainLimit s t - shareIn shares t

section
variable {s : State} {t : Train} {shares : List (Train × Nat)}

/-- The shares after a train of the order has taken what it may. -/
def taking (s : State) (remainder : Nat) (t : Train) (shares : List (Train × Nat)) : List (Train × Nat) :=
  shares.map fun p => if p.1 = t then (p.1, p.2 + min remainder (shareRoom s shares t)) else p

theorem giveOut_cons (remainder : Nat) (rest : List Train) : giveOut s remainder (t :: rest) shares =
    giveOut s (remainder - min remainder (shareRoom s shares t)) rest (taking s remainder t shares) := rfl

theorem taking_other {u : Train} (h : u ≠ t) (remainder : Nat) :
    (taking s remainder t shares).lookup u = shares.lookup u := by
  rw [taking, lookup_raised, if_neg h]

theorem taking_own {n : Nat} (h : shares.lookup t = some n) (remainder : Nat) :
    (taking s remainder t shares).lookup t = some (n + min remainder (shareRoom s shares t)) := by
  rw [taking, lookup_raised, if_pos rfl, h]
  rfl

theorem giveOut_other {order : List Train} (h : t ∉ order) (remainder : Nat) :
    (giveOut s remainder order shares).lookup t = shares.lookup t := by
  induction order generalizing remainder shares with
  | nil => rfl
  | cons a rest ih =>
    obtain ⟨apart, h⟩ := not_or.1 (List.mem_cons.not.1 h)
    rw [giveOut_cons, ih h, taking_other apart]

theorem giveOut_none {order : List Train} (h : shares.lookup t = none) (remainder : Nat) :
    (giveOut s remainder order shares).lookup t = none := by
  induction order generalizing remainder shares with
  | nil => exact h
  | cons a rest ih =>
    rw [giveOut_cons]
    refine ih ?_ _
    rw [taking, lookup_raised, h]
    split <;> rfl

theorem shareRoom_congr {others : List (Train × Nat)} (h : others.lookup t = shares.lookup t) :
    shareRoom s others t = shareRoom s shares t := by
  rw [shareRoom, shareRoom, shareIn, shareIn, h]

/-- A train in its turn takes what those before it have left, up to its Train Limit. -/
theorem giveOut_member {front back : List Train} (nodup : (front ++ t :: back).Nodup) {n : Nat}
    (h : shares.lookup t = some n) (remainder : Nat) :
    (giveOut s remainder (front ++ t :: back) shares).lookup t =
      some (n + min (remainder - (front.map (shareRoom s shares)).sum) (shareRoom s shares t)) := by
  induction front generalizing remainder shares with
  | nil =>
    have fresh : t ∉ back := (List.nodup_cons.1 nodup).1
    rw [List.nil_append, giveOut_cons, giveOut_other fresh, taking_own h]
    rfl
  | cons a front ih =>
    obtain ⟨fresh, nodup⟩ := List.nodup_cons.1 nodup
    have apart : t ≠ a := by
      rintro rfl
      exact fresh (by simp)
    have same {u : Train} (hu : u ∈ front) : shareRoom s (taking s remainder a shares) u = shareRoom s shares u :=
      shareRoom_congr (taking_other (fun e => fresh (by rw [← e]; simp [hu])) _)
    have rooms : front.map (shareRoom s (taking s remainder a shares)) = front.map (shareRoom s shares) :=
      List.map_congr_left fun u hu => same hu
    rw [List.cons_append, giveOut_cons, ih nodup (by rw [taking_other apart, h]),
      shareRoom_congr (taking_other apart _), rooms, List.map_cons, List.sum_cons]
    congr 2
    omega

/-- The whole of what is given out: the remainder, up to the room there is. -/
theorem giveOut_sum {order : List Train} (nodup : order.Nodup) (known : ∀ t ∈ order, ∃ n, shares.lookup t = some n)
    (remainder : Nat) : (order.map (shareIn (giveOut s remainder order shares))).sum =
      (order.map (shareIn shares)).sum + min remainder (order.map (shareRoom s shares)).sum := by
  induction order generalizing remainder shares with
  | nil => simp
  | cons a rest ih =>
    obtain ⟨fresh, nodup⟩ := List.nodup_cons.1 nodup
    obtain ⟨n, held⟩ := known a List.mem_cons_self
    have kept {u : Train} (hu : u ∈ rest) : (taking s remainder a shares).lookup u = shares.lookup u :=
      taking_other (fun e => fresh (by rw [← e]; exact hu)) _
    have first : shareIn (giveOut s remainder (a :: rest) shares) a = shareIn shares a + min remainder (shareRoom s shares a) := by
      rw [shareIn, giveOut_cons, giveOut_other fresh, taking_own held, shareIn, held]
      rfl
    have others := ih nodup (shares := taking s remainder a shares) (fun u hu => by
      rw [kept hu]
      exact known u (List.mem_cons_of_mem _ hu)) (remainder - min remainder (shareRoom s shares a))
    have parts : rest.map (shareIn (taking s remainder a shares)) = rest.map (shareIn shares) :=
      List.map_congr_left fun u hu => congrArg (·.getD 0) (kept hu)
    have rooms : rest.map (shareRoom s (taking s remainder a shares)) = rest.map (shareRoom s shares) :=
      List.map_congr_left fun u hu => shareRoom_congr (kept hu)
    rw [parts, rooms] at others
    rw [List.map_cons, List.sum_cons, first, giveOut_cons, others, List.map_cons, List.sum_cons, List.map_cons, List.sum_cons]
    omega

end

/-- The equal part of a member of the Running Set (R191, step 1). -/
def equalShare (s : State) (k : TrainKind) (t : Train) : Nat :=
  equalPart (s.dispatcher.target.natAbs / (runningSet s k).length) (trainLimit s t) (minLoadOf s t)

section
variable (s : State) (k : TrainKind)

/-- The remainder the equal parts leave of N (R191, step 2). -/
def remainderOf : Nat := s.dispatcher.target.natAbs - ((runningSet s k).map (equalShare s k)).sum

theorem sharesOf_eq : sharesOf s k = giveOut s (remainderOf s k)
    (rotationOrder (s.dispatcher.rotation k) k (runningSet s k)) ((runningSet s k).map fun t => (t, equalShare s k t)) := by
  have sum : sumOver Prod.snd ((runningSet s k).map fun t => (t, equalShare s k t)) =
      ((runningSet s k).map (equalShare s k)).sum := by
    rw [sumOver_map, sumOver_eq_sum]
  rw [remainderOf, ← sum]
  rfl

theorem sharesOf_order_perm : (rotationOrder (s.dispatcher.rotation k) k (runningSet s k)).Perm (runningSet s k) :=
  rotationOrder_perm _ (runningSet_nodup s k) fun _ h => (mem_runningSet_iff.1 h).1

theorem sharesOf_outside {t : Train} (h : t ∉ runningSet s k) : shareIn (sharesOf s k) t = 0 := by
  rw [shareIn, sharesOf_eq, giveOut_none (by rw [lookup_members, if_neg h])]
  rfl

variable {s k}

theorem shareRoom_members {t : Train} (h : t ∈ runningSet s k) :
    shareRoom s ((runningSet s k).map fun t => (t, equalShare s k t)) t = trainLimit s t - equalShare s k t := by
  rw [shareRoom, shareIn, lookup_members, if_pos h]
  rfl

/-- A member's share: its equal part, and of the remainder what those before it in Rotation Order leave, up to its Train
Limit. -/
theorem sharesOf_member {front back : List Train} {t : Train}
    (order : rotationOrder (s.dispatcher.rotation k) k (runningSet s k) = front ++ t :: back) :
    shareIn (sharesOf s k) t = equalShare s k t +
      min (remainderOf s k - (front.map fun u => trainLimit s u - equalShare s k u).sum) (trainLimit s t - equalShare s k t) := by
  have member {u : Train} (hu : u ∈ front ++ t :: back) : u ∈ runningSet s k :=
    (sharesOf_order_perm s k).mem_iff.1 (order ▸ hu)
  have rooms : front.map (shareRoom s ((runningSet s k).map fun t => (t, equalShare s k t))) =
      front.map fun u => trainLimit s u - equalShare s k u :=
    List.map_congr_left fun u hu => shareRoom_members (member (List.mem_append_left _ hu))
  have mem : t ∈ runningSet s k := member (by simp)
  have nodup := rotationOrder_nodup (s.dispatcher.rotation k) k (runningSet s k)
  rw [order] at nodup
  rw [shareIn, sharesOf_eq, order, giveOut_member nodup (by rw [lookup_members, if_pos mem]), rooms, shareRoom_members mem]
  rfl

variable (s k)

theorem sharesOf_sum : ((runningSet s k).map (shareIn (sharesOf s k))).sum = ((runningSet s k).map (equalShare s k)).sum +
    min (remainderOf s k) ((runningSet s k).map fun u => trainLimit s u - equalShare s k u).sum := by
  have perm := sharesOf_order_perm s k
  have given := giveOut_sum (s := s) (shares := (runningSet s k).map fun t => (t, equalShare s k t))
    (rotationOrder_nodup (s.dispatcher.rotation k) k (runningSet s k)) (fun t ht => ⟨_, by
      rw [lookup_members, if_pos (perm.mem_iff.1 ht)]⟩) (remainderOf s k)
  rw [← sharesOf_eq, (perm.map _).sum_eq, (perm.map _).sum_eq, (perm.map _).sum_eq] at given
  have parts : (runningSet s k).map (shareIn ((runningSet s k).map fun t => (t, equalShare s k t))) =
      (runningSet s k).map (equalShare s k) := List.map_congr_left fun u hu => by
    rw [shareIn, lookup_members, if_pos hu]
    rfl
  rw [given, parts, List.map_congr_left fun u hu => shareRoom_members hu]

end

/-! ### What an evaluation shows of its decisions -/

theorem evaluate_follows {s decided : State} {shares : List (Train × Nat)} (h : decidedState s = writeShares shares decided) :
    (∀ k, (evaluate s).dispatcher.rotation k = decided.dispatcher.rotation k) ∧
    ∀ t, ((evaluate s).train t).share = shareIn shares t ∧
      ((evaluate s).train t).runStart = (decided.train t).runStart ∧
      ((((evaluate s).train t).state = (decided.train t).state ∧ ((evaluate s).train t).released = (decided.train t).released) ∨
        ((decided.train t).state = .running ∧ ((evaluate s).train t).state = .unloading ∧
          ((evaluate s).train t).released = false)) := by
  refine ⟨fun k => ?_, fun t => ?_⟩
  · rw [evaluate_rotation, h, writeShares_dispatcher]
  · have written : (decidedState s).train t = { decided.train t with share := shareIn shares t } := by
      rw [h, writeShares_train]
      rfl
    rw [evaluate_train]
    obtain kept | ⟨running, unloaded⟩ := lowerIfAbove_cases (decidedState s) t
    · rw [kept, written]
      exact ⟨rfl, rfl, .inl ⟨rfl, rfl⟩⟩
    · rw [written] at running
      rw [unloaded, written]
      exact ⟨rfl, rfl, .inr ⟨running, rfl, rfl⟩⟩

theorem readyState_eq (s : State) : readyState s = { s with
    dispatcher := { s.dispatcher with
      generationCap := (evaluate s).dispatcher.generationCap, chargeCap := (evaluate s).dispatcher.chargeCap
      target := (evaluate s).dispatcher.target, direction := (evaluate s).dispatcher.direction } } := by
  rw [evaluate_direction, evaluate_target, evaluate_generationCap, evaluate_chargeCap]
  rfl

theorem activeKind_iff (d : Direction) (k : TrainKind) :
    activeKind d = some k ↔ (d = .generating ∧ k = .expander) ∨ (d = .charging ∧ k = .compressor) := by
  cases d <;> cases k <;> decide

/-- Settles O50: the stop decisions, the start decisions and the shares. -/
theorem stopsStartsAndSharesFollowTheTarget : Obligations.StopsStartsAndSharesFollowTheTarget := by
  unfold Obligations.StopsStartsAndSharesFollowTheTarget
  refine ⟨fun s => ?_, fun k s => ⟨fun t => mem_runningSet_iff, (trainsOf_ordered k).filter _, sumOver_eq_sum ..⟩,
    fun k fuel s => ?_, fun s those some_ => ?_, fun k fuel s => ?_, fun k s => ?_, fun s deployment t d => ?_, fun k s => ?_⟩
  · have ready := readyState_eq s
    have decides (k : TrainKind) : DecidesFor s k ↔ s.dispatcher.mode = .dispatching ∧
        (((evaluate s).dispatcher.direction = .generating ∧ k = .expander) ∨
          ((evaluate s).dispatcher.direction = .charging ∧ k = .compressor)) := and_congr_right fun _ => activeKind_iff ..
    have active {k : TrainKind} (h : DecidesFor s k) := evaluate_follows (decidedState_active h)
    have idle (h : ∀ k, ¬ DecidesFor s k) := evaluate_follows (decidedState_idle h)
    simp only [decides, ready] at active idle
    generalize evaluate s = e at active idle ⊢
    refine ⟨fun k h => ?_, fun none => ?_⟩
    · obtain ⟨rotation, train⟩ := active h
      exact ⟨⟨rotation .compressor, rotation .expander, fun t => (train t).2⟩, fun t => (train t).1⟩
    · obtain ⟨rotation, train⟩ := idle none
      exact ⟨⟨rotation .compressor, rotation .expander, fun t => (train t).2⟩, fun t => (train t).1⟩
  · intro set without
    have enough (t : Train) (found : eldest s set = some t) : runningSum s k - trainLimit s t = without t :=
      runningSum_without (eldest_mem found)
    refine ⟨rfl, fun empty => ?_, fun t found => ⟨fun stop => ?_, fun hold => ?_⟩, ?_⟩
    · exact stopDecisions_kept (fun t found => by rw [show runningSet s k = [] from empty] at found; cases found) _
    · exact stopDecisions_released found (by rw [enough t found]; exact stop) fuel
    · refine stopDecisions_kept (fun u other => ?_) _
      cases other.symm.trans found
      rw [enough t found]
      exact hold
    · exact stopDecisions_enough (runningSet_length_le s k) fuel
  · refine ⟨fun t => rfl, ?_⟩
    cases found : eldest s those with
    | none => exact absurd (eldest_none found) some_
    | some t =>
      obtain ⟨front, back, split_, before, after⟩ := eldest_first found
      exact ⟨front, t, back, split_, rfl, before, after⟩
  · intro n r walk
    refine ⟨rfl, fun met => ?_, fun short none => ?_, fun front phase t back d short split_ none may => ?_, fun own => ?_,
      fun phases pointer => ⟨walk_fst phases pointer, fun p => walk_phase⟩⟩
    · exact startDecisions_kept (fun short => absurd short (Nat.not_lt.2 met)) _
    · exact startDecisions_kept (fun _ => firstStartable_none none) _
    · intro moved start begun
      have found : firstStartable s (deploymentDriven s k) (s.dispatcher.rotation k).walk = some (phase, t, d) := by
        rw [show (s.dispatcher.rotation k).walk = _ from split_]
        exact firstStartable_first may none
      rw [startDecisions_started short found, startFrom_eq]
      cases k <;> rfl
    · exact startDecisions_enough own (readyTrains_length_le s k) fuel
  · intro energy called n cap
    rw [deploymentDriven, energyCalledFor_eq, cap_eq]
    simp only [Bool.and_eq_true, Bool.or_eq_true, decide_eq_true_iff, sameSign_iff]
    exact Iff.rfl
  · intro c warned need
    have request : startRequest s t d = need := startRequest_eq s t d
    refine ⟨?_, request⟩
    rw [startable_iff, request, ← Bool.not_eq_true, bandHolds_iff]
  · intro members n q equal given sum room met
    have all : met = (s.dispatcher.rotation k).walk.map Prod.snd ++ trainsOf k := by
      cases k <;> rfl
    refine ⟨fun t => sharesOf_outside s k, fun t sel selected => ?_,
      ⟨_, sharesOf_order_perm s k, by rw [all]; exact rotationOrder_ordered .., fun front t back => sharesOf_member⟩,
      sharesOf_sum s k⟩
    rw [minLoadOf, selected]

end Sys2Proof.Machine
end

/-!
The items of the Configuration Image and of CONFIGURE: how their words are read and what makes them sound: O54 and O55.
-/
section
namespace Sys2Proof.Machine

/-! ### Listings (R204) -/

theorem lists_trainKind : Lists listedTrainKind 2 := .of_list (l := [.compressor, .expander]) fun | 0 | 1 | _ + 2 => rfl

section
variable {α β : Type} {listed : Nat → Option α}

theorem readAll_map {code : β → Nat} {f : β → α} {l : List β} (h : ∀ b ∈ l, listed (code b) = some (f b)) :
    readAll listed (l.map code) = some (l.map f) := by
  induction l with
  | nil => rfl
  | cons b rest ih =>
    rw [List.map_cons, readAll, h b List.mem_cons_self, ih fun c hc => h c (List.mem_cons_of_mem _ hc)]
    rfl

theorem readAll_none {words : List Nat} {w : Nat} (mem : w ∈ words) (h : listed w = none) : readAll listed words = none := by
  induction words with
  | nil => cases mem
  | cons a rest ih =>
    unfold readAll
    obtain rfl | mem := List.mem_cons.1 mem
    · rw [h]
    · rw [ih mem]
      cases listed a <;> rfl

theorem readAll_length {words : List Nat} {l : List α} (h : readAll listed words = some l) : l.length = words.length := by
  induction words generalizing l with
  | nil =>
    cases h
    rfl
  | cons w rest ih =>
    unfold readAll at h
    split at h
    · next as _ found =>
      cases h
      rw [List.length_cons, List.length_cons, ih found]
    · cases h

end

/-! ### The identifiers and lengths of the items (R204) -/

/-- The identifiers 0x01 to 0x0C name the items in order. -/
theorem itemNamed_succ (n : Nat) : itemNamed (n + 1) = allItems[n]? := by
  by_cases small : n < 12
  · interval_cases n <;> rfl
  · have absent : allItems.find? (fun i => decide (itemIndex i + 1 = n + 1)) = none :=
      List.find?_eq_none.2 fun i _ => by
        have bound : itemIndex i < 12 := by cases i <;> decide
        simp only [decide_eq_true_iff]
        omega
    rw [List.getElem?_eq_none (Nat.not_lt.1 small)]
    exact absent

theorem itemNamed_none {identifier : Nat} (h : identifier = 0 ∨ 12 < identifier) : itemNamed identifier = none := by
  cases identifier with
  | zero => rfl
  | succ n =>
    rw [itemNamed_succ]
    exact List.getElem?_eq_none (show 12 ≤ n by omega)

theorem itemNamed_index (i : ItemId) : itemNamed (itemIndex i + 1) = some i := by
  rw [itemNamed_succ]
  cases i <;> rfl

theorem readBindings_length {words : List Nat} {b : PerTrain (Tank × Option Nat)} (h : readBindings words = some b) :
    words.length = 6 := by
  unfold readBindings at h
  split at h
  · next found => exact (readAll_length found).symm
  · cases h

theorem readPlain_length {i : ItemId} {words : List Nat} {item : ConfigItem} (h : readPlain i words = some item) :
    words.length = itemWords i := by
  unfold readPlain at h
  split at h
  case h_1 =>
    split at h
    · assumption
    · cases h
  case h_10 =>
    split at h
    · assumption
    · cases h
  case h_11 =>
    obtain ⟨b, read, -⟩ := Option.map_eq_some_iff.1 h
    exact readBindings_length read
  case h_12 => cases h
  all_goals rfl

theorem readItem_length {i : ItemId} {words : List Nat} {item : ConfigItem} (h : readItem i words = some item) :
    words.length = itemWords i := by
  unfold readItem at h
  split at h
  · split at h
    · assumption
    · cases h
  · exact readPlain_length h

/-- The value an item's words give belongs to that item. -/
theorem readPlain_itemId {i : ItemId} {words : List Nat} {item : ConfigItem} (h : readPlain i words = some item) :
    item.itemId = i := by
  unfold readPlain at h
  split at h
  case h_1 =>
    split at h <;> cases h
    rfl
  case h_10 =>
    split at h
    · split at h <;> cases h
      rfl
    · cases h
  case h_11 =>
    obtain ⟨b, -, rfl⟩ := Option.map_eq_some_iff.1 h
    rfl
  case h_12 => cases h
  all_goals
    cases h
    rfl

theorem readConfigure_itemId {i : ItemId} {words : List Nat} {item : ConfigItem} (h : readConfigure i words = some item) :
    item.itemId = i := by
  unfold readConfigure at h
  split at h
  · obtain ⟨rows, -, rfl⟩ := Option.map_eq_some_iff.1 h
    rfl
  · exact readPlain_itemId h

theorem readItem_plain {i : ItemId} (h : i ≠ .envelopeTable) (words : List Nat) : readItem i words = readPlain i words := by
  cases i with
  | envelopeTable => exact absurd rfl h
  | _ => rfl

theorem readConfigure_plain {i : ItemId} (h : i ≠ .envelopeTable) (words : List Nat) :
    readConfigure i words = readPlain i words := by
  cases i with
  | envelopeTable => exact absurd rfl h
  | _ => rfl

/-! ### An occurrence judged (R202) -/

section
variable {points : List (Nat × Nat)} {i : ItemId} {words : List Nat}

theorem judgeOccurrence_unread (h : readItem i words = none) : judgeOccurrence points (itemIndex i + 1, words) = none := by
  rw [judgeOccurrence, itemNamed_index]
  dsimp only
  rw [h]

theorem judgeOccurrence_read {item : ConfigItem} (h : readItem i words = some item) :
    judgeOccurrence points (itemIndex i + 1, words) = if itemSound points item then some item else none := by
  rw [judgeOccurrence, itemNamed_index]
  dsimp only
  rw [h]

theorem judgeOccurrence_iff {item : ConfigItem} : judgeOccurrence points (itemIndex i + 1, words) = some item ↔
    readItem i words = some item ∧ itemSound points item = true := by
  cases read : readItem i words with
  | none =>
    rw [judgeOccurrence_unread read]
    simp
  | some found =>
    rw [judgeOccurrence_read read]
    constructor
    · intro h
      split at h
      · next sound =>
        cases h
        exact ⟨rfl, sound⟩
      · cases h
    · rintro ⟨same, sound⟩
      cases same
      exact if_pos sound

/-- Words read as a value are judged by the value's checks. -/
theorem judgeOccurrence_value {value : ConfigItem} {sound : Prop} (read : readItem i words = some value)
    (checks : itemSound points value = true ↔ sound) :
    (sound → judgeOccurrence points (itemIndex i + 1, words) = some value) ∧
    (¬ sound → judgeOccurrence points (itemIndex i + 1, words) = none) := by
  rw [judgeOccurrence_read read]
  exact ⟨fun h => if_pos (checks.2 h), fun h => if_neg fun yes => h (checks.1 yes)⟩

end

/-! ### The values words lay out (R204) -/

theorem twoWords_split (n : Nat) : twoWords (n / 65536) (n % 65536) = n := by
  unfold twoWords
  omega

theorem readPoints_points (given : List (Nat × Nat)) :
    readPoints (given.flatMap fun p => [p.1 / 65536, p.1 % 65536] ++ [p.2]) = given := by
  induction given with
  | nil => rfl
  | cons p rest ih =>
    rw [List.flatMap_cons]
    show (twoWords _ _, p.2) :: readPoints (rest.flatMap _) = p :: rest
    rw [twoWords_split, ih]

theorem points_length (given : List (Nat × Nat)) :
    (given.flatMap fun p => [p.1 / 65536, p.1 % 65536] ++ [p.2]).length = 3 * given.length := by
  induction given with
  | nil => rfl
  | cons p rest ih =>
    rw [List.flatMap_cons, List.length_append, ih, List.length_cons]
    simp only [List.length_append, List.length_cons, List.length_nil]
    omega

theorem pointsIncrease_iff (points : List (Nat × Nat)) :
    pointsIncrease points = true ↔ points.Pairwise fun a b => a.1 < b.1 ∧ a.2 < b.2 := by
  refine ⟨pointsIncrease_pairwise, fun h => ?_⟩
  induction points with
  | nil => rfl
  | cons a rest ih =>
    cases rest with
    | nil => rfl
    | cons b rest =>
      obtain ⟨first, tail⟩ := List.pairwise_cons.1 h
      obtain ⟨mass, pressure⟩ := first b List.mem_cons_self
      rw [pointsIncrease, decide_eq_true mass, decide_eq_true pressure, ih tail]
      rfl

theorem inRange_iff (lo hi n : Nat) : inRange lo hi n = true ↔ lo ≤ n ∧ n ≤ hi := by
  rw [inRange, Bool.and_eq_true, decide_eq_true_iff, decide_eq_true_iff]

theorem thresholdsWithin_iff (points : List (Nat × Nat)) (th : Thresholds) : thresholdsWithin points th = true ↔
    ∃ lowest highest, points.head? = some lowest ∧ points.getLast? = some highest ∧
      lowest.2 ≤ th.lowLimit ∧ th.highLimit ≤ highest.2 := by
  unfold thresholdsWithin
  split
  · next lowest highest head last =>
    rw [Bool.and_eq_true, decide_eq_true_iff, decide_eq_true_iff]
    refine ⟨fun ⟨low, high⟩ => ⟨lowest, highest, head, last, low, high⟩, ?_⟩
    rintro ⟨a, b, head', last', low, high⟩
    cases head.symm.trans head'
    cases last.symm.trans last'
    exact ⟨low, high⟩
  · next absent =>
    refine Iff.intro (fun h => nomatch h) ?_
    rintro ⟨lowest, highest, head, last, -⟩
    exact absurd last (absent lowest highest head)

theorem thresholdsWithin_between {points : List (Nat × Nat)} {lowest highest : Nat × Nat} (head : points.head? = some lowest)
    (last : points.getLast? = some highest) (th : Thresholds) :
    thresholdsWithin points th = true ↔ lowest.2 ≤ th.lowLimit ∧ th.highLimit ≤ highest.2 := by
  rw [thresholdsWithin, head, last]
  dsimp only
  rw [Bool.and_eq_true, decide_eq_true_iff, decide_eq_true_iff]

theorem thresholdsIncrease_iff (th : Thresholds) :
    thresholdsIncrease th = true ↔ th.lowLimit < th.lowWarn ∧ th.lowWarn < th.highWarn ∧ th.highWarn < th.highLimit := by
  simp only [thresholdsIncrease, Bool.and_eq_true, decide_eq_true_iff, and_assoc]

theorem upperOctet_of {hi lo : Nat} (h : hi < 256) (l : lo < 256) : upperOctet (hi * 256 + lo) = hi := by
  unfold upperOctet
  omega

theorem lowerOctet_of {hi lo : Nat} (l : lo < 256) : lowerOctet (hi * 256 + lo) = lo := by
  unfold lowerOctet
  omega

/-! ### Duty Rotations and bindings -/

theorem readPlain_rotations {compressor expander : List Train} (h : compressor.length = 12) (k : expander.length = 12) :
    readPlain .dutyRotations ((compressor ++ expander).map trainIndex) = some (.dutyRotations compressor expander) := by
  have first : ((compressor ++ expander).map trainIndex).take 12 = compressor.map trainIndex := by
    rw [← List.map_take, ← h, List.take_left]
  have second : ((compressor ++ expander).map trainIndex).drop 12 = expander.map trainIndex := by
    rw [← List.map_drop, ← h, List.drop_left]
  have whole : ((compressor ++ expander).map trainIndex).length = 24 := by
    rw [List.length_map, List.length_append, h, k]
  have read (l : List Train) : readAll trainAt (l.map trainIndex) = some l := by
    rw [readAll_map (f := id) fun t _ => listed_train t, List.map_id]
  unfold readPlain
  dsimp only
  rw [if_pos whole, first, second, read, read]

theorem readPlain_rotations_unlisted {words : List Nat} {w : Nat} (mem : w ∈ words) (h : 6 ≤ w) :
    readPlain .dutyRotations words = none := by
  have unlisted : trainAt w = none := lists_train.1 w h
  rw [← List.take_append_drop 12 words, List.mem_append] at mem
  unfold readPlain
  dsimp only
  split
  · obtain mem | mem := mem
    · rw [readAll_none mem unlisted]
    · rw [readAll_none mem unlisted]
      cases readAll trainAt (words.take 12) <;> rfl
  · rfl

theorem readBinding_spelled (tank : Tank) {selector : Option Nat} (h : ∀ n, selector = some n → n < 24) :
    readBinding (tankIndex tank * 256 + selector.getD 255) = some (tank, selector) := by
  have small : selector.getD 255 < 256 := by
    cases selector with
    | none => decide
    | some n => exact (h n rfl).trans (by decide)
  have tank_ : tankIndex tank < 256 := by cases tank <;> decide
  unfold readBinding
  rw [upperOctet_of tank_ small, lowerOctet_of small, listed_tank]
  cases selector with
  | none => rfl
  | some n => exact if_pos (h n rfl)

theorem readBinding_unlisted {w : Nat} (word : w < 65536) (h : 3 ≤ w / 256 ∨ (24 ≤ w % 256 ∧ w % 256 ≠ 255)) :
    readBinding w = none := by
  unfold readBinding upperOctet lowerOctet
  obtain h | ⟨above, notAbsent⟩ := h
  · rw [lists_tank.1 _ (show 3 ≤ w / 256 % 256 by omega)]
  · cases tankAt (w / 256 % 256) with
    | none => rfl
    | some tank =>
      dsimp only
      rw [if_neg (by omega), if_neg notAbsent]

theorem readBindings_spelled {b : PerTrain (Tank × Option Nat)} (h : ∀ t n, (b.get t).2 = some n → n < 24) :
    readBindings (allTrains.map fun t => tankIndex (b.get t).1 * 256 + ((b.get t).2).getD 255) = some b := by
  have read : readAll readBinding (allTrains.map fun t => tankIndex (b.get t).1 * 256 + ((b.get t).2).getD 255) =
      some (allTrains.map fun t => b.get t) := readAll_map fun t _ => readBinding_spelled _ (h t)
  unfold readBindings
  rw [read]
  rfl

theorem readBindings_unlisted {words : List Nat} {w : Nat} (mem : w ∈ words) (word : w < 65536)
    (h : 3 ≤ w / 256 ∨ (24 ≤ w % 256 ∧ w % 256 ≠ 255)) : readBindings words = none := by
  unfold readBindings
  rw [readAll_none mem (readBinding_unlisted word h)]

/-! ### The Envelope Table -/

theorem rowsOf_flatten {rows : List (List Nat)} (h : ∀ row ∈ rows, row.length = 8) : rowsOf rows.length rows.flatten = rows := by
  induction rows with
  | nil => rfl
  | cons row rest ih =>
    have eight : row.length = 8 := h row List.mem_cons_self
    rw [List.length_cons, rowsOf, List.flatten_cons, ← eight, List.take_left, List.drop_left,
      ih fun r hr => h r (List.mem_cons_of_mem _ hr)]

theorem mem_rowsOf {n row : Nat} (h : row < n) (words : List Nat) : (words.drop (8 * row)).take 8 ∈ rowsOf n words := by
  induction n generalizing row words with
  | zero => omega
  | succ n ih =>
    cases row with
    | zero => exact List.mem_cons_self
    | succ row =>
      have later := ih (Nat.succ_lt_succ_iff.1 h) (words.drop 8)
      rw [List.drop_drop, Nat.add_comm 8] at later
      exact List.mem_cons_of_mem _ later

theorem optionalWord_getD {a : Option Nat} (h : a ≠ some 65535) : optionalWord (a.getD 65535) = a := by
  cases a with
  | none => rfl
  | some n => exact if_neg fun e => h (congrArg some e)

theorem readDescriptor_words {d : Descriptor} (h : d.spelled) : readDescriptor (descriptorWords d) = some d := by
  obtain ⟨⟨-, -, -, up, down, -⟩, cold, heat⟩ := h
  have flag (b : Bool) : listedFlag b.toNat = some b := by cases b <;> rfl
  have small (b : Bool) : b.toNat < 256 := by cases b <;> decide
  unfold readDescriptor descriptorWords
  dsimp only
  rw [upperOctet_of (trainKindCode_lt _) (small _), lowerOctet_of (small _), listed_trainKind, flag, flag,
    upperOctet_of up down, lowerOctet_of down, optionalWord_getD cold, optionalWord_getD heat]

theorem readDescriptor_unlisted {words : List Nat} (h : unlistedRow words) : readDescriptor words = none := by
  unfold readDescriptor
  split
  · next head minLoad maxLoad coldMax ramps startLimit heatRate reserve =>
    obtain ⟨first, at_, kind | flag⟩ | ⟨last, at_, flag⟩ := h
    · cases at_
      rw [upperOctet, lists_trainKind.1 _ kind]
    · cases at_
      rw [lowerOctet, lists_flag.1 _ flag]
      cases listedTrainKind (upperOctet head) <;> rfl
    · cases at_
      rw [lists_flag.1 _ flag]
      cases listedTrainKind (upperOctet head) <;> cases listedFlag (lowerOctet head) <;> rfl
  · rfl

theorem readDescriptors_words {rows : List Descriptor} (h : ∀ d ∈ rows, d.spelled) :
    readDescriptors (rows.map descriptorWords) = some rows := by
  induction rows with
  | nil => rfl
  | cons d rest ih =>
    rw [List.map_cons, readDescriptors, readDescriptor_words (h d List.mem_cons_self),
      ih fun e he => h e (List.mem_cons_of_mem _ he)]

theorem readDescriptors_none {rows : List (List Nat)} {row : List Nat} (mem : row ∈ rows) (h : readDescriptor row = none) :
    readDescriptors rows = none := by
  induction rows with
  | nil => cases mem
  | cons r rest ih =>
    unfold readDescriptors
    obtain rfl | mem := List.mem_cons.1 mem
    · rw [h]
    · rw [ih mem]
      cases readDescriptor r <;> rfl

theorem descriptorWords_length (rows : List Descriptor) : (rows.flatMap descriptorWords).length = 8 * rows.length := by
  induction rows with
  | nil => rfl
  | cons d rest ih =>
    rw [List.flatMap_cons, List.length_append, ih, List.length_cons]
    show 8 + _ = _
    omega

theorem rowsOf_descriptorWords (rows : List Descriptor) :
    rowsOf rows.length (rows.flatMap descriptorWords) = rows.map descriptorWords := by
  have eight : ∀ row ∈ rows.map descriptorWords, row.length = 8 := by
    intro row hr
    obtain ⟨d, -, rfl⟩ := List.mem_map.1 hr
    rfl
  have cut := rowsOf_flatten eight
  rw [List.length_map] at cut
  exact cut

theorem descriptors_sound_iff (rows : List Descriptor) :
    (rows.all fun d => descriptorKindFits d && descriptorInRange d) = true ↔ ∀ d ∈ rows, d.KindFits ∧ d.InRange := by
  simp only [List.all_eq_true, Bool.and_eq_true, descriptorKindFits_iff, descriptorInRange_iff]
  exact Iff.rfl

/-- Settles O54: the items of the image by their words and their checks. -/
theorem itemsOfTheImageAreJudgedByTheirChecks : Obligations.ItemsOfTheImageAreJudgedByTheirChecks := by
  unfold Obligations.ItemsOfTheImageAreJudgedByTheirChecks
  intro points judged item double sizes
  refine ⟨fun identifier words h => ?_, fun identifier words size sized wrong => ?_, fun given nine => ?_,
    fun a b c d lowest highest head last => ?_, fun v => ?_, fun a b c d => ?_, fun ref use nom band loss => ?_, fun v => ?_,
    fun v => ?_, fun v => ?_, fun v => ?_, fun compressor expander h k => ?_, fun words ⟨w, mem, above⟩ => ?_,
    fun rows count spelled => ?_, fun words row count within unlisted => ?_, fun b selectors => ?_,
    fun words ⟨w, mem, word, unlisted⟩ => ?_⟩
  · show judgeOccurrence points (identifier, words) = none
    rw [judgeOccurrence, itemNamed_none h]
  · have of_items : sizes = allItems.map itemWords := rfl
    rw [of_items, List.getElem?_map] at sized
    obtain ⟨i, named, rfl⟩ := Option.map_eq_some_iff.1 sized
    have unread : readItem i words = none := Option.eq_none_iff_forall_ne_some.2 fun v read => wrong (readItem_length read)
    show judgeOccurrence points (identifier + 1, words) = none
    rw [judgeOccurrence, itemNamed_succ, named]
    dsimp only
    rw [unread]
  · have words : readItem .characteristic (given.flatMap fun p => double p.1 ++ [p.2]) = some (.characteristic given) := by
      refine (if_pos ?_).trans (congrArg (some ∘ ConfigItem.characteristic) (readPoints_points given))
      rw [points_length, nine]
    exact judgeOccurrence_value (i := .characteristic) words (pointsIncrease_iff given)
  · refine judgeOccurrence_value (i := .thresholds) rfl ?_
    rw [itemSound, Bool.and_eq_true, thresholdsIncrease_iff, thresholdsWithin_between head last, and_assoc, and_assoc]
  · exact judgeOccurrence_value (i := .rateLimit) rfl (inRange_iff ..)
  · refine judgeOccurrence_value (i := .plantRates) rfl ?_
    simp only [itemSound, Bool.and_eq_true, inRange_iff, and_assoc]
  · refine judgeOccurrence_value (i := .heatConstants) rfl ?_
    simp only [itemSound, Bool.and_eq_true, decide_eq_true_iff, inRange_iff, and_assoc]
  · have read : readItem .tankCapacities (allTanks.flatMap fun tank => double (v.get tank)) = some (.tankCapacities v) := by
      show some (ConfigItem.tankCapacities { t1 := twoWords _ _, t2 := twoWords _ _, t3 := twoWords _ _ }) = _
      rw [twoWords_split, twoWords_split, twoWords_split]
      rfl
    refine judgeOccurrence_value (i := .tankCapacities) read ?_
    simp only [itemSound, Bool.and_eq_true, inRange_iff]
    exact ⟨fun ⟨⟨a, b⟩, c⟩ tank => by cases tank <;> assumption, fun all => ⟨⟨all .t1, all .t2⟩, all .t3⟩⟩
  · exact judgeOccurrence_value (i := .creditWindow) rfl (inRange_iff ..)
  · exact judgeOccurrence_value (i := .gateLead) rfl (inRange_iff ..)
  · exact judgeOccurrence_value (i := .silenceTimeout) rfl (inRange_iff ..)
  · refine judgeOccurrence_value (i := .dutyRotations) (readPlain_rotations h k) ?_
    simp only [itemSound, Bool.and_eq_true, List.all_eq_true, decide_eq_true_iff]
  · exact judgeOccurrence_unread (i := .dutyRotations) (readPlain_rotations_unlisted mem above)
  · have read : readItem .envelopeTable (rows.flatMap descriptorWords) = some (.envelopeTable 0 rows) := by
      refine (if_pos (by rw [descriptorWords_length, count])).trans ?_
      rw [← count, rowsOf_descriptorWords, readDescriptors_words spelled]
      rfl
    exact judgeOccurrence_value (i := .envelopeTable) read (descriptors_sound_iff rows)
  · have cut : unlistedRow ((words.drop (8 * row)).take 8) := by
      obtain ⟨first, at_, h⟩ | ⟨last, at_, h⟩ := unlisted
      · exact .inl ⟨first, by rw [List.getElem?_take_of_lt (by decide)]; exact at_, h⟩
      · exact .inr ⟨last, by rw [List.getElem?_take_of_lt (by decide)]; exact at_, h⟩
    refine judgeOccurrence_unread (i := .envelopeTable) ((if_pos count).trans ?_)
    rw [readDescriptors_none (mem_rowsOf within words) (readDescriptor_unlisted cut)]
    rfl
  · have read : readItem .bindings (allTrains.map fun t => tankIndex (b.get t).1 * 256 + ((b.get t).2).getD 255) =
        some (.bindings b) := congrArg (Option.map ConfigItem.bindings) (readBindings_spelled selectors)
    exact (judgeOccurrence_read (i := .bindings) read).trans (if_pos rfl)
  · exact judgeOccurrence_unread (i := .bindings) (congrArg (Option.map ConfigItem.bindings) (readBindings_unlisted mem word unlisted))

/-! ### CONFIGURE: Kinds, soundness, use, value in force (R205) -/

theorem kindsFit_plain {i : ItemId} (h : i ≠ .envelopeTable) (words : List Nat) : kindsFit i words = true := by
  cases i with
  | envelopeTable => exact absurd rfl h
  | _ => rfl

theorem configureSound_iff (s : State) (item : ConfigItem) : configureSound s item = true ↔
    itemSound s.cavern.characteristic item = true ∧
    ∀ given, item = .characteristic given → thresholdsWithin given s.cavern.thresholds = true := by
  cases item with
  | characteristic points =>
    show (itemSound _ _ && thresholdsWithin points s.cavern.thresholds) = true ↔ _
    rw [Bool.and_eq_true]
    refine and_congr_right fun _ => ⟨fun h given same => ?_, fun h => h points rfl⟩
    cases same
    exact h
  | _ =>
    show (itemSound _ _ && true) = true ↔ _
    rw [Bool.and_true]
    exact (and_iff_left fun _ same => nomatch same).symm

/-- The rows a part of the Envelope Table gives are cut from its words. -/
theorem givenRows_flatten (first : Nat) {rows : List (List Nat)} (h : ∀ row ∈ rows, row.length = 8) :
    givenRows (first :: rows.flatten) = rows := by
  have length : rows.flatten.length = 8 * rows.length := by
    rw [List.length_flatten, List.map_congr_left h, List.map_const', List.sum_replicate, smul_eq_mul, Nat.mul_comm]
  have count : ((first :: rows.flatten).length - 1) / 8 = rows.length := by
    rw [List.length_cons, Nat.add_sub_cancel, length]
    omega
  rw [givenRows, count]
  exact rowsOf_flatten h

theorem givenRows_descriptors (first : Nat) (rows : List Descriptor) :
    givenRows (first :: rows.flatMap descriptorWords) = rows.map descriptorWords := by
  rw [List.flatMap_def]
  refine givenRows_flatten first fun row hr => ?_
  obtain ⟨d, -, rfl⟩ := List.mem_map.1 hr
  rfl

theorem beq_decide_iff (p q : Prop) [Decidable p] [Decidable q] : (decide p == decide q) = true ↔ (p ↔ q) := by
  rw [beq_iff_eq, decide_eq_decide]

/-- The Kinds of a row: Cold Max exactly for an EXPANDER, Heat Rate exactly for a COMPRESSOR. -/
theorem rowKindFits_iff {row : List Nat} (eight : row.length = 8) (word : ∀ w ∈ row, w < 65536) : rowKindFits row = true ↔
    ∀ head cold heat, row[0]? = some head → row[3]? = some cold → row[6]? = some heat →
      (cold ≠ 65535 ↔ head / 256 = 1) ∧ (heat ≠ 65535 ↔ head / 256 = 0) := by
  match row, eight with
  | [head, minLoad, maxLoad, cold, ramps, limit, heat, reserve], _ =>
    have octet : upperOctet head = head / 256 := by
      have := word head List.mem_cons_self
      unfold upperOctet
      omega
    rw [rowKindFits, Bool.and_eq_true, beq_decide_iff, beq_decide_iff, octet]
    refine ⟨fun h a b c ha hb hc => ?_, fun h => h head cold heat rfl rfl rfl⟩
    cases ha
    cases hb
    cases hc
    exact h

theorem rowKindFits_words {d : Descriptor} (h : d.spelled) : rowKindFits (descriptorWords d) = true ↔ d.KindFits := by
  obtain ⟨-, cold, heat⟩ := h
  have valid : d.valid.toNat < 256 := by cases d.valid <;> decide
  have present {a : Option Nat} (ha : a ≠ some 65535) : a.getD 65535 ≠ 65535 ↔ a.isSome = true := by
    cases a with
    | none => simp
    | some n => exact ⟨fun _ => rfl, fun _ e => ha (congrArg some e)⟩
  have kind : (trainKindCode d.kind = 1 ↔ d.kind = .expander) ∧ (trainKindCode d.kind = 0 ↔ d.kind = .compressor) := by
    cases d.kind <;> decide
  unfold rowKindFits descriptorWords
  dsimp only
  rw [Bool.and_eq_true, beq_decide_iff, beq_decide_iff, upperOctet_of (trainKindCode_lt _) valid, present cold, present heat,
    kind.1, kind.2]
  exact Iff.rfl

theorem rowsHold_iff (rows : List EnvelopeRow) (first : Nat) (given : List Descriptor) : rowsHold rows first given = true ↔
    ∀ n d, given[n]? = some d → ∃ row, rows[first + n]? = some row ∧ row.descriptor = d := by
  rw [rowsHold, decide_eq_true_iff]
  have at_ (n : Nat) : (((rows.drop first).take given.length).map EnvelopeRow.descriptor)[n]? =
      if n < given.length then rows[first + n]?.map EnvelopeRow.descriptor else none := by
    rw [List.getElem?_map, List.getElem?_take]
    split
    · rw [List.getElem?_drop]
    · rfl
  constructor
  · intro same n d hd
    have here := at_ n
    rw [same, hd, if_pos (List.getElem?_eq_some_iff.1 hd).1] at here
    exact Option.map_eq_some_iff.1 here.symm
  · intro h
    refine List.ext_getElem? fun n => ?_
    rw [at_]
    cases hd : given[n]? with
    | none => exact if_neg (Nat.not_lt.2 (List.getElem?_eq_none_iff.1 hd))
    | some d =>
      obtain ⟨row, found, rfl⟩ := h n d hd
      rw [if_pos (List.getElem?_eq_some_iff.1 hd).1, found]
      rfl

theorem perTrain_eq_iff {α : Type} (a b : PerTrain α) : a = b ↔ ∀ t, a.get t = b.get t := by
  refine ⟨fun h t => by rw [h], fun h => ?_⟩
  have k1 := h .k1
  have k2 := h .k2
  have k3 := h .k3
  have x1 := h .x1
  have x2 := h .x2
  have x3 := h .x3
  cases a
  cases b
  simp_all [PerTrain.get]

theorem perTank_eq_iff {α : Type} (a b : PerTank α) : a = b ↔ ∀ tank, a.get tank = b.get tank := by
  refine ⟨fun h t => by rw [h], fun h => ?_⟩
  have t1 := h .t1
  have t2 := h .t2
  have t3 := h .t3
  cases a
  cases b
  simp_all [PerTank.get]

theorem inForce_bindings (s : State) (b : PerTrain (Tank × Option Nat)) : inForce s (.bindings b) = true ↔
    ∀ t, b.get t = ((s.train t).boundTank, (s.train t).selection.map Selection.selector) := by
  rw [inForce, decide_eq_true_iff, perTrain_eq_iff]
  refine forall_congr' fun t => ?_
  cases t <;> exact Iff.rfl

theorem inForce_capacities (s : State) (v : PerTank Nat) : inForce s (.tankCapacities v) = true ↔
    ∀ tank, v.get tank = (s.tank tank).capacity := by
  rw [inForce, decide_eq_true_iff, perTank_eq_iff]
  refine forall_congr' fun tank => ?_
  cases tank <;> exact Iff.rfl

theorem capacitiesInUse_iff (s : State) (v : PerTank Nat) :
    (allTanks.any fun tank => decide ((s.tank tank).capacity ≠ v.get tank) && tankInUse s tank) = true ↔
      ∃ t, (s.tank (s.train t).boundTank).capacity ≠ v.get (s.train t).boundTank ∧
        ((s.train t).state = .starting ∨ (s.train t).state = .running ∨ (s.train t).state = .unloading) := by
  simp only [List.any_eq_true, Bool.and_eq_true, decide_eq_true_iff, tankInUse_iff]
  constructor
  · rintro ⟨tank, -, other, t, rfl, work⟩
    exact ⟨t, other, work⟩
  · rintro ⟨t, other, work⟩
    exact ⟨_, by cases (s.train t).boundTank <;> decide, other, t, rfl, work⟩

theorem bindingsInUse_iff (s : State) (b : PerTrain (Tank × Option Nat)) :
    (allTrains.any fun t => decide ((s.train t).boundTank ≠ (b.get t).1) && inUse (s.train t).state) = true ↔
      ∃ t, (s.train t).boundTank ≠ (b.get t).1 ∧
        ((s.train t).state = .starting ∨ (s.train t).state = .running ∨ (s.train t).state = .unloading) := by
  simp only [List.any_eq_true, Bool.and_eq_true, decide_eq_true_iff, inUse_iff, mem_allTrains, true_and]

theorem configureInUse_other {item : ConfigItem} (capacities : item.itemId ≠ .tankCapacities)
    (bindings : item.itemId ≠ .bindings) (s : State) : configureInUse s item = none := by
  cases item with
  | tankCapacities v => exact absurd rfl capacities
  | bindings b => exact absurd rfl bindings
  | _ => rfl

/-- Settles O55: the terms in which CONFIGURE judges a body, reads it, and compares it with what is in use and in force. -/
theorem configureJudgesReadsAndCompares : Obligations.ConfigureJudgesReadsAndCompares := by
  unfold Obligations.ConfigureJudgesReadsAndCompares
  refine ⟨fun i words s plain => ⟨kindsFit_plain plain words, fun item => ?_⟩, fun first rows shaped => ?_,
    fun first rows s spelled => ?_, fun item s => ?_, fun s => ?_⟩
  · rw [judgeOccurrence_iff, readItem_plain plain, readConfigure_plain plain, configureSound_iff, and_assoc]
    simp only [thresholdsWithin_iff]
  · intro words
    have given : givenRows words = rows := givenRows_flatten first fun row hr => (shaped row hr).1
    refine ⟨?_, fun ⟨row, mem, unlisted⟩ => ?_⟩
    · rw [kindsFit]
      rw [given, List.all_eq_true]
      exact forall₂_congr fun row hr => rowKindFits_iff (shaped row hr).1 (shaped row hr).2
    · rw [readConfigure]
      rw [given, readDescriptors_none mem (readDescriptor_unlisted unlisted)]
      rfl
  · intro words
    have given : givenRows words = rows.map descriptorWords := givenRows_descriptors first rows
    refine ⟨?_, ?_, ?_⟩
    · rw [readConfigure]
      rw [given, readDescriptors_words spelled]
      rfl
    · rw [kindsFit]
      rw [given, List.all_map, List.all_eq_true]
      exact forall₂_congr fun d hd => rowKindFits_words (spelled d hd)
    · rw [configureSound_iff]
      exact (and_iff_left fun given same => nomatch same).trans (descriptors_sound_iff rows)
  · intro working used
    refine ⟨fun v same => ?_, fun b same => ?_, fun capacities bindings => configureInUse_other capacities bindings s⟩
    · subst same
      refine ⟨fun some_ => if_pos ((capacitiesInUse_iff s v).2 some_), fun none => if_neg ((capacitiesInUse_iff s v).not.2 ?_)⟩
      rintro ⟨t, other, work⟩
      exact (none t).elim other (absurd work)
    · subst same
      refine ⟨fun some_ => if_pos ((bindingsInUse_iff s b).2 some_), fun none => if_neg ((bindingsInUse_iff s b).not.2 ?_)⟩
      rintro ⟨t, other, work⟩
      exact (none t).elim other (absurd work)
  · intro same
    refine ⟨fun v => decide_eq_true_iff, fun v => decide_eq_true_iff, fun v => decide_eq_true_iff, fun v => decide_eq_true_iff,
      fun v => decide_eq_true_iff, inForce_capacities s, fun v => decide_eq_true_iff, fun v => decide_eq_true_iff,
      fun v => decide_eq_true_iff, fun compressor expander => ?_, fun first rows => rowsHold_iff ..,
      inForce_bindings s⟩
    show inForce s _ = true ↔ _
    rw [inForce, Bool.and_eq_true, decide_eq_true_iff, decide_eq_true_iff]

end Sys2Proof.Machine
end

/-!
The Configuration Image and the end of the load: O52.
-/
section
namespace Sys2Proof.Machine

/-! ### What the taking of an item leaves (R200, R203) -/

/-- The raised events of a later state are those of an earlier one, followed by others that hand no item to an owner. -/
def HandsNothing (s s' : State) : Prop := ∃ more, s'.raised = s.raised ++ more ∧ ∀ r ∈ more, handedItem r = none

section
variable {s s' s'' : State}

theorem HandsNothing.of_eq (h : s'.raised = s.raised) : HandsNothing s s' := ⟨[], by rw [h, List.append_nil], by simp⟩

theorem HandsNothing.trans (h : HandsNothing s s') (k : HandsNothing s' s'') : HandsNothing s s'' := by
  obtain ⟨more, raised, quiet⟩ := h
  obtain ⟨more', raised', quiet'⟩ := k
  refine ⟨more ++ more', by rw [raised', raised, List.append_assoc], fun r hr => ?_⟩
  exact (List.mem_append.1 hr).elim (quiet r) (quiet' r)

theorem handsNothing_raise {r : Raised} (h : handedItem r = none) (s : State) : HandsNothing s (raise r s) :=
  ⟨[r], rfl, by simpa using h⟩

theorem handsNothing_raiseAll {rs : List Raised} (h : ∀ r ∈ rs, handedItem r = none) (s : State) :
    HandsNothing s (raiseAll rs s) := ⟨rs, rfl, h⟩

theorem handsNothing_topNotices (before s : State) : HandsNothing s (topNotices before s) :=
  handsNothing_raiseAll (fun r hr => by
    obtain ⟨tank, -, rfl⟩ := List.mem_map.1 hr
    rfl) s

theorem handsNothing_noticeTrains (ts : List Train) (s : State) : HandsNothing s (noticeTrains ts s) :=
  handsNothing_raiseAll (fun r hr => by
    obtain ⟨t, -, rfl⟩ := List.mem_map.1 hr
    rfl) s

theorem handsNothing_reinterpolate (s : State) : HandsNothing s (reinterpolate s) := by
  unfold reinterpolate
  dsimp only
  split
  · exact .of_eq (by simp)
  · exact .trans (.of_eq (by simp)) (handsNothing_raise rfl _)

theorem handsNothing_judgeSilence (s : State) (t : Train) : HandsNothing s (judgeSilence s t) := by
  unfold judgeSilence
  split
  · exact .trans (.of_eq (by simp)) (handsNothing_raise (r := .train t) rfl (moveToRest t .lost s))
  · exact .of_eq rfl

theorem handsNothing_foldl {f : State → Train → State} (h : ∀ s t, HandsNothing s (f s t)) (l : List Train) (s : State) :
    HandsNothing s (l.foldl f s) := by
  induction l generalizing s with
  | nil => exact .of_eq rfl
  | cons t l ih => exact (h s t).trans (ih _)

theorem HandsNothing.itemsHanded (h : HandsNothing s s') : Machine.itemsHanded s' = Machine.itemsHanded s := by
  obtain ⟨more, raised, quiet⟩ := h
  have none : more.any (fun r => (handedItem r).isSome) = false :=
    List.any_eq_false.2 fun r hr => by simp [quiet r hr]
  rw [Machine.itemsHanded, raised, List.any_append, none, Bool.or_false]
  rfl

end

theorem handsNothing_triggerPass {s s' : State} (h : HandsNothing s s') : HandsNothing s (triggerPass s') :=
  h.trans (.of_eq (by simp))

theorem handsNothing_triggerPassIf (cause : Bool) (s : State) : HandsNothing s (triggerPassIf cause s) := .of_eq (by simp)

theorem handsNothing_takeItem (i : ConfigItem) (s : State) : HandsNothing s (takeItem i s) := by
  cases i <;> simp only [takeItem]
  case characteristic points =>
    exact handsNothing_triggerPass (.trans (.of_eq rfl) (handsNothing_reinterpolate _))
  case thresholds th =>
    exact handsNothing_triggerPass (.trans (.of_eq rfl) (handsNothing_reinterpolate _))
  case heatConstants c =>
    exact handsNothing_triggerPass (.trans (.of_eq rfl) (handsNothing_topNotices s _))
  case tankCapacities c =>
    exact handsNothing_triggerPass (.trans (.of_eq rfl) (handsNothing_topNotices s _))
  case silenceTimeout ms =>
    exact .trans (.of_eq rfl) (handsNothing_foldl handsNothing_judgeSilence allTrains _)
  case dutyRotations compressor expander => exact .of_eq (by simp)
  case bindings b =>
    have bound : HandsNothing s (allTrains.foldl (fun k t => bindTrain t (b.get t) k) s) :=
      handsNothing_foldl (f := fun k t => bindTrain t (b.get t) k) (fun k t => .of_eq (by simp)) allTrains s
    exact bound.trans ((handsNothing_noticeTrains _ _).trans (handsNothing_triggerPassIf _ _))
  all_goals exact .of_eq rfl

/-- Only the taking of the Duty Rotations, by its evaluation, may move the mode: from STOPPING to STANDBY. -/
theorem takeItem_mode (i : ConfigItem) (s : State) : (takeItem i s).dispatcher.mode =
    if s.dispatcher.mode = .stopping then (takeItem i s).dispatcher.mode else s.dispatcher.mode := by
  split
  · rfl
  · next running =>
    cases i <;> simp only [takeItem]
    case dutyRotations compressor expander =>
      rw [takeRotations, evaluate_mode, if_neg fun both => running both.1]
      rfl
    case silenceTimeout ms => simp
    case bindings b => simp
    case characteristic points => simp
    case thresholds th => simp
    case heatConstants c => simp
    case tankCapacities c => simp
    all_goals rfl

theorem takeItem_unconfigured (i : ConfigItem) (s : State) :
    (takeItem i s).dispatcher.mode = .unconfigured ↔ s.dispatcher.mode = .unconfigured := by
  by_cases stopping : s.dispatcher.mode = .stopping
  · have other : (takeItem i s).dispatcher.mode = .stopping ∨ (takeItem i s).dispatcher.mode = .standby := by
      cases i <;> simp only [takeItem]
      case dutyRotations compressor expander =>
        rw [takeRotations, evaluate_mode]
        split
        · exact .inr rfl
        · exact .inl stopping
      case silenceTimeout ms => exact .inl (by simpa using stopping)
      case bindings b => exact .inl (by simpa using stopping)
      case characteristic points => exact .inl (by simpa using stopping)
      case thresholds th => exact .inl (by simpa using stopping)
      case heatConstants c => exact .inl (by simpa using stopping)
      case tankCapacities c => exact .inl (by simpa using stopping)
      all_goals exact .inl stopping
    rw [stopping]
    refine ⟨fun h => ?_, fun h => nomatch h⟩
    rw [h] at other
    exact nomatch other.resolve_left nofun
  · rw [takeItem_mode, if_neg stopping]

/-- Of the Loader an owner writes its item alone: the Load State and the Item Validity stay. -/
theorem takeItem_loader (i : ConfigItem) (s : State) : (takeItem i s).loader.validity = s.loader.validity ∧
    (takeItem i s).loader.loadState = s.loader.loadState ∧ (takeItem i s).loader.judged = s.loader.judged := by
  cases i <;> simp only [takeItem]
  case silenceTimeout ms =>
    have kept : (takeSilenceTimeout ms s).loader = { s.loader with silenceTimeout := ms } :=
      foldl_frame State.loader _ _ _ fun s t => by simp
    rw [kept]
    exact ⟨rfl, rfl, rfl⟩
  case dutyRotations compressor expander => simp
  case bindings b => simp
  case characteristic points => simp
  case thresholds th => simp
  case heatConstants c => simp [takeHeatConstants]
  case tankCapacities c => simp
  all_goals exact ⟨rfl, rfl, rfl⟩

/-- The state after an owner has taken an item and its flag is set. -/
theorem takeValid_eq (i : ConfigItem) (s : State) : takeValid i s =
    { takeItem i s with
      loader := { (takeItem i s).loader with
        validity := s.loader.validity ||| BitVec.ofNat 12 (2 ^ itemIndex i.itemId) } } := by
  rw [takeValid, ← (takeItem_loader i s).1]
  rfl

/-! ### The end of the load (R9, R203) -/

theorem configured_standby {s : State} (mode : s.dispatcher.mode = .unconfigured) (valid : s.loader.validity = 4095#12) :
    configured s = beginIfDue { s with dispatcher := { s.dispatcher with mode := .standby } } :=
  congrArg beginIfDue (if_pos ⟨mode, decide_eq_true valid⟩)

theorem configured_same {s : State} (h : ¬ (s.dispatcher.mode = .unconfigured ∧ s.loader.validity = 4095#12)) :
    configured s = beginIfDue s :=
  congrArg beginIfDue (if_neg fun both => h ⟨both.1, of_decide_eq_true both.2⟩)

theorem itemsHanded_iff (s : State) : itemsHanded s = true ↔ ∃ r ∈ s.raised, handedItem r ≠ none := by
  simp only [itemsHanded, List.any_eq_true, ← Option.isSome_iff_ne_none]

theorem endLoad_waiting {s : State} (h : itemsHanded s = true) : endLoad s = s := if_pos h

theorem endLoad_ends {s : State} (h : ¬ itemsHanded s = true) : endLoad s =
    configured { s with loader := { s.loader with loadState := .ended, judged := false } } := if_neg h

/-! ### The words of the image (R32, R201) -/

theorem octetAt_of {memory : List Octet} {n : Nat} {o : Octet} (h : memory[n]? = some o) : octetAt memory n = o := by
  rw [octetAt, h]
  rfl

theorem octetAt_beyond {memory : List Octet} {n : Nat} (h : memory.length ≤ n) : octetAt memory n = 0xFF := by
  rw [octetAt, List.getElem?_eq_none h]
  rfl

theorem wordAt_of {memory : List Octet} {word : Nat} {upper lower : Octet} (h : memory[2 * word]? = some upper)
    (l : memory[2 * word + 1]? = some lower) : wordAt memory word = upper.toNat * 256 + lower.toNat := by
  rw [wordAt, octetAt_of h, octetAt_of l, wordOf, BitVec.toNat_ofNat]
  have := upper.isLt
  have := lower.isLt
  omega

theorem wordAt_beyond {memory : List Octet} {word : Nat} (h : memory.length ≤ 2 * word) : wordAt memory word = 0xFFFF := by
  rw [wordAt, octetAt_beyond h, octetAt_beyond (by omega)]
  rfl

/-- The words of an image stand in the memory that spells them. -/
theorem wordAt_image {image : List Nat} {word w : Nat} (h : image[word]? = some w) (small : w < 65536) (beyond : List Octet) :
    wordAt (image.flatMap u16 ++ beyond) word = w := by
  have octets : (image.flatMap u16 ++ beyond)[2 * word]? = some (BitVec.ofNat 8 (w / 256)) ∧
      (image.flatMap u16 ++ beyond)[2 * word + 1]? = some (BitVec.ofNat 8 w) := by
    clear small
    induction image generalizing word with
    | nil => cases h
    | cons a rest ih =>
      cases word with
      | zero =>
        cases h
        exact ⟨rfl, rfl⟩
      | succ word => exact ih h
  rw [wordAt_of octets.1 octets.2, BitVec.toNat_ofNat, BitVec.toNat_ofNat]
  omega

theorem wordsFrom_of {memory : List Octet} {address : Nat} {words : List Nat}
    (h : ∀ n w, words[n]? = some w → wordAt memory (address + n) = w) : wordsFrom memory address words.length = words := by
  refine List.ext_getElem? fun n => ?_
  rw [wordsFrom, List.getElem?_map]
  cases at_ : words[n]? with
  | none => rw [List.getElem?_eq_none (by simpa using at_)]; rfl
  | some w =>
    rw [List.getElem?_range (List.getElem?_eq_some_iff.1 at_).1]
    exact congrArg some (h n w at_)

/-! ### The items of the image (R201) -/

/-- The words an occurrence takes up in the image: its header and its body. -/
def occurrenceWords (o : Nat × List Nat) : List Nat := (o.1 * 256 + o.2.length) :: o.2

/-- An occurrence whose identifier and number of words fit the octets of its header. -/
def OccurrenceFits (o : Nat × List Nat) : Prop := o.1 < 256 ∧ o.2.length < 256

theorem occurrenceWords_length (o : Nat × List Nat) : (occurrenceWords o).length = 1 + o.2.length := by
  rw [occurrenceWords, List.length_cons, Nat.add_comm]

/-- Items laid out from an address on are read back, unless they reach beyond word 4,095. -/
theorem readItems_words {memory : List Octet} {occurrences : List (Nat × List Nat)} {address : Nat}
    (fits : ∀ o ∈ occurrences, OccurrenceFits o) (below : address ≤ 4096)
    (h : ∀ n w, (occurrences.flatMap occurrenceWords)[n]? = some w → wordAt memory (address + n) = w) :
    readItems memory occurrences.length address =
      if address + (occurrences.flatMap occurrenceWords).length ≤ 4096 then
        some (occurrences, address + (occurrences.flatMap occurrenceWords).length)
      else none := by
  induction occurrences generalizing address with
  | nil => exact (if_pos below).symm
  | cons o rest ih =>
    obtain ⟨identifier, count⟩ := fits o List.mem_cons_self
    have split_ : (o :: rest).flatMap occurrenceWords = (o.1 * 256 + o.2.length) :: (o.2 ++ rest.flatMap occurrenceWords) := by
      rw [List.flatMap_cons, occurrenceWords, List.cons_append]
    have length : ((o :: rest).flatMap occurrenceWords).length = 1 + o.2.length + (rest.flatMap occurrenceWords).length := by
      rw [split_, List.length_cons, List.length_append]
      omega
    have header : wordAt memory address = o.1 * 256 + o.2.length := h 0 _ (by rw [split_]; rfl)
    have body : wordsFrom memory (address + 1) o.2.length = o.2 := wordsFrom_of fun n w hw => by
      have at_ := h (n + 1) w (by
        rw [split_, List.getElem?_cons_succ, List.getElem?_append_left (List.getElem?_eq_some_iff.1 hw).1]
        exact hw)
      rw [Nat.add_assoc, Nat.add_comm 1]
      exact at_
    rw [List.length_cons, readItems, header]
    rw [lowerOctet_of count, upperOctet_of identifier count, body, length]
    by_cases reach : address + 1 + o.2.length ≤ 4096
    · rw [if_neg (by rw [imageBound]; omega), ih (fun k hk => fits k (List.mem_cons_of_mem _ hk)) reach fun n w hw => by
        have at_ := h (1 + o.2.length + n) w (by
          rw [split_, show 1 + o.2.length + n = (o.2.length + n) + 1 by omega, List.getElem?_cons_succ,
            List.getElem?_append_right (Nat.le_add_right _ _), Nat.add_sub_cancel_left]
          exact hw)
        rw [show address + 1 + o.2.length + n = address + (1 + o.2.length + n) by omega]
        exact at_]
      by_cases whole : address + 1 + o.2.length + (rest.flatMap occurrenceWords).length ≤ 4096
      · rw [if_pos whole, if_pos (by omega), show address + (1 + o.2.length + (rest.flatMap occurrenceWords).length) =
          address + 1 + o.2.length + (rest.flatMap occurrenceWords).length by omega]
      · rw [if_neg whole, if_neg (by omega)]
    · rw [if_pos (by rw [imageBound]; omega), if_neg (by omega)]

/-- The words of an image: signature, count, sum and items. -/
def imageWords (occurrences : List (Nat × List Nat)) (sum : Nat) : List Nat :=
  0x5A47 :: occurrences.length :: sum :: occurrences.flatMap occurrenceWords

theorem imageWords_length (occurrences : List (Nat × List Nat)) (sum : Nat) :
    (imageWords occurrences sum).length = 3 + (occurrences.flatMap occurrenceWords).length := by
  rw [imageWords, List.length_cons, List.length_cons, List.length_cons]
  omega

theorem occurrences_length_le (occurrences : List (Nat × List Nat)) :
    occurrences.length ≤ (occurrences.flatMap occurrenceWords).length := by
  induction occurrences with
  | nil => exact le_refl _
  | cons o rest ih =>
    rw [List.length_cons, List.flatMap_cons, List.length_append, occurrenceWords_length]
    omega

/-- An image is read by its bound and its sum. -/
theorem readImage_words {occurrences : List (Nat × List Nat)} {sum : Nat} (beyond : List Octet)
    (fits : ∀ o ∈ occurrences, OccurrenceFits o)
    (small : ∀ w ∈ imageWords occurrences sum, w < 65536) :
    readImage ((imageWords occurrences sum).flatMap u16 ++ beyond) =
      if (imageWords occurrences sum).length ≤ 4096 ∧ (imageWords occurrences sum).sum % 65536 = 0 then some occurrences
      else none := by
  have word {n w : Nat} (h : (imageWords occurrences sum)[n]? = some w) :
      wordAt ((imageWords occurrences sum).flatMap u16 ++ beyond) n = w :=
    wordAt_image h (small w (List.mem_of_getElem? h)) beyond
  have signature := word (n := 0) (w := 0x5A47) rfl
  have counted_ := word (n := 1) (w := occurrences.length) rfl
  have items := readItems_words fits (address := 3) (by decide) fun n w h => word (n := 3 + n) (by
    rw [imageWords, Nat.add_comm 3]
    exact h)
  rw [readImage, if_pos signature, counted_, items, imageWords_length]
  by_cases within : 3 + (occurrences.flatMap occurrenceWords).length ≤ 4096
  · have whole := wordsFrom_of (address := 0) fun n w h => by
      rw [Nat.zero_add]
      exact word h
    rw [imageWords_length] at whole
    rw [if_pos within]
    dsimp only
    rw [whole]
    by_cases sums : (imageWords occurrences sum).sum % 65536 = 0
    · rw [if_pos sums, if_pos ⟨within, sums⟩]
    · rw [if_neg sums, if_neg fun both => sums both.2]
  · rw [if_neg within, if_neg fun both => within both.1]

/-! ### The judging of the image (R202) -/

section
variable {points : List (Nat × Nat)} {occurrences : List (Nat × List Nat)} {i : ItemId}

theorem judged_sound (points : List (Nat × Nat)) (occurrences : List (Nat × List Nat)) :
    (occurrences.map (judgeOccurrence points)).filterMap id = occurrences.filterMap (judgeOccurrence points) := by
  rw [List.filterMap_map]
  rfl

theorem lastSound_itemId {judged : List (Option ConfigItem)} {item : ConfigItem} (h : lastSound i judged = some item) :
    item.itemId = i := by
  unfold lastSound at h
  exact of_decide_eq_true (List.find?_some h :)

/-- The last sound occurrence of an item is the one with none after it. -/
theorem lastSound_last {front back : List (Nat × List Nat)} {o : Nat × List Nat} {item : ConfigItem}
    (split_ : occurrences = front ++ o :: back) (sound : judgeOccurrence points o = some item) (named : item.itemId = i)
    (absent : ∀ k ∈ back, ∀ other, ¬ (judgeOccurrence points k = some other ∧ other.itemId = i)) :
    lastSound i (occurrences.map (judgeOccurrence points)) = some item := by
  have listed : (occurrences.filterMap (judgeOccurrence points)).reverse =
      (back.filterMap (judgeOccurrence points)).reverse ++ item :: (front.filterMap (judgeOccurrence points)).reverse := by
    rw [split_, List.filterMap_append, List.filterMap_cons_some sound, List.reverse_append, List.reverse_cons,
      List.append_assoc, List.singleton_append]
  rw [lastSound, judged_sound]
  refine find?_first listed (decide_eq_true named) fun other hother => ?_
  obtain ⟨k, hk, judged⟩ := List.mem_filterMap.1 (List.mem_reverse.1 hother)
  rw [decide_eq_true_iff]
  exact fun same => absent k hk other ⟨judged, same⟩

theorem lastSound_absent (absent : ∀ o ∈ occurrences, ∀ item, ¬ (judgeOccurrence points o = some item ∧ item.itemId = i)) :
    lastSound i (occurrences.map (judgeOccurrence points)) = none := by
  rw [lastSound, judged_sound]
  refine List.find?_eq_none.2 fun item hitem => ?_
  obtain ⟨k, hk, judged⟩ := List.mem_filterMap.1 (List.mem_reverse.1 hitem)
  rw [decide_eq_true_iff]
  exact fun same => absent k hk item ⟨judged, same⟩

end

section
variable (held : List (Nat × Nat)) (occurrences : List (Nat × List Nat))

/-- The items handed on are the last sound ones. -/
theorem mem_judgeImage {item : ConfigItem} : item ∈ (judgeImage held occurrences).1 ↔
    lastSound item.itemId (occurrences.map (judgeOccurrence (loadedPoints held occurrences))) = some item := by
  rw [judgeImage]
  dsimp only
  rw [List.mem_filterMap]
  constructor
  · rintro ⟨i, -, last⟩
    rw [lastSound_itemId last]
    exact last
  · intro last
    exact ⟨item.itemId, by cases item.itemId <;> decide, last⟩

/-- CONFIG_ITEM_INVALID: an occurrence is skipped or unsound, or an item is not given soundly. -/
theorem judgeImage_invalid_iff : (judgeImage held occurrences).2 = true ↔
    (∃ o ∈ occurrences, judgeOccurrence (loadedPoints held occurrences) o = none) ∨
    ∃ i, ∀ item ∈ (judgeImage held occurrences).1, item.itemId ≠ i := by
  have skipped : (occurrences.map (judgeOccurrence (loadedPoints held occurrences))).any Option.isNone = true ↔
      ∃ o ∈ occurrences, judgeOccurrence (loadedPoints held occurrences) o = none := by
    rw [List.any_map, List.any_eq_true]
    simp only [Function.comp_apply, Option.isNone_iff_eq_none]
  have missing : (allItems.filterMap fun i =>
        lastSound i (occurrences.map (judgeOccurrence (loadedPoints held occurrences)))).length ≠ 12 ↔
      ∃ i, ∀ item ∈ (judgeImage held occurrences).1, item.itemId ≠ i := by
    rw [show 12 = allItems.length from rfl, ne_eq, List.filterMap_length_eq_length]
    simp only [not_forall]
    constructor
    · rintro ⟨i, -, none⟩
      refine ⟨i, fun item mem same => none ?_⟩
      rw [← same, (mem_judgeImage held occurrences).1 mem]
      rfl
    · rintro ⟨i, none⟩
      refine ⟨i, by cases i <;> decide, fun some_ => ?_⟩
      obtain ⟨item, last⟩ := Option.isSome_iff_exists.1 some_
      have named := lastSound_itemId last
      exact none item ((mem_judgeImage held occurrences).2 (by rw [named]; exact last)) named
  rw [← skipped, ← missing, ← decide_eq_true_iff (p := _ ≠ 12), ← Bool.or_eq_true]
  rfl

end

/-! ### LOAD_END (R201 to R203) -/

/-- The items an image hands on, with CONFIG_ITEM_INVALID; a rejected image hands on none. -/
def loadResult (memory : List Octet) (s : State) : List ConfigItem × Bool :=
  match readImage memory with
  | none => ([], true)
  | some occurrences => judgeImage s.cavern.characteristic occurrences

theorem judgeLoad_eq (memory : List Octet) (s : State) : judgeLoad memory s =
    endLoad { s with
      sticky := if (loadResult memory s).2 then s.sticky ||| 33554432#26 else s.sticky
      loader := { s.loader with judged := true }
      raised := s.raised ++ (loadResult memory s).1.map .configItem } := by
  have result : judgeLoad memory s = endLoad (raiseAll ((loadResult memory s).1.map Raised.configItem)
      (setStickyIf (loadResult memory s).2 .configItemInvalid (onLoader (fun l => { l with judged := true }) s))) := rfl
  rw [result]
  cases (loadResult memory s).2 <;> rfl

/-- With no item to hand on the load ends at once, in UNCONFIGURED. -/
theorem judgeLoad_none {memory : List Octet} {s : State} (unjudged : s.loader.judged = false)
    (result : loadResult memory s = ([], true)) (quiet : ∀ r ∈ s.raised, handedItem r = none)
    (mode : s.dispatcher.mode = .unconfigured) (clear : s.loader.validity = 0) : judgeLoad memory s =
    { s with sticky := s.sticky ||| 33554432#26, loader := { s.loader with loadState := .ended } } := by
  have handed (k : State) (h : k.raised = s.raised) : ¬ itemsHanded k = true := by
    rw [itemsHanded_iff, h]
    rintro ⟨r, hr, some_⟩
    exact some_ (quiet r hr)
  rw [judgeLoad_eq, result, endLoad_ends (handed _ (List.append_nil _)), configured_same, beginIfDue_undue]
  · rw [if_pos rfl, ← unjudged, List.map_nil, List.append_nil]
  · exact fun ⟨_, _, other⟩ => other mode
  · rintro ⟨-, valid⟩
    rw [show s.loader.validity = 4095#12 from valid] at clear
    exact absurd clear (by decide)

theorem judgeLoad_some {memory : List Octet} {s : State} (some_ : (loadResult memory s).1 ≠ []) : judgeLoad memory s =
    { s with
      sticky := if (loadResult memory s).2 then s.sticky ||| 33554432#26 else s.sticky
      loader := { s.loader with judged := true }
      raised := s.raised ++ (loadResult memory s).1.map .configItem } := by
  obtain ⟨item, rest, items⟩ := List.exists_cons_of_ne_nil some_
  rw [judgeLoad_eq, endLoad_waiting]
  rw [itemsHanded_iff]
  refine ⟨.configItem item, ?_, nofun⟩
  rw [items]
  simp

/-! ### CONFIG_ITEM_TAKEN (R203) -/

theorem exec_configItemTaken_oldest {i : ItemId} {item : ConfigItem} {left : List Raised} {s : State}
    (h : Oldest (pickItem s.raised i) s.raised item left) :
    exec (.configItemTaken i) s = .next (endLoad (takeValid item (s.setRaised left))) :=
  congrArg Host.Outcome.next (handleRaised_oldest h)

theorem pickItem_itemId {raised : List Raised} {i : ItemId} {r : Raised} {item : ConfigItem}
    (h : pickItem raised i r = some item) : item.itemId = i := by
  unfold pickItem at h
  split at h
  · cases h
  · split at h
    · next named =>
      cases h
      exact named.1
    · cases h

/-- Settles O52: the image read and judged, its sound items handed on and taken, and the end of the load. -/
theorem theLoadHandsOnTheSoundItems : Obligations.TheLoadHandsOnTheSoundItems := by
  unfold Obligations.TheLoadHandsOnTheSoundItems
  refine ⟨fun memory s => ⟨fun done => ?_, fun loading unjudged => ⟨fun empty quiet mode clear => ?_,
    fun occurrences read some_ => ?_⟩⟩, fun memory word => ⟨fun other => if_neg other, fun upper lower => wordAt_of, wordAt_beyond⟩,
    fun occurrences sum beyond fits small => ?_, fun held occurrences i => ?_, fun i item left s ho => ?_⟩
  · refine congrArg Host.Outcome.next (if_neg ?_)
    rintro ⟨loading, unjudged⟩
    obtain ended | judged := done
    · cases loading.symm.trans ended
    · cases unjudged.symm.trans judged
  · have result : loadResult memory s = ([], true) := by
      obtain rejected | ⟨occurrences, read, none⟩ := empty
      · rw [loadResult, rejected]
      · rw [loadResult, read]
        refine Prod.ext none ((judgeImage_invalid_iff _ _).2 (.inr ⟨.bindings, fun item mem => ?_⟩))
        rw [none] at mem
        cases mem
    exact congrArg Host.Outcome.next ((if_pos ⟨loading, unjudged⟩).trans (judgeLoad_none unjudged result quiet mode clear))
  · have result : loadResult memory s = judgeImage s.cavern.characteristic occurrences := by rw [loadResult, read]
    rw [← result] at some_ ⊢
    exact congrArg Host.Outcome.next ((if_pos ⟨loading, unjudged⟩).trans (judgeLoad_some some_))
  · intro items image memory
    have read (count : occurrences.length < 65536) : readImage memory =
        if image.length ≤ 4096 ∧ image.sum % 65536 = 0 then some occurrences else none := by
      refine readImage_words beyond (fun o ho => ⟨(fits o ho).1, (fits o ho).2.1⟩) fun w hw => ?_
      simp only [imageWords, List.mem_cons, List.mem_flatMap] at hw
      obtain rfl | rfl | rfl | ⟨o, ho, hw⟩ := hw
      · decide
      · exact count
      · exact small
      · obtain ⟨identifier, length, body⟩ := fits o ho
        obtain rfl | hw := List.mem_cons.1 hw
        · omega
        · exact body w hw
    have few (within : image.length ≤ 4096) : occurrences.length < 65536 := by
      have whole : image.length = _ := imageWords_length occurrences sum
      have := occurrences_length_le occurrences
      omega
    refine ⟨fun within sums => ?_, fun within sums => ?_, fun long count => ?_⟩
    · rw [read (few within), if_pos ⟨within, sums⟩]
    · rw [read (few within), if_neg fun both => sums both.2]
    · rw [read count, if_neg fun both => Nat.not_le.2 long both.1]
  · intro points judged sound
    refine ⟨fun front o back item split_ here none other => ?_, fun absent item mem same => ?_, judgeImage_invalid_iff _ _⟩
    · have last := lastSound_last split_ here.1 here.2 none
      rw [mem_judgeImage]
      constructor
      · rintro ⟨mem, same⟩
        rw [same] at mem
        exact Option.some.inj (mem.symm.trans last)
      · rintro rfl
        rw [here.2]
        exact ⟨last, rfl⟩
    · have last := (mem_judgeImage held occurrences).1 mem
      rw [same, lastSound_absent absent] at last
      cases last
  · intro taken valid ended
    have named : item.itemId = i := by
      obtain ⟨before, r, after, -, -, picked, -⟩ := ho
      exact pickItem_itemId picked
    have executed : exec (.configItemTaken i) s = .next (endLoad valid) := by
      rw [exec_configItemTaken_oldest ho, takeValid_eq, named]
      rfl
    have handed : itemsHanded valid = true ↔ ∃ r ∈ left, handedItem r ≠ none := by
      have same : itemsHanded valid = itemsHanded (s.setRaised left) := (handsNothing_takeItem item (s.setRaised left)).itemsHanded
      rw [same, itemsHanded_iff]
      rfl
    have mode : ended.dispatcher.mode = .unconfigured ↔ s.dispatcher.mode = .unconfigured :=
      takeItem_unconfigured item (s.setRaised left)
    refine ⟨fun waiting => ?_, fun none => ?_⟩
    · rw [executed, endLoad_waiting (handed.2 waiting)]
    · have last : exec (.configItemTaken i) s = .next (configured ended) := by
        rw [executed, endLoad_ends (handed.not.2 fun ⟨r, hr, some_⟩ => some_ (none r hr))]
      refine ⟨fun all unconfigured => ?_, fun other => ?_⟩
      · rw [last, configured_standby (mode.2 unconfigured) all]
      · rw [last, configured_same]
        rintro ⟨unconfigured, all⟩
        exact other.elim (fun no => no all) fun no => no (mode.1 unconfigured)

end Sys2Proof.Machine
end

/-!
CONFIGURE, and what each owner does when it takes its item: O53.
-/
section
namespace Sys2Proof.Machine

/-! ### The Tanks (R142, R143) -/

theorem recapacitate_layers (capacity reserved : Nat) (tank : TankState) : (recapacitate capacity reserved tank).layers =
    if capacity < (tank.layers.map Layer.energy).sum + reserved then [] else tank.layers := by
  unfold recapacitate
  rw [storedEnergy_eq_sum]
  split <;> rfl

/-- The contents of a Tank do not fit its new Capacity. -/
def emptiedBy (v : PerTank Nat) (s : State) (tank : Tank) : Bool :=
  decide (v.get tank < ((s.tank tank).layers.map Layer.energy).sum + reservedEnergy s.trains tank)

/-- A Tank under its new Capacity. -/
def capacityTaken (v : PerTank Nat) (s : State) (tank : Tank) : TankState :=
  if emptiedBy v s tank = true then { s.tank tank with capacity := v.get tank, layers := [], surveyed := false }
  else { s.tank tank with capacity := v.get tank }

theorem recapacitate_eq (v : PerTank Nat) (s : State) (tank : Tank) :
    recapacitate (v.get tank) (reservedEnergy s.trains tank) (s.tank tank) = capacityTaken v s tank := by
  unfold recapacitate capacityTaken emptiedBy
  rw [storedEnergy_eq_sum]
  simp only [decide_eq_true_iff]

theorem standingOf_empty_iff (tUse : Nat) (layers : List Layer) : standingOf tUse layers = .empty ↔ layers = [] := by
  cases layers with
  | nil => exact iff_of_true rfl rfl
  | cons l rest =>
    refine iff_of_false (fun h => ?_) (List.cons_ne_nil l rest)
    unfold standingOf at h
    dsimp only at h
    split at h <;> cases h

theorem takeCapacities_eq (v : PerTank Nat) (s : State) : takeCapacities v s =
    { s with
      tanks := { t1 := capacityTaken v s .t1, t2 := capacityTaken v s .t2, t3 := capacityTaken v s .t3 }
      raised := s.raised ++
        (allTanks.filter fun tank => emptiedBy v s tank && decide ((s.tank tank).layers ≠ [])).map .top } := by
  let taken : State := { s with
    tanks := { t1 := capacityTaken v s .t1, t2 := capacityTaken v s .t2, t3 := capacityTaken v s .t3 } }
  have tanks (tank : Tank) : taken.tank tank = capacityTaken v s tank := by cases tank <;> rfl
  have moves : (fun tank => decide (topStanding taken tank ≠ topStanding s tank)) =
      fun tank => emptiedBy v s tank && decide ((s.tank tank).layers ≠ []) := by
    funext tank
    rw [topStanding, topStanding, tanks, capacityTaken]
    cases emptied : emptiedBy v s tank with
    | false => simp [taken]
    | true =>
      have top := standingOf_empty_iff s.loader.heat.tUse (s.tank tank).layers
      rw [if_pos rfl, Bool.true_and, decide_eq_decide]
      show TopStanding.empty ≠ _ ↔ _
      rw [ne_comm]
      exact not_congr top
  have written : takeCapacities v s = topNotices s taken := by
    have r1 := recapacitate_eq v s .t1
    have r2 := recapacitate_eq v s .t2
    have r3 := recapacitate_eq v s .t3
    exact congrArg (topNotices s) (congrArg s.setTanks (by rw [← r1, ← r2, ← r3]; rfl))
  rw [written, topNotices_eq, moves]

/-! ### The silence timeout (R167) -/

theorem SameTrain.silenceExpired {t : Train} {s s' : State} (h : SameTrain t s s') :
    Machine.silenceExpired s' t = Machine.silenceExpired s t := by
  unfold Machine.silenceExpired
  rw [h.train, h.loader]

theorem expireSilence_eq (t : Train) (s : State) : expireSilence t s =
    { s with
      trains := s.trains.set t ((s.train t).rest .lost)
      sticky := s.sticky ||| BitVec.ofNat 26 (2 ^ (18 + trainIndex t))
      projector := { s.projector with passPending := true }
      raised := s.raised ++ [.train t] } := by
  rw [expireSilence, moveToRest_lost]
  rfl

theorem expireSilence_other (s : State) {t u : Train} (h : u ≠ t) : SameTrain u s (expireSilence t s) := by
  have rested := SameTrain.moveToRest_other h s .lost
  exact ⟨rested.train, rested.link, rested.tanks, rested.tables, rested.loader, rested.cavern, rested.clock, rested.mode⟩

theorem SameTrain.expireSilence {t : Train} {s s' : State} (h : SameTrain t s s') :
    SameTrain t (Machine.expireSilence t s) (Machine.expireSilence t s') := by
  have rested := h.moveToRest .lost
  exact ⟨rested.train, rested.link, rested.tanks, rested.tables, rested.loader, rested.cavern, rested.clock, rested.mode⟩

/-- The trains judged silent are those silent before any of them was judged. -/
theorem judgeSilence_foldl {l : List Train} (nodup : l.Nodup) (s : State) : l.foldl judgeSilence s =
    (l.filter (silenceExpired s)).foldl (fun k t => expireSilence t k) s := by
  induction l generalizing s with
  | nil => rfl
  | cons t l ih =>
    obtain ⟨fresh, distinct⟩ := List.nodup_cons.1 nodup
    rw [List.foldl_cons, judgeSilence, ih distinct]
    by_cases silent : silenceExpired s t = true
    · have others : l.filter (silenceExpired (expireSilence t s)) = l.filter (silenceExpired s) :=
        List.filter_congr fun u hu => (expireSilence_other s fun same => fresh (by rw [← same]; exact hu)).silenceExpired
      rw [if_pos silent, List.filter_cons_of_pos silent, others]
      rfl
    · rw [if_neg silent, List.filter_cons_of_neg silent]

/-- The expiries of a list of trains. -/
def expireAll (lost : List Train) (s : State) : State := lost.foldl (fun k t => expireSilence t k) s

theorem expireAll_changes (lost : List Train) (s : State) : expireAll lost s =
    { s with
      trains := (expireAll lost s).trains
      sticky := (expireAll lost s).sticky
      projector := { s.projector with passPending := s.projector.passPending || decide (lost ≠ []) }
      raised := s.raised ++ lost.map .train } := by
  unfold expireAll
  induction lost generalizing s with
  | nil => simp
  | cons t rest ih =>
    rw [List.foldl_cons, ih, expireSilence_eq]
    simp

theorem expireAll_sticky (i : Nat) (lost : List Train) (s : State) : (expireAll lost s).sticky.getLsbD i = true ↔
    s.sticky.getLsbD i = true ∨ ∃ t ∈ lost, i = 18 + trainIndex t := by
  unfold expireAll
  induction lost generalizing s with
  | nil => simp
  | cons t rest ih =>
    have here : (expireSilence t s).sticky.getLsbD i = true ↔ s.sticky.getLsbD i = true ∨ i = 18 + trainIndex t := by
      rw [expireSilence_eq, ← stickyBit_lost]
      show (s.sticky ||| stickyBit (.trainLost t)).getLsbD i = true ↔ _
      rw [BitVec.getLsbD_or, Bool.or_eq_true, getLsbD_stickyBit]
      rfl
    rw [List.foldl_cons, ih, here, List.exists_mem_cons_iff, or_assoc]

theorem expireAll_train {lost : List Train} (nodup : lost.Nodup) (s : State) (t : Train) :
    (t ∉ lost → (expireAll lost s).train t = s.train t) ∧
    (t ∈ lost → (expireAll lost s).train t = (s.train t).rest .lost) := by
  obtain ⟨kept, expired⟩ := foldTrains_sameTrain (f := fun k t => expireSilence t k) (fun s _ _ h => expireSilence_other s h)
    (fun h => h.expireSilence) lost nodup t s
  refine ⟨fun absent => (kept absent).train, fun mem => (expired mem).train.trans ?_⟩
  rw [expireSilence_eq]
  exact PerTrain.get_set ..

theorem takeSilenceTimeout_eq (ms : Nat) (s : State) : takeSilenceTimeout ms s =
    expireAll (allTrains.filter (silenceExpired (onLoader (fun l => { l with silenceTimeout := ms }) s)))
      (onLoader (fun l => { l with silenceTimeout := ms }) s) :=
  judgeSilence_foldl (by decide) _

theorem silenceExpired_iff (s : State) (t : Train) : silenceExpired s t = true ↔
    ((s.train t).state = .ready ∨ (s.train t).state = .starting ∨ (s.train t).state = .running ∨
      (s.train t).state = .unloading) ∧ ∃ v, (s.train t).silence = some v ∧ s.loader.silenceTimeout ≤ v := by
  unfold silenceExpired
  dsimp only
  rw [Bool.and_eq_true, Bool.or_eq_true, inUse_iff, decide_eq_true_iff, or_comm]
  refine and_congr_right fun _ => ?_
  cases (s.train t).silence with
  | none => simp
  | some v => simp

/-! ### The Envelope Table (R171) -/

theorem writeRows_outside {rows : List EnvelopeRow} {first n : Nat} {given : List Descriptor}
    (h : n < first ∨ first + given.length ≤ n) : (writeRows first given rows)[n]? = rows[n]? := by
  induction rows generalizing first n given with
  | nil => cases first <;> cases given <;> rfl
  | cons row rest ih =>
    cases given with
    | nil => cases first <;> rfl
    | cons d ds =>
      rw [List.length_cons] at h
      cases first with
      | zero =>
        cases n with
        | zero => omega
        | succ n => exact ih (first := 0) (.inr (by omega))
      | succ first =>
        cases n with
        | zero => rfl
        | succ n => exact ih (by rw [List.length_cons]; omega)

theorem writeRows_inside {rows : List EnvelopeRow} {first i : Nat} {given : List Descriptor} {d : Descriptor} {row : EnvelopeRow}
    (hd : given[i]? = some d) (hr : rows[first + i]? = some row) :
    (writeRows first given rows)[first + i]? = some (row.write d) := by
  induction rows generalizing first i given with
  | nil => cases hr
  | cons r rest ih =>
    cases given with
    | nil => cases hd
    | cons e ds =>
      cases first with
      | zero =>
        rw [Nat.zero_add] at hr ⊢
        cases i with
        | zero =>
          cases hd
          cases hr
          rfl
        | succ i =>
          have later := ih (first := 0) (i := i) hd (by rw [Nat.zero_add]; exact hr)
          rw [Nat.zero_add] at later
          exact later
      | succ first =>
        rw [Nat.succ_add] at hr ⊢
        exact ih hd hr

/-! ### The bindings (R177) -/

/-- A train under its new Bound Tank. -/
def boundTo (t : Train) (tank : Tank) (s : State) : State := s.setTrain t { s.train t with boundTank := tank }

theorem bindingRow_iff (s : State) (t : Train) (selector : Option Nat) (n : Nat) (row : EnvelopeRow) :
    bindingRow s t selector = some (n, row) ↔
      selector = some n ∧ s.tables.envelopes[n]? = some row ∧ row.descriptor.valid = true ∧
        row.descriptor.kind = trainKind t := by
  unfold bindingRow
  split
  · exact iff_of_false nofun fun h => nomatch h.1
  · next m =>
    split
    · next none =>
      refine iff_of_false nofun ?_
      rintro ⟨same, found, -⟩
      cases same
      cases none.symm.trans found
    · next other found =>
      constructor
      · intro h
        split at h
        · next fits =>
          cases h
          rw [rowFits, Bool.and_eq_true, decide_eq_true_iff] at fits
          exact ⟨rfl, found, fits⟩
        · cases h
      · rintro ⟨same, found', fits⟩
        cases same
        cases found.symm.trans found'
        exact if_pos (by rw [rowFits, Bool.and_eq_true, decide_eq_true_iff]; exact fits)

/-- A Selector the binding names for its train, and a Valid row of its kind. -/
def BindingNames (b : PerTrain (Tank × Option Nat)) (s : State) (t : Train) (n : Nat) (row : EnvelopeRow) : Prop :=
  (b.get t).2 = some n ∧ s.tables.envelopes[n]? = some row ∧ row.descriptor.valid = true ∧ row.descriptor.kind = trainKind t

/-- A train holds a Selector with the row's Generation. -/
def HoldsRow (c : TrainContext) (n : Nat) (row : EnvelopeRow) : Prop :=
  ∃ sel, c.selection = some sel ∧ sel.selector = n ∧ sel.generation = row.generation

section
variable {b : PerTrain (Tank × Option Nat)} {s : State} {t : Train}

theorem boundTo_selection (t : Train) (tank : Tank) (s : State) :
    ((boundTo t tank s).train t).selection = (s.train t).selection := by
  rw [boundTo, State.train_setTrain]

theorem bindTrain_named {n : Nat} {row : EnvelopeRow} (h : BindingNames b s t n row) : bindTrain t (b.get t) s =
    if holdsRow (s.train t) n row = true then boundTo t (b.get t).1 s else takeRow t n row (boundTo t (b.get t).1 s) := by
  have found : bindingRow (onTrain t (fun c => { c with boundTank := (b.get t).1 }) s) t (b.get t).2 = some (n, row) :=
    (bindingRow_iff ..).2 h
  have held : holdsRow ((boundTo t (b.get t).1 s).train t) n row = holdsRow (s.train t) n row := by
    rw [holdsRow, boundTo_selection]
    rfl
  unfold bindTrain
  dsimp only
  rw [found, ← held]
  rfl

theorem bindTrain_unnamed (h : ∀ n row, ¬ BindingNames b s t n row) : bindTrain t (b.get t) s =
    if (s.train t).selection = none then boundTo t (b.get t).1 s else deselect t (boundTo t (b.get t).1 s) := by
  have none : bindingRow (onTrain t (fun c => { c with boundTank := (b.get t).1 }) s) t (b.get t).2 = none :=
    Option.eq_none_iff_forall_ne_some.2 fun p found => h p.1 p.2 ((bindingRow_iff ..).1 found)
  unfold bindTrain
  dsimp only
  rw [none]
  show (if ((boundTo t (b.get t).1 s).train t).selection.isSome = true then deselect t (boundTo t (b.get t).1 s)
    else boundTo t (b.get t).1 s) = _
  rw [boundTo_selection]
  by_cases unselected : (s.train t).selection = Option.none
  · rw [if_pos unselected, unselected]
    rfl
  · rw [if_neg unselected, if_pos (Option.isSome_iff_ne_none.2 unselected)]

/-- A binding leaves the selection, copies the row it names, or takes the selection away. -/
theorem bindTrain_cases (b : PerTrain (Tank × Option Nat)) (s : State) (t : Train) :
    bindTrain t (b.get t) s = boundTo t (b.get t).1 s ∨
    (∃ n row, BindingNames b s t n row ∧ ¬ HoldsRow (s.train t) n row ∧
      bindTrain t (b.get t) s = takeRow t n row (boundTo t (b.get t).1 s)) ∨
    bindTrain t (b.get t) s = deselect t (boundTo t (b.get t).1 s) := by
  by_cases named : ∃ n row, BindingNames b s t n row
  · obtain ⟨n, row, named⟩ := named
    rw [bindTrain_named named]
    by_cases held : holdsRow (s.train t) n row = true
    · exact .inl (if_pos held)
    · exact .inr (.inl ⟨n, row, named, (holdsRow_iff ..).not.1 held, if_neg held⟩)
  · rw [bindTrain_unnamed fun n row h => named ⟨n, row, h⟩]
    by_cases none : (s.train t).selection = Option.none
    · exact .inl (if_pos none)
    · exact .inr (.inr (if_neg none))

theorem takeRow_keeps (t : Train) (n : Nat) (row : EnvelopeRow) (s : State) :
    ((takeRow t n row s).train t).selection = some (selectionOf n row) ∧
    ((takeRow t n row s).train t).boundTank = (s.train t).boundTank := by
  have lowered := lowered_heldAtLimit t (copyRow t n row s)
  rw [takeRow_eq]
  obtain tripped | stays := judgeStart_cases t (heldAtLimit t (copyRow t n row s))
  · rw [tripped]
    exact ⟨lowered.selection.trans (by rw [copyRow_train]), lowered.boundTank.trans (by rw [copyRow_train])⟩
  · rw [stays]
    exact ⟨lowered.selection.trans (by rw [copyRow_train]), lowered.boundTank.trans (by rw [copyRow_train])⟩

theorem takeRow_pending {n : Nat} {row : EnvelopeRow} (h : s.projector.passPending = true) :
    (takeRow t n row s).projector.passPending = true := by
  have held : (heldAtLimit t (copyRow t n row s)).projector.passPending = true := by
    have same : (heldAtLimit t (copyRow t n row s)).projector = s.projector := by
      unfold heldAtLimit
      split <;> simp [copyRow]
    rw [same]
    exact h
  by_cases late : StartLate (s.train t) row
  · rw [takeRow_late late, expireStart_eq]
  · rw [takeRow_inTime late]
    exact held

theorem trainsMoved_bindTrain (b : PerTrain (Tank × Option Nat)) (s : State) (t : Train) :
    TrainsMoved s (bindTrain t (b.get t) s) := by
  have bound : TrainsMoved s (boundTo t (b.get t).1 s) := rfl
  obtain same | ⟨n, row, -, -, taken⟩ | lost := bindTrain_cases b s t
  · rw [same]
    exact bound
  · rw [taken]
    exact bound.trans (trainsMoved_takeRow ..)
  · rw [lost]
    exact bound.trans (trainsMoved_deselect ..)

theorem bindTrain_boundTank (b : PerTrain (Tank × Option Nat)) (s : State) (t : Train) :
    ((bindTrain t (b.get t) s).train t).boundTank = (b.get t).1 := by
  have bound : ((boundTo t (b.get t).1 s).train t).boundTank = (b.get t).1 := by rw [boundTo, State.train_setTrain]
  obtain same | ⟨n, row, -, -, taken⟩ | lost := bindTrain_cases b s t
  · rw [same, bound]
  · rw [taken, (takeRow_keeps ..).2, bound]
  · obtain ⟨-, -, kept, -⟩ := deselect_train t (boundTo t (b.get t).1 s)
    rw [lost, kept, bound]

/-- A binding trips exactly the STARTING train whose new start limit has passed. -/
theorem bindTrain_sticky (b : PerTrain (Tank × Option Nat)) (s : State) (t : Train) (i : Nat) :
    (bindTrain t (b.get t) s).sticky.getLsbD i = true ↔ s.sticky.getLsbD i = true ∨
      (i = 12 + trainIndex t ∧ (s.train t).state = .starting ∧ ((bindTrain t (b.get t) s).train t).state = .tripped) := by
  have state : ((boundTo t (b.get t).1 s).train t).state = (s.train t).state := by rw [boundTo, State.train_setTrain]
  obtain same | ⟨n, row, -, -, taken⟩ | lost := bindTrain_cases b s t
  · rw [same, state]
    exact ⟨.inl, fun either => either.elim id fun ⟨_, starting, tripped⟩ =>
      nomatch (starting.symm.trans tripped : TrainState.starting = .tripped)⟩
  · rw [taken, takeRow_sticky, state]
    exact Iff.rfl
  · rw [lost, (deselect_frame t _).2.2.2.1]
    exact ⟨.inl, fun either => either.elim id fun ⟨_, starting, tripped⟩ =>
      absurd tripped (deselect_untripped t _ (state.trans starting))⟩

/-- A binding sets pass-pending only with a new selection. -/
theorem bindTrain_pending (b : PerTrain (Tank × Option Nat)) (s : State) (t : Train) :
    ((bindTrain t (b.get t) s).projector.passPending = true → s.projector.passPending = true ∨
      ((bindTrain t (b.get t) s).train t).selection ≠ (s.train t).selection) ∧
    (s.projector.passPending = true → (bindTrain t (b.get t) s).projector.passPending = true) := by
  obtain same | ⟨n, row, -, other, taken⟩ | lost := bindTrain_cases b s t
  · rw [same]
    exact ⟨.inl, id⟩
  · rw [taken]
    refine ⟨fun _ => .inr fun kept => other ?_, fun h => takeRow_pending h⟩
    rw [(takeRow_keeps ..).1] at kept
    exact ⟨_, kept.symm, rfl, rfl⟩
  · rw [lost, (deselect_frame t _).2.2.2.2.2.2.1]
    exact ⟨.inl, id⟩

theorem bindTrain_other (b : PerTrain (Tank × Option Nat)) (s : State) {t u : Train} (h : u ≠ t) :
    SameTrain u s (bindTrain t (b.get t) s) := by
  have bound : SameTrain u s (boundTo t (b.get t).1 s) := SameTrain.setTrain_other h s _
  obtain same | ⟨n, row, -, -, taken⟩ | lost := bindTrain_cases b s t
  · rw [same]
    exact bound
  · rw [taken]
    exact bound.trans (SameTrain.takeRow_other h ..)
  · rw [lost]
    exact bound.trans (SameTrain.deselect_other h _)

theorem bindTrain_same (b : PerTrain (Tank × Option Nat)) {s s' : State} {t : Train} (h : SameTrain t s s') :
    SameTrain t (bindTrain t (b.get t) s) (bindTrain t (b.get t) s') := by
  have bound : SameTrain t (boundTo t (b.get t).1 s) (boundTo t (b.get t).1 s') := by
    rw [boundTo, boundTo, h.train]
    exact h.setTrain _
  have names (n : Nat) (row : EnvelopeRow) : BindingNames b s' t n row ↔ BindingNames b s t n row := by
    rw [BindingNames, BindingNames, h.tables]
  by_cases named : ∃ n row, BindingNames b s t n row
  · obtain ⟨n, row, named⟩ := named
    rw [bindTrain_named named, bindTrain_named ((names n row).2 named), h.train]
    split
    · exact bound
    · exact bound.takeRow n row
  · rw [bindTrain_unnamed fun n row k => named ⟨n, row, k⟩, bindTrain_unnamed fun n row k => named ⟨n, row, (names n row).1 k⟩,
      h.train]
    split
    · exact bound
    · exact bound.deselect

end

/-- The bindings of a list of trains, each in turn. -/
def bindAll (b : PerTrain (Tank × Option Nat)) (l : List Train) (s : State) : State :=
  l.foldl (fun k t => bindTrain t (b.get t) k) s

section
variable (b : PerTrain (Tank × Option Nat))

theorem trainsMoved_bindAll (l : List Train) (s : State) : TrainsMoved s (bindAll b l s) := by
  induction l generalizing s with
  | nil => exact .refl s
  | cons t l ih => exact (trainsMoved_bindTrain b s t).trans (ih _)

theorem bindAll_train (s : State) (t : Train) : SameTrain t (bindTrain t (b.get t) s) (bindAll b allTrains s) :=
  allTrains_sameTrain (f := fun k t => bindTrain t (b.get t) k) (fun s _ _ h => bindTrain_other b s h)
    (fun h => bindTrain_same b h) t s

/-- What the bindings of a list of trains show is what each shows on its own. -/
theorem bindAll_shows (r : State) (l : List Train) (nodup : l.Nodup) (s : State) (h : ∀ t ∈ l, SameTrain t r s) :
    (∀ i, (bindAll b l s).sticky.getLsbD i = true ↔ s.sticky.getLsbD i = true ∨
      ∃ t ∈ l, i = 12 + trainIndex t ∧ (r.train t).state = .starting ∧
        ((bindTrain t (b.get t) r).train t).state = .tripped) ∧
    ((bindAll b l s).projector.passPending = true → s.projector.passPending = true ∨
      ∃ t ∈ l, ((bindTrain t (b.get t) r).train t).selection ≠ (r.train t).selection) ∧
    (s.projector.passPending = true → (bindAll b l s).projector.passPending = true) := by
  induction l generalizing s with
  | nil => simp [bindAll]
  | cons t l ih =>
    obtain ⟨fresh, distinct⟩ := List.nodup_cons.1 nodup
    have here := h t List.mem_cons_self
    have own := (bindTrain_same b here).train
    have later : ∀ u ∈ l, SameTrain u r (bindTrain t (b.get t) s) := fun u mem =>
      (h u (List.mem_cons_of_mem _ mem)).trans (bindTrain_other b s fun same => fresh (same ▸ mem))
    obtain ⟨sticky, pending, stays⟩ := ih distinct _ later
    obtain ⟨first, kept⟩ := bindTrain_pending b s t
    refine ⟨fun i => ?_, fun set => ?_, fun set => stays (kept set)⟩
    · show (bindAll b l (bindTrain t (b.get t) s)).sticky.getLsbD i = true ↔ _
      rw [sticky, bindTrain_sticky, here.train, own, List.exists_mem_cons_iff, or_assoc]
    · rw [List.exists_mem_cons_iff, ← own, ← here.train, ← or_assoc]
      exact (pending set).imp_left first

theorem takeBindings_eq (s : State) :
    let k := bindAll b allTrains s
    let moved (t : Train) : Bool := decide ((s.train t).selection ≠ (k.train t).selection)
    takeBindings b s = { s with
      trains := k.trains
      trainLinks := k.trainLinks
      sticky := k.sticky
      projector := { s.projector with passPending := k.projector.passPending || allTrains.any moved }
      raised := s.raised ++
        (allTrains.filter fun t => moved t || decide ((s.train t).boundTank ≠ (b.get t).1)).map .train } := by
  intro k moved
  have tank (t : Train) : (k.train t).boundTank = (b.get t).1 := by
    rw [(bindAll_train b s t).train]
    exact bindTrain_boundTank b s t
  have written : takeBindings b s = triggerPassIf (allTrains.any moved)
      (noticeTrains (allTrains.filter fun t => moved t || decide ((s.train t).boundTank ≠ (b.get t).1)) k) := by
    simp only [← tank]
    rfl
  have frame : TrainsMoved s k := trainsMoved_bindAll b allTrains s
  rw [written]
  unfold TrainsMoved at frame
  generalize allTrains.filter _ = told
  generalize allTrains.any moved = cause
  clear_value k
  rw [frame]
  cases cause
  · rw [Bool.or_false]
    rfl
  · rw [Bool.or_true]
    rfl

/-- Each train ends as its own binding leaves it. -/
theorem takeBindings_train (s : State) (t : Train) :
    (takeBindings b s).train t = (bindTrain t (b.get t) s).train t ∧
    (takeBindings b s).trainLinks.get t = (bindTrain t (b.get t) s).trainLinks.get t := by
  have own := bindAll_train b s t
  rw [takeBindings_eq]
  exact ⟨own.train, own.link⟩

theorem takeBindings_told (s : State) : ∃ told : List Train, told.Pairwise (fun a b => trainIndex a < trainIndex b) ∧
    (∀ t, t ∈ told ↔ ((takeBindings b s).train t).selection ≠ (s.train t).selection ∨ (b.get t).1 ≠ (s.train t).boundTank) ∧
    takeBindings b s = { s with
      trains := (takeBindings b s).trains
      trainLinks := (takeBindings b s).trainLinks
      sticky := (takeBindings b s).sticky
      projector := { s.projector with passPending := (takeBindings b s).projector.passPending }
      raised := s.raised ++ told.map .train } := by
  have taken := takeBindings_eq b s
  refine ⟨_, List.Pairwise.filter _ (l := allTrains) (by decide), fun t => ?_, taken.trans (by rw [taken])⟩
  rw [(takeBindings_train b s t).1, ← (bindAll_train b s t).train, List.mem_filter, Bool.or_eq_true, decide_eq_true_iff,
    decide_eq_true_iff, ne_comm, ne_comm (a := (s.train t).boundTank)]
  exact and_iff_right (mem_allTrains t)

/-- The bindings set pass-pending exactly with a changed selection. -/
theorem takeBindings_pending (s : State) : (takeBindings b s).projector.passPending = true ↔
    s.projector.passPending = true ∨ ∃ t, ((takeBindings b s).train t).selection ≠ (s.train t).selection := by
  obtain ⟨-, pending, stays⟩ := bindAll_shows b s allTrains (by decide) s fun t _ => .refl t s
  have passes : (takeBindings b s).projector.passPending = ((bindAll b allTrains s).projector.passPending ||
      allTrains.any fun t => decide ((s.train t).selection ≠ ((bindAll b allTrains s).train t).selection)) := by
    rw [takeBindings_eq]
  rw [passes, Bool.or_eq_true, List.any_eq_true]
  simp only [decide_eq_true_iff, (takeBindings_train b s _).1, (bindAll_train b s _).train, mem_allTrains, true_and] at pending ⊢
  constructor
  · rintro (set | ⟨t, other⟩)
    · exact pending set
    · exact .inr ⟨t, other.symm⟩
  · exact Or.imp stays fun ⟨t, other⟩ => ⟨t, other.symm⟩

/-- The bindings trip exactly the STARTING trains whose new start limit has passed. -/
theorem takeBindings_sticky (s : State) (i : Nat) : (takeBindings b s).sticky.getLsbD i = true ↔
    s.sticky.getLsbD i = true ∨ ∃ t, i = 12 + trainIndex t ∧ (s.train t).state = .starting ∧
      ((takeBindings b s).train t).state = .tripped := by
  obtain ⟨sticky, -⟩ := bindAll_shows b s allTrains (by decide) s fun t _ => .refl t s
  have shown : (takeBindings b s).sticky = (bindAll b allTrains s).sticky := by rw [takeBindings_eq]
  rw [shown, sticky]
  simp only [mem_allTrains, true_and, (takeBindings_train b s _).1]

end

/-! ### CONFIGURE: the checks in order (R205) -/

theorem lengthFits_iff (i : ItemId) (words : List Nat) : lengthFits i words = true ↔
    if i = .envelopeTable then
      ∃ k first rest, 1 ≤ k ∧ k ≤ 15 ∧ words = first :: rest ∧ rest.length = 8 * k ∧ first + k ≤ 24
    else words.length = itemWords i := by
  by_cases table : i = .envelopeTable
  · rw [if_pos table, table]
    show (partRows words).isSome = true ↔ _
    unfold partRows
    split
    · refine iff_of_false nofun ?_
      rintro ⟨_, _, _, _, _, empty, _⟩
      cases empty
    · next first rest =>
      dsimp only
      split
      · next fits =>
        obtain ⟨whole, some_, few, within⟩ := fits
        exact iff_of_true rfl ⟨rest.length / 8, first, rest, some_, few, rfl, by omega, by omega⟩
      · next unfit =>
        refine iff_of_false nofun ?_
        rintro ⟨k, _, _, some_, few, same, length, within⟩
        cases same
        exact unfit ⟨by omega, by omega, by omega, by omega⟩
  · rw [if_neg table]
    cases i with
    | envelopeTable => exact absurd rfl table
    | _ => exact decide_eq_true_iff

theorem validityBit_and_iff (x : BitVec 12) (i : ItemId) : x &&& validityBit i ≠ 0 ↔ x.getLsbD (itemIndex i) = true := by
  have small : itemIndex i < 12 := by cases i <;> decide
  have bit (j : Nat) (hj : j < 12) : (validityBit i).getLsbD j = true ↔ j = itemIndex i := by
    rw [validityBit, BitVec.getLsbD_ofNat, Bool.and_eq_true, decide_eq_true_iff, Nat.testBit_two_pow, decide_eq_true_iff, eq_comm]
    exact and_iff_right hj
  rw [← bne_iff_ne, bitVec_ne_zero_iff]
  simp only [BitVec.getLsbD_and, Bool.and_eq_true]
  constructor
  · rintro ⟨j, hj, set, own⟩
    rw [← (bit j hj).1 own]
    exact set
  · intro set
    exact ⟨itemIndex i, small, set, (bit _ small).2 rfl⟩

section
variable {s : State} {words : List Nat}

theorem configureOwner_running {request : Nat × List Nat} (h : s.dispatcher.mode = .dispatching ∨ s.dispatcher.mode = .stopping) :
    configureOwner request s = configureReply .wrongState s := by
  unfold configureOwner
  obtain mode | mode := h <;> rw [mode]

section
variable (h : s.dispatcher.mode = .unconfigured ∨ s.dispatcher.mode = .standby)
include h

theorem configureOwner_resting (request : Nat × List Nat) : configureOwner request s =
    if request.1 = 0 then
      if request.2 = [] then configureReply .doneUnchanged s else configureReply .outOfRange s
    else
      ((itemNamed request.1).map fun i => configureItem i request.2 s).getD (configureReply .outOfRange s) := by
  unfold configureOwner
  obtain mode | mode := h <;> rw [mode] <;> dsimp only <;> cases itemNamed request.1 <;> rfl

theorem configureOwner_none {identifier : Nat} (beyond : 12 < identifier) :
    configureOwner (identifier, words) s = configureReply .outOfRange s := by
  rw [configureOwner_resting h, if_neg (by dsimp only; omega), itemNamed_none (.inr beyond)]
  rfl

theorem configureOwner_item (i : ItemId) : configureOwner (itemIndex i + 1, words) s = configureItem i words s := by
  rw [configureOwner_resting h, if_neg (Nat.succ_ne_zero _), itemNamed_index]
  rfl

end

variable {i : ItemId}

theorem configureItem_unsized (h : ¬ lengthFits i words = true) : configureItem i words s = configureReply .outOfRange s :=
  if_neg h

section
variable (sized : lengthFits i words = true)
include sized

theorem configureItem_wrongKind (h : kindsFit i words = false) :
    configureItem i words s = configureReply .wrongKind (setSticky .configItemInvalid s) := by
  rw [configureItem, if_pos sized, if_neg (by rw [h]; decide)]

variable (kinds : kindsFit i words = true)
include kinds

theorem configureItem_unread (h : readConfigure i words = none) :
    configureItem i words s = configureReply .outOfRange (setSticky .configItemInvalid s) := by
  rw [configureItem, if_pos sized, if_pos kinds, h]

variable {item : ConfigItem} (read : readConfigure i words = some item)
include read

theorem configureItem_unsound (h : configureSound s item = false) :
    configureItem i words s = configureReply .outOfRange (setSticky .configItemInvalid s) := by
  rw [configureItem, if_pos sized, if_pos kinds, read]
  dsimp only
  rw [if_neg (by rw [h]; decide)]

variable (sound : configureSound s item = true)
include sound

theorem configureItem_used {status : Status} (h : configureInUse s item = some status) :
    configureItem i words s = configureReply status s := by
  rw [configureItem, if_pos sized, if_pos kinds, read]
  dsimp only
  rw [if_pos sound, h]

variable (free : configureInUse s item = none)
include free

theorem configureItem_unchanged (h : s.loader.validity.getLsbD (itemIndex i) = true ∧ inForce s item = true) :
    configureItem i words s = configureReply .doneUnchanged s := by
  rw [configureItem, if_pos sized, if_pos kinds, read]
  dsimp only
  rw [if_pos sound, free]
  dsimp only
  rw [if_pos ⟨(validityBit_and_iff ..).2 h.1, h.2⟩]

theorem configureItem_taken (h : ¬ (s.loader.validity.getLsbD (itemIndex i) = true ∧ inForce s item = true)) :
    configureItem i words s = configureReply .done (configured (takeValid item s)) := by
  rw [configureItem, if_pos sized, if_pos kinds, read]
  dsimp only
  rw [if_pos sound, free]
  dsimp only
  rw [if_neg fun both => h ⟨(validityBit_and_iff ..).1 both.1, both.2⟩]

end

end

theorem exec_configure_admitted {f : Frame} {s r : State} {identifier : Nat} {words : List Nat} {status : Status} {t : State}
    (ha : Admitted supervisoryOnly f s r) (hb : f.body = configureOctets identifier words)
    (he : configureEncodable identifier words) (h : configureOwner (identifier, words) r = configureReply status t) :
    exec (.configure f) s = .next (answered f 0x44 status (u16 t.loader.validity.toNat ++ u8 (modeCode t.dispatcher.mode)) t) := by
  have executed : exec (.configure f) s = .next (afterOwner f 0x44 (configureOwner (identifier, words) r)) :=
    congrArg Host.Outcome.next (atOnce_admitted ha (hb ▸ parseBody_configure identifier words he))
  rw [executed, h]
  exact congrArg Host.Outcome.next (afterOwner_withBody ..)

/-- Settles O53: CONFIGURE by its checks, and the taking of each item by its owner. -/
theorem configureWritesOneItem : Obligations.ConfigureWritesOneItem := by
  unfold Obligations.ConfigureWritesOneItem
  refine ⟨fun f identifier words s r ha hb he => ?_, fun s => ?_⟩
  · intro outcome invalid mode
    have answers {status : Status} {t : State} (h : configureOwner (identifier, words) r = configureReply status t) :
        outcome status t := exec_configure_admitted ha hb he h
    refine ⟨fun running => answers (configureOwner_running running), fun resting =>
      ⟨fun zero none => ?_, fun zero some_ => ?_, fun beyond => answers (configureOwner_none resting beyond),
       fun i named => ?_⟩⟩
    · exact answers ((configureOwner_resting resting _).trans ((if_pos zero).trans (if_pos none)))
    · exact answers ((configureOwner_resting resting _).trans ((if_pos zero).trans (if_neg some_)))
    · intro sized
      subst named
      have item_ {status : Status} {t : State} (h : configureItem i words r = configureReply status t) : outcome status t :=
        answers ((configureOwner_item resting i).trans h)
      have fits : lengthFits i words = true ↔ sized := lengthFits_iff i words
      refine ⟨fun unsized => item_ (configureItem_unsized (fits.not.2 unsized)), fun is wrong =>
        item_ (configureItem_wrongKind (fits.2 is) wrong), fun is kinds => ⟨fun unread =>
          item_ (configureItem_unread (fits.2 is) kinds unread), fun item read => ⟨fun unsound =>
            item_ (configureItem_unsound (fits.2 is) kinds read unsound), fun sound => ⟨fun status used =>
              item_ (configureItem_used (fits.2 is) kinds read sound used), fun free => ?_⟩⟩⟩⟩
      intro same taken validity valid
      refine ⟨fun equal => item_ (configureItem_unchanged (fits.2 is) kinds read sound free equal), fun differs => ?_⟩
      have takes : takeValid item r = valid := by rw [takeValid_eq, readConfigure_itemId read]
      have unconfigured : valid.dispatcher.mode = .unconfigured ↔ mode = .unconfigured := takeItem_unconfigured item r
      have done {t : State} (h : configured valid = t) : outcome .done t :=
        item_ ((configureItem_taken (fits.2 is) kinds read sound free differs).trans (by rw [takes, h]))
      refine ⟨fun first all => done (configured_standby (unconfigured.2 first) all), fun other => done (configured_same ?_)⟩
      rintro ⟨first, all⟩
      obtain standby | missing := other
      · cases standby.symm.trans (unconfigured.1 first)
      · exact missing all
  · intro pending
    refine ⟨fun th => rfl, fun points => ?_, fun v => rfl, fun v => rfl, fun v => rfl, fun v => rfl, fun v => rfl, fun v => ?_,
      fun ms => ?_, fun compressor expander => rfl, fun first rows n row found => ?_, fun b => ?_⟩
    · rw [← beq_eq_decide]
      rfl
    · intro emptied kept
      exact congrArg triggerPass (takeCapacities_eq v s)
    · intro k silent
      let started := onLoader (fun l => { l with silenceTimeout := ms }) s
      let lost := allTrains.filter (silenceExpired started)
      have after : k = expireAll lost started := takeSilenceTimeout_eq ms s
      have nodup : lost.Nodup := List.Nodup.filter _ (by decide)
      have mem (t : Train) : t ∈ lost ↔ silent t := by
        rw [List.mem_filter, silenceExpired_iff]
        exact and_iff_right (mem_allTrains t)
      rw [after]
      refine ⟨⟨lost, List.Pairwise.filter _ (by decide), mem, expireAll_changes lost started⟩, fun t => ?_, fun i => ?_⟩
      · obtain ⟨stays, expires⟩ := expireAll_train nodup started t
        exact ⟨fun no => stays ((mem t).not.2 no), fun yes => expires ((mem t).2 yes)⟩
      · rw [expireAll_sticky]
        simp only [mem]
        exact Iff.rfl
    · intro k
      refine ⟨rfl, fun outside => (writeRows_outside outside).trans found, fun i d given same => ?_⟩
      subst same
      exact writeRows_inside given found
    · intro k bound moved names becomes
      have bindings (t : Train) {u : State} (h : bindTrain t (b.get t) s = u) : becomes t u := by
        subst h
        exact takeBindings_train b s t
      refine ⟨takeBindings_told b s, takeBindings_pending b s, takeBindings_sticky b s, fun t n row named => ?_,
        fun t unnamed => ?_⟩
      · have held := holdsRow_iff (s.train t) n row
        have binds := bindTrain_named named
        exact ⟨fun h => bindings t (binds.trans (if_pos (held.2 h))),
          fun h => bindings t (binds.trans (if_neg (held.not.2 h)))⟩
      · have binds := bindTrain_unnamed unnamed
        exact ⟨fun h => bindings t (binds.trans (if_pos h)), fun h => bindings t (binds.trans (if_neg h))⟩

end Sys2Proof.Machine
end
